-- ==== Sys2Proof/Word.lean ====
section
/-!
DEFINITION. Sys2Proof/Word.lean: the two word types the manual gives widths to: the 64-bit page access of R121 and
the byte that memory is addressed by.
-/
namespace Sys2Proof

/-- A 64-bit register image: what one page access carries (R121). -/
abbrev Word := BitVec 64

/-- One addressable byte. -/
abbrev Byte := BitVec 8

end Sys2Proof
end

