-- ==== Sys2Proof/Syntax.lean ====
section
/-!
DEFINITION. Sys2Proof/Syntax.lean: the commands of the 641 as syntax, one constructor for each row of the table of
operations and events, with what each command carries from outside: the accessor and the value of a register write,
the levels and physical outcomes that an event meets.
-/
namespace Sys2Proof

/-- Who makes an access (R113): the host, Keeper, Keeper on behalf of a management session, an applet, the debug port,
and the host by a command on the host channel (R639). -/
inductive Accessor where
  | host | keeper | mgmt | applet | debug | hostCmd
  deriving DecidableEq, Repr

/-- What starts a power-on reset (R188, RST_CAUSE.SOURCE). -/
inductive PorSource where
  | ramp | porn | brownOut
  deriving DecidableEq, Repr

/-- The two targets of the ICU (R226). -/
inductive Target where
  | t0 | t1
  deriving DecidableEq, Repr

/-- The two ends of a retried read or test: how an operation's attempts went (R192). -/
inductive Attempts where
  | first | second | lasting
  deriving DecidableEq, Repr

/-- How a check of an image ended, where the manual's check is a named standard function (a signature). -/
structure ImageCheck where
  /-- How the attempts to read it from secure NVM went (R179). -/
  read : Attempts
  signatureOk : Bool
  deriving DecidableEq, Repr

/-- What one run of EMC training meets (R589, R590): the density read from MR8 (code of EMC_CFG.DENSITY), how the attempts
went, and the step that failed. -/
structure Training where
  density : Nat
  attempts : Attempts
  failedStep : Nat
  deriving DecidableEq, Repr

/-- What the boot chain of R178 meets outside the 641's own state. -/
structure BootEnv where
  keeper : ImageCheck
  microcodeOk : Bool
  training : Training
  /-- Signature checks of the applet images, by slot (R178, step 5). -/
  appletsOk : List Bool
  deriving DecidableEq, Repr

/-- What the field branch of R178 meets: the barrier link is up, the attempts to read the table image, its signature. -/
structure FieldEnv where
  linkUp : Bool
  table : ImageCheck
  /-- The Carapace's own CRC and digest checks of the transferred table hold. -/
  transferOk : Bool
  deriving DecidableEq, Repr

/-- A run of SCLK cycles over which the raw levels of FI00 to FI03 stand (R275): the units sample them in every cycle. -/
structure FastRun where
  cycles : Nat
  levels : BitVec 4
  deriving DecidableEq, Repr

/-- What one scan meets on the field side (R258): the frame's CRC, raw input levels, the runs of levels on FI00 to FI03
over the slot's 1000 SCLK cycles, output pads above 10 V and below VFLD − 3 V, channels in current limit and above 170 °C, die temperature, VFLD, parity faults of gather
reads by slot, and how the scan's two CRC checks of the active table (R308) and of a received body (R312) come out. -/
structure ScanEnv where
  frameOk : Bool
  raw : BitVec 32
  fast : List FastRun
  padsHigh : BitVec 16
  padsLow : BitVec 16
  limit : BitVec 16
  hot : BitVec 16
  temp : BitVec 8
  tempTenth : BitVec 24
  vfldMv : BitVec 16
  gatherFaults : List Bool
  tableCrcOk : Bool
  loadCrcOk : Bool
  deriving DecidableEq, Repr

/-- What one inbound slot meets (R258, R261): whether the CRC of the inbound frame matches as it arrives, the bits that the lane flips in
the acknowledge words for the outbound and the inbound frame (none: the word does not arrive), and LOG entries whose parity has been
upset since the last slot (class, and whether the second read fails too). -/
structure InEnv where
  frameOk : Bool
  ackOut : Option (BitVec 16)
  ackIn : Option (BitVec 16)
  logUpsets : List (Nat × Bool)
  deriving DecidableEq, Repr

/-- What the watch lanes do in one watch slot (R162, R268): whether the CRC of the watch frame of each direction matches as it arrives, and the
bits that the lanes flip in the acknowledge words for them (none: the word does not arrive). -/
structure WatchLanes where
  outOk : Bool
  inOk : Bool
  ackOut : Option (BitVec 16)
  ackIn : Option (BitVec 16)
  deriving DecidableEq, Repr

/-- MSI-X Enable and the Mask bit of vector 0, as the host leaves them (R241, R616). -/
structure MsixControl where
  enabled : Bool
  masked : Bool
  deriving DecidableEq, Repr

/-- How the checks of a table image that are named standard functions come out (R310): its two CRCs, its signature, and the
write to secure NVM (ITE_LOADSTAT cause 0x06). -/
structure TableCheck where
  crcOk : Bool
  signatureOk : Bool
  writeOk : Bool
  deriving DecidableEq, Repr
/-- A frame on a CAN bus as a controller meets it (R418, R426): identifier, format, data length code, data, whether it is remote,
whether its MAC verifies under the key that its identifier calls for (R445, R464, R480), the offset of the sender's boundary that
a reference shows (R465), and that it ended without error; `dlc` is the ISO data length code. -/
structure BusFrame where
  id : Nat
  ide : Bool
  fdf : Bool
  brs : Bool
  esi : Bool
  remote : Bool
  dlc : Nat
  data : List Byte
  macOk : Bool
  offset : Int
  deriving DecidableEq, Repr

/-- What a controller receives: a whole frame, or a frame that ends in an error, with the error code of CBn_ERR.LEC, its phase, and
the step of the receive error counter that ISO 11898-1 gives it. -/
inductive Received where
  | frame (f : BusFrame)
  | error (lec : Nat) (dataPhase : Bool) (step : Nat)
  deriving DecidableEq, Repr

/-- How an offer at arbitration goes (R431 to R433): the frame takes the bus, loses arbitration, is sent, or fails with an error;
`hold` where ISO 11898-1 leaves the transmit error counter unchanged. -/
inductive Attempt where
  | start
  | lost
  | sent
  | failed (lec : Nat) (dataPhase hold : Bool)
  deriving DecidableEq, Repr

/-- What ECC finds in a load, a fetch or the read of a narrower write (R514, R593): nothing, a single-bit error, an uncorrectable
error that the second read does not show, one that it does. -/
inductive Ecc where
  | ok | corrected | transient | lasting
  deriving DecidableEq, Repr

/-- How the end of a package load goes where the manual's checks are named standard functions or physical reads (R408, R411): the
GCM tag, and what ECC finds at a byte of the image in external memory. -/
structure PkgEnv where
  read : Ecc
  unit : Nat
  tagOk : Bool
  deriving DecidableEq, Repr

/-- How the checks of an applet image that are outside the 641's own state go (R532). -/
structure LoadCheck where
  signatureOk : Bool
  writeOk : Bool
  deriving DecidableEq, Repr

/-- How the parts of a KEY command go that are named standard functions or physical (R545, R556, R573): a signature, a GCM tag,
programming secure NVM, the read-back of a fuse, the CRCs and the signature of the stored table. -/
structure KeyCheck where
  signatureOk : Bool
  tagOk : Bool
  programOk : Bool
  tableOk : Bool
  deriving DecidableEq, Repr

/-- An H2D ring entry as HBX finds it (R630, R632): the fields, the segments' lengths, the index of the first read that fails
(0xFF for the segment table) if one does, whether the tag matches, and the message that the ciphertext holds. -/
structure H2dEntry where
  seq : Nat
  len : Nat
  nseg : Nat
  table : Nat
  zeroOk : Bool
  segments : List Nat
  readFail : Option Byte
  tagOk : Bool
  message : List Byte
  deriving DecidableEq, Repr

/-- A command of a channel (R635, R636): the channel, the TAG, and the body. -/
structure Cmd where
  channel : BitVec 16
  tag : BitVec 32
  body : List Byte
  deriving DecidableEq, Repr

/-- A DTLS handshake as it goes (R648, R649): the credential offered, and whether the cookie and the named checks hold. -/
inductive Hello where
  | noCookie
  | badParameters
  | certificate (ok : Bool)
  | psk (identity : List Byte) (binderOk : Bool)
  deriving DecidableEq, Repr

/-- The operations and events of the 641, in the table's order. -/
inductive Instr where
  /-- CARAPACE_SCAN (R258). -/
  | carapaceScan (env : ScanEnv)
  /-- INBOUND_FRAME (R258). -/
  | inboundFrame (env : InEnv)
  /-- SILENCE_DROP (R27). -/
  | silenceDrop
  /-- BARRIER_SILENCE (R29). -/
  | barrierSilence
  /-- WATCH_FRAME (R268): what the lanes do, the raw levels of the pulsed sample and the field supply's monitor (R274), and whether more than
  30 ms have passed since the last watch frame (R162). -/
  | watchFrame (lanes : WatchLanes) (raw : BitVec 32) (vfldOk late : Bool)
  /-- FENCE_AUTH_FAIL (R24). -/
  | fenceAuthFail
  /-- FENCE_REVOKE (R23). -/
  | fenceRevoke
  /-- VISO_IN_LOSS (R30). -/
  | visoInLoss
  /-- VISO_IN_RETURN (R172). -/
  | visoInReturn (env : FieldEnv)
  /-- VFLD_CHANGE (R30). -/
  | vfldChange (ok : Bool)
  /-- POWER_ON_RESET (R170). -/
  | powerOnReset (source : PorSource)
  /-- POWER_ON_RESET_END (R165). -/
  | powerOnResetEnd (xmode : Bool)
  /-- BATTERY_POWER_ON (R174). -/
  | batteryPowerOn
  /-- BATTERY_HOLD_ENTRY (R158). -/
  | batteryHoldEntry
  /-- WARM_RESET (R171). -/
  | warmReset
  /-- PLL_LOCK (R154). -/
  | pllLock (env : BootEnv)
  /-- PLL_LOCK_TIMEOUT (R154). -/
  | pllLockTimeout
  /-- PLL_LOCK_LOST (R154). -/
  | pllLockLost
  /-- VDDQ_LOSS (R167). -/
  | vddqLoss
  /-- VDDQ_RETURN (R167). -/
  | vddqReturn (training : Training)
  /-- VPCIE_LOSS (R167). -/
  | vpcieLoss
  /-- VPCIE_RETURN (R167). -/
  | vpcieReturn
  /-- VBAT_LOW (R187). -/
  | vbatLow
  /-- XIN_MEASUREMENT (R156). -/
  | xinMeasurement (dev : BitVec 16)
  /-- PWR_MON_UPDATE (R187). -/
  | pwrMonUpdate (logicMw fieldMw : Nat)
  /-- PWR_MON_FINE_UPDATE (R187). -/
  | pwrMonFineUpdate (logicMw fieldMw : Nat)
  /-- PWR_LEVEL_UPDATE (R187): VBAT in mV as the figure's sample takes it, and as the battery domain's monitor meets it (R165). -/
  | pwrLevelUpdate (vbatMv monitorMv : Nat)
  /-- BOOT_FIELD_BRANCH (R184). -/
  | bootFieldBranch (env : FieldEnv)
  /-- RST_CMD_WARM (R170). -/
  | rstCmdWarm (acc : Accessor)
  /-- RST_CMD_MOLT (R170). -/
  | rstCmdMolt (acc : Accessor)
  /-- RST_CMD_CARAPACE (R172). -/
  | rstCmdCarapace (acc : Accessor)
  /-- PERSTN (R175). -/
  | perstn
  /-- PCI_RESET (R620). -/
  | pciReset (d3hot : Bool)
  /-- MOD_EVALUATION (R94). -/
  | modEvaluation
  /-- MOD_REQN_WRITE (R80). -/
  | modReqnWrite (acc : Accessor) (index : Fin 11) (value arg : Byte)
  /-- MOD_REQ_CANCEL (R81). -/
  | modReqCancel (acc : Accessor) (index : Fin 11)
  /-- MODE_INPUT_CHANGE (R57). -/
  | modeInputChange (input : Fin 8)
  /-- SECURE_DEGRADED_PARKED (R106). -/
  | secureDegradedParked
  /-- FIREFLY_WAKE (R163). -/
  | fireflyWake (source : Nat)
  /-- FFY_TIMER_EXPIRY (R249). -/
  | ffyTimerExpiry
  /-- CB_WAKE_PATTERN (R419). -/
  | cbWakePattern (bus : Fin 2)
  /-- REGISTER_WRITE (R134). -/
  | registerWrite (acc : Accessor) (page offset : Nat) (value : Word)
  /-- UNASSIGNED_PAGE_ACCESS (R120). -/
  | unassignedPageAccess (page : Nat)
  /-- NARROW_ACCESS (R121). -/
  | narrowAccess (acc : Accessor) (page : Nat)
  /-- EVT_CLEAR (R129). -/
  | evtClear (acc : Accessor) (page : Nat) (bits : Word)
  /-- EVTEN_WRITE (R130). -/
  | evtenWrite (acc : Accessor) (page : Nat) (bits : Word)
  /-- TRCLR_WRITE (R132). -/
  | trclrWrite (acc : Accessor) (page : Nat) (bits : Word)
  /-- LOCK_ARM (R137). -/
  | lockArm (acc : Accessor) (page : Nat) (seq : Byte) (arm : BitVec 16)
  /-- LOCK_CANCEL (R140). -/
  | lockCancel (acc : Accessor) (page : Nat)
  /-- LOCKED_REGISTER_WRITE (R138). -/
  | lockedRegisterWrite (acc : Accessor) (page offset : Nat) (value : Word)
  /-- LOCK_WINDOW_EXPIRY (R140). -/
  | lockWindowExpiry (page : Nat)
  /-- SYS_ASSET_SET (R149). -/
  | sysAssetSet (acc : Accessor) (value : Word)
  /-- LOG_CLR_CLASS (R217). -/
  | logClrClass (acc : Accessor) (classes : Word) (upsets : List (Nat × Bool))
  /-- LOG_CLR_SELF (R217). -/
  | logClrSelf (acc : Accessor) (bits : Word)
  /-- DOORBELL_DRAIN (R220). -/
  | doorbellDrain
  /-- GROUP_TIMER_EXPIRY (R228). -/
  | groupTimerExpiry (group : Fin 16)
  /-- MSIX_UNMASK (R241): what the host writes. -/
  | msixUnmask (control : MsixControl)
  /-- ICU_GCFG_WRITE (R236). -/
  | icuGcfgWrite (acc : Accessor) (group : Fin 16) (value : Word)
  /-- ICU_SRCCFG_WRITE (R235). -/
  | icuSrccfgWrite (acc : Accessor) (index : Fin 64) (value : Word)
  /-- ICU_CLAIM (R231). -/
  | icuClaim (acc : Accessor) (target : Target)
  /-- ICU_COMPLETE (R233). -/
  | icuComplete (acc : Accessor) (target : Target) (source : Nat)
  /-- FOUT_SET (R283). -/
  | foutSet (acc : Accessor) (value mask : BitVec 16)
  /-- FCNT_RESET (R279). -/
  | fcntReset (acc : Accessor) (units : BitVec 4)
  /-- FOUT_UNINHIBIT (R288). -/
  | foutUninhibit (acc : Accessor) (channels : BitVec 16)
  /-- FOUT_SWEEP_START (R289). -/
  | foutSweepStart (acc : Accessor) (mask : BitVec 16) (onTest allOff : Bool) (settle : Byte)
  /-- FOUT_SWEEP_ABORT (R292). -/
  | foutSweepAbort (acc : Accessor)
  /-- SWEEP_SETTLE_EXPIRY (R289). -/
  | sweepSettleExpiry
  /-- FLD_GATHER_START (R293). -/
  | fldGatherStart (acc : Accessor) (count : BitVec 5)
  /-- PULSED_SAMPLE (R272). -/
  | pulsedSample (raw : BitVec 32)
  /-- INPUT_FILTER_CHANGE (R273). -/
  | inputFilterChange (input : Fin 32)
  /-- PERIOD_OVERFLOW (R275). -/
  | periodOverflow (unit : Fin 4)
  /-- FREQUENCY_GATE_END (R275). -/
  | frequencyGateEnd (unit : Fin 4)
  /-- THERMAL_SHUTDOWN (R284). -/
  | thermalShutdown (channel : Fin 16)
  /-- CURRENT_LIMIT (R284). -/
  | currentLimit (channel : Fin 16)
  /-- OUTPUT_FAULT (R286). -/
  | outputFault (channel : Fin 16)
  /-- ITE_TRIPCLR (R309). -/
  | iteTripclr (acc : Accessor)
  /-- ITE_STORE (R311). -/
  | iteStore (acc : Accessor) (check : TableCheck)
  /-- ITE_STORE_AND_LOAD (R312). -/
  | iteStoreAndLoad (acc : Accessor) (check : TableCheck)
  /-- TABLE_LOAD_DONE (R312). -/
  | tableLoadDone
  /-- CMG_ARM (R330). -/
  | cmgArm (acc : Accessor) (base : BitVec 16)
  /-- CAR_UNIT_SCALE_WRITE (R346). -/
  | carUnitScaleWrite (acc : Accessor) (scale : Bool) (value : Word)
  /-- DOOR_STATUS_FRAME (R355). -/
  | doorStatusFrame (door : Fin 2) (payload : List Byte)
  /-- DWELL_EXPIRY (R359). -/
  | dwellExpiry (door : Fin 2)
  /-- LOCK_MS_EXPIRY (R364). -/
  | lockMsExpiry (door : Fin 2)
  /-- NUDGE_HOLD_EXPIRY (R361). -/
  | nudgeHoldExpiry (door : Fin 2)
  /-- DOR_UNHOLD (R358). -/
  | dorUnhold (acc : Accessor) (door : Fin 2)
  /-- CALL_FRAME (R381). -/
  | callFrame (bus : Fin 2) (job : Fin 64) (payload : List Byte)
  /-- CALL_CANCEL (R383). -/
  | callCancel (bus : Fin 2) (job : Fin 64) (payload : List Byte)
  /-- DSE_PASS (R375). -/
  | dsePass (overtaken : Bool)
  /-- DRIVE_STATUS_FRAME (R450). -/
  | driveStatusFrame (payload : List Byte)
  /-- ACK_RETRY (R405). -/
  | ackRetry
  /-- PKG_LOAD (R408). -/
  | pkgLoad (acc : Accessor)
  /-- PKG_LOAD_END (R411). -/
  | pkgLoadEnd (env : PkgEnv)
  /-- DSE_PERF_UPDATE (R413). -/
  | dsePerfUpdate
  /-- DSE_TOD_ADVANCE (R414). -/
  | dseTodAdvance
  /-- CAN_FRAME_RECEIVE (R426). -/
  | canFrameReceive (bus : Fin 2) (received : Received)
  /-- RXPOP (R428). -/
  | rxpop (acc : Accessor) (bus : Fin 2)
  /-- TXGO_BUFFER (R429). -/
  | txgoBuffer (acc : Accessor) (bus : Fin 2) (dest : Fin 8)
  /-- TXGO_QUEUE (R429). -/
  | txgoQueue (acc : Accessor) (bus : Fin 2)
  /-- TXJOB (R447). -/
  | txjob (acc : Accessor) (bus : Fin 2) (job : Fin 64)
  /-- ABORT_HEAD (R454). -/
  | abortHead (acc : Accessor) (bus : Fin 2)
  /-- FLUSH (R454). -/
  | flush (acc : Accessor) (bus : Fin 2)
  /-- BUFABORT (R440). -/
  | bufabort (acc : Accessor) (bus : Fin 2) (buffers : Byte)
  /-- CAN_TRANSMIT_ATTEMPT (R433). -/
  | canTransmitAttempt (bus : Fin 2) (attempt : Attempt)
  /-- BUS_OFF_RECOVERY (R437). -/
  | busOffRecovery (bus : Fin 2)
  /-- KEEPER_RECOVERY_REQUEST (R438). -/
  | keeperRecoveryRequest (bus : Fin 2)
  /-- RATE_SEARCH_DWELL (R439). -/
  | rateSearchDwell (bus : Fin 2)
  /-- BIT_TIMING_WRITE (R423). -/
  | bitTimingWrite (acc : Accessor) (bus : Fin 2) (data : Bool) (value : Word)
  /-- JOB_HEARTBEAT (R448). -/
  | jobHeartbeat (bus : Fin 2) (job : Fin 64)
  /-- JOB_SUPERVISION_TIMEOUT (R448). -/
  | jobSupervisionTimeout (bus : Fin 2) (job : Fin 64)
  /-- CYCLE_BOUNDARY (R457). -/
  | cycleBoundary
  /-- REFERENCE_LATE_DROP (R463). -/
  | referenceLateDrop (bus : Fin 2)
  /-- REFERENCE_RECEIVE (R464). -/
  | referenceReceive (lengthOk macOk : Bool) (payload : List Byte) (fresh : Nat) (offset : Int)
  /-- REFERENCE_MISS (R473). -/
  | referenceMiss
  /-- WAKE_SEARCH_END (R476). -/
  | wakeSearchEnd
  /-- FIXTURE_STATUS_FRAME (R478). -/
  | fixtureStatusFrame (bus : Fin 2) (job : Fin 64) (payload : List Byte)
  /-- DIGEST_EXCHANGE (R484). -/
  | digestExchange
  /-- DIGEST_RECEIVE (R483). -/
  | digestReceive (station : Fin 8) (macOk : Bool) (fresh : Nat) (payload : List Byte)
  /-- STATION_ABSENT (R483). -/
  | stationAbsent (station : Fin 8)
  /-- BID_FRAME (R487). -/
  | bidFrame (station : Fin 8) (macOk : Bool) (fresh : Nat) (payload : List Byte)
  /-- ASSIGNMENT_FRAME (R489). -/
  | assignmentFrame (station : Fin 8) (macOk : Bool) (fresh : Nat) (payload : List Byte)
  /-- INTERRUPT (R516). -/
  | interrupt
  /-- ADD (R508). -/
  | addOp (rd rs1 rs2 : Fin 16)
  /-- SUB (R508). -/
  | subOp (rd rs1 rs2 : Fin 16)
  /-- AND (R508). -/
  | andOp (rd rs1 rs2 : Fin 16)
  /-- OR (R508). -/
  | orOp (rd rs1 rs2 : Fin 16)
  /-- XOR (R508). -/
  | xorOp (rd rs1 rs2 : Fin 16)
  /-- SHL (R508). -/
  | shl (rd rs1 rs2 : Fin 16)
  /-- SHR (R508). -/
  | shr (rd rs1 rs2 : Fin 16)
  /-- SHRA (R508). -/
  | shra (rd rs1 rs2 : Fin 16)
  /-- CLT (R508). -/
  | clt (rd rs1 rs2 : Fin 16)
  /-- CLTU (R508). -/
  | cltu (rd rs1 rs2 : Fin 16)
  /-- MUL (R508). -/
  | mulOp (rd rs1 rs2 : Fin 16)
  /-- MULHIU (R508). -/
  | mulhiu (rd rs1 rs2 : Fin 16)
  /-- MULHIS (R508). -/
  | mulhis (rd rs1 rs2 : Fin 16)
  /-- QUOU (R508). -/
  | quou (rd rs1 rs2 : Fin 16)
  /-- MODU (R508). -/
  | modu (rd rs1 rs2 : Fin 16)
  /-- QUOS (R508). -/
  | quos (rd rs1 rs2 : Fin 16)
  /-- MODS (R508). -/
  | mods (rd rs1 rs2 : Fin 16)
  /-- SELNZ (R508). -/
  | selnz (rd rs1 rs2 : Fin 16)
  /-- ROTR (R508). -/
  | rotr (rd rs1 rs2 : Fin 16)
  /-- LZC (R508). -/
  | lzc (rd rs1 : Fin 16)
  /-- ONES (R508). -/
  | ones (rd rs1 : Fin 16)
  /-- ADDK (R509). -/
  | addk (rd rs1 : Fin 16) (imm : BitVec 18)
  /-- ANDK (R509). -/
  | andk (rd rs1 : Fin 16) (imm : BitVec 18)
  /-- ORK (R509). -/
  | ork (rd rs1 : Fin 16) (imm : BitVec 18)
  /-- XORK (R509). -/
  | xork (rd rs1 : Fin 16) (imm : BitVec 18)
  /-- SHLK (R509). -/
  | shlk (rd rs1 : Fin 16) (amount : BitVec 6)
  /-- SHRK (R509). -/
  | shrk (rd rs1 : Fin 16) (amount : BitVec 6)
  /-- SHRAK (R509). -/
  | shrak (rd rs1 : Fin 16) (amount : BitVec 6)
  /-- CLTK (R509). -/
  | cltk (rd rs1 : Fin 16) (imm : BitVec 18)
  /-- CLTUK (R509). -/
  | cltuk (rd rs1 : Fin 16) (imm : BitVec 18)
  /-- HIGH (R509). -/
  | highOp (rd : Fin 16) (imm : BitVec 18)
  /-- PCREL (R509). -/
  | pcrel (rd : Fin 16) (imm : BitVec 18)
  /-- CALL (R509). -/
  | callOp (rd : Fin 16) (imm : BitVec 18)
  /-- JUMPR (R509). -/
  | jumpr (rd rs1 : Fin 16) (imm : BitVec 18)
  /-- LD64 (R510). -/
  | ld64 (rt rs1 : Fin 16) (off : BitVec 18) (ecc : Ecc)
  /-- LD32S (R510). -/
  | ld32s (rt rs1 : Fin 16) (off : BitVec 18) (ecc : Ecc)
  /-- LD32U (R510). -/
  | ld32u (rt rs1 : Fin 16) (off : BitVec 18) (ecc : Ecc)
  /-- LD16S (R510). -/
  | ld16s (rt rs1 : Fin 16) (off : BitVec 18) (ecc : Ecc)
  /-- LD16U (R510). -/
  | ld16u (rt rs1 : Fin 16) (off : BitVec 18) (ecc : Ecc)
  /-- LD8S (R510). -/
  | ld8s (rt rs1 : Fin 16) (off : BitVec 18) (ecc : Ecc)
  /-- LD8U (R510). -/
  | ld8u (rt rs1 : Fin 16) (off : BitVec 18) (ecc : Ecc)
  /-- ST64 (R510). -/
  | st64 (rt rs1 : Fin 16) (off : BitVec 18) (ecc : Ecc)
  /-- ST32 (R510). -/
  | st32 (rt rs1 : Fin 16) (off : BitVec 18) (ecc : Ecc)
  /-- ST16 (R510). -/
  | st16 (rt rs1 : Fin 16) (off : BitVec 18) (ecc : Ecc)
  /-- ST8 (R510). -/
  | st8 (rt rs1 : Fin 16) (off : BitVec 18) (ecc : Ecc)
  /-- IFEQ (R512). -/
  | ifeq (rs1 rs2 : Fin 16) (off : BitVec 18)
  /-- IFNE (R512). -/
  | ifne (rs1 rs2 : Fin 16) (off : BitVec 18)
  /-- IFLT (R512). -/
  | iflt (rs1 rs2 : Fin 16) (off : BitVec 18)
  /-- IFGE (R512). -/
  | ifge (rs1 rs2 : Fin 16) (off : BitVec 18)
  /-- IFLTU (R512). -/
  | ifltu (rs1 rs2 : Fin 16) (off : BitVec 18)
  /-- IFGEU (R512). -/
  | ifgeu (rs1 rs2 : Fin 16) (off : BitVec 18)
  /-- DSTOP (R513). -/
  | dstop (code : BitVec 12)
  /-- TRET (R513). -/
  | tret (code : BitVec 12)
  /-- IDLE (R513). -/
  | idle
  /-- IDLE_RESUME (R513). -/
  | idleResume
  /-- EXIT (R525). -/
  | exitEntry
  /-- SEND (R525). -/
  | send
  /-- KEY_OPEN (R557). -/
  | keyOpen
  /-- KEY_CLOSE (R525). -/
  | keyClose
  /-- AES_GCM_SEAL (R525). -/
  | aesGcmSeal
  /-- AES_GCM_OPEN (R525). -/
  | aesGcmOpen (tagOk : Bool)
  /-- AES_CMAC (R525). -/
  | aesCmac
  /-- SHA384 (R525). -/
  | sha384
  /-- ECDSA_SIGN (R525). -/
  | ecdsaSign
  /-- ECDSA_VERIFY (R525). -/
  | ecdsaVerify
  /-- ECDH (R558). -/
  | ecdh
  /-- HKDF (R558). -/
  | hkdf
  /-- RANDOM (R525). -/
  | random
  /-- CTR_READ (R525). -/
  | ctrRead
  /-- CTR_INC (R559). -/
  | ctrInc (programOk : Bool)
  /-- JOB_KEY (R525). -/
  | jobKey
  /-- ATT_FULL (R525). -/
  | attFull
  /-- ATT_CERT (R604). -/
  | attCert
  /-- LOG_EVENT (R525). -/
  | logEvent
  /-- MOD_REQ (R528). -/
  | modReq
  /-- PAGE_WRITE (R529). -/
  | pageWrite
  /-- TIME (R525). -/
  | timeService
  /-- APPLET_TICK (R520). -/
  | appletTick (slot : Fin 8)
  /-- APPLET_ENTRY (R521). -/
  | appletEntry
  /-- ROMOFF (R501). -/
  | romoff (acc : Accessor)
  /-- NVM_PROGRAM (R537). -/
  | nvmProgram (acc : Accessor)
  /-- NVM_ERASE (R537). -/
  | nvmErase (acc : Accessor)
  /-- NVM_DONE (R537). -/
  | nvmDone (verified : Bool)
  /-- LVA_LOAD (R532). -/
  | lvaLoad (acc : Accessor) (slot : Fin 8) (check : LoadCheck)
  /-- GENERATE (R572). -/
  | generateSlot (acc : Accessor) (slot : Byte) (arg : BitVec 16) (check : KeyCheck)
  /-- IMPORT (R556). -/
  | importSlot (acc : Accessor) (slot : Byte) (arg : BitVec 16) (check : KeyCheck)
  /-- DELETE (R572). -/
  | deleteSlot (acc : Accessor) (slot : Byte) (arg : BitVec 16) (check : KeyCheck)
  /-- CHECK (R551). -/
  | checkSlot (acc : Accessor) (slot : Byte) (arg : BitVec 16)
  /-- DELIVER (R561). -/
  | deliver (acc : Accessor) (slot : Byte) (arg : BitVec 16)
  /-- NEWROOT (R541). -/
  | newroot (acc : Accessor) (slot : Byte) (arg : BitVec 16) (check : KeyCheck)
  /-- LIFECYCLE (R573). -/
  | lifecycle (acc : Accessor) (slot : Byte) (arg : BitVec 16) (check : KeyCheck)
  /-- KEEPER_FLOOR (R572). -/
  | keeperFloor (acc : Accessor) (slot : Byte) (arg : BitVec 16) (check : KeyCheck)
  /-- TMP_FLOOR (R565). -/
  | tmpFloor (acc : Accessor) (slot : Byte) (arg : BitVec 16) (check : KeyCheck)
  /-- COMMIT (R574). -/
  | commitRoot (acc : Accessor) (slot : Byte) (arg : BitVec 16)
  /-- INC (R560). -/
  | incCounter (acc : Accessor) (index : Fin 32) (programOk : Bool)
  /-- RAISE (R560). -/
  | raiseCounter (acc : Accessor) (index : Fin 32) (value : BitVec 32) (programOk : Bool)
  /-- TAMPER_ANOMALY (R566). -/
  | tamperAnomaly (sensors : BitVec 11)
  /-- TMP_LEVEL_WRITE (R565). -/
  | tmpLevelWrite (acc : Accessor) (value : Word)
  /-- TMP_CLR_LATCH (R575). -/
  | tmpClrLatch (acc : Accessor)
  /-- LOCK_LIFT (R569). -/
  | lockLift (acc : Accessor)
  /-- TMP_CLR_COUNTS (R575). -/
  | tmpClrCounts (acc : Accessor)
  /-- CONSENT_CLOCK_TICK (R559). -/
  | consentClockTick
  /-- TEN_MOLT (R581). -/
  | tenMolt (acc : Accessor) (signatureOk : Bool)
  /-- MOLT_ORDER_RECHECK (R582). -/
  | moltOrderRecheck (signatureOk : Bool)
  /-- MOLT_PREPARE (R583). -/
  | moltPrepare
  /-- SCRUB_DONE (R597). -/
  | scrubDone
  /-- MOLT_FINISH (R583). -/
  | moltFinish (appletsOk : List Bool)
  /-- TEN_CFGLOAD (R578). -/
  | tenCfgload (acc : Accessor) (signatureOk : Bool)
  /-- ATT_MEAS_HASH (R614). -/
  | attMeasHash (acc : Accessor) (entry : BitVec 4) (version : BitVec 32)
  /-- ATT_MEAS_COPY_CMG (R600). -/
  | attMeasCopyCmg (acc : Accessor) (entry : BitVec 4) (version : BitVec 32)
  /-- ATT_MEAS_COPY_PKG (R600). -/
  | attMeasCopyPkg (acc : Accessor) (entry : BitVec 4) (version : BitVec 32)
  /-- ATT_MEAS_CLEAR (R614). -/
  | attMeasClear (acc : Accessor) (entry : BitVec 4) (version : BitVec 32)
  /-- EMC_KEY_LOAD (R615). -/
  | emcKeyLoad (acc : Accessor)
  /-- EMC_KEY_CLEAR (R615). -/
  | emcKeyClear (acc : Accessor)
  /-- EMC_SCRUB_START (R597). -/
  | emcScrubStart (acc : Accessor)
  /-- EMC_REFRESH (R589). -/
  | emcRefresh
  /-- PCIE_LINK_UP (R70). -/
  | pcieLinkUp (speed : BitVec 2)
  /-- PCIE_LINK_DOWN (R643). -/
  | pcieLinkDown
  /-- BUS_MASTER_ENABLE (R620). -/
  | busMasterEnable (on : Bool)
  /-- DOE_DISCOVERY (R621). -/
  | doeDiscovery (read : Attempts) (index : Byte)
  /-- DOE_ABORT (R622). -/
  | doeAbort
  /-- GET_MEASUREMENTS (R623). -/
  | getMeasurements (read : Attempts) (block : Byte) (nonce : List Byte)
  /-- KEY_EXCHANGE (R624). -/
  | keyExchange (read : Attempts) (requestId : BitVec 16) (finishOk : Bool)
  /-- KEY_UPDATE (R628). -/
  | keyUpdate (read : Attempts)
  /-- VENDOR_DEFINED_REQUEST (R627). -/
  | vendorDefinedRequest (read : Attempts) (payload : List Byte)
  /-- RECOVERY_OBJECT (R625). -/
  | recoveryObject (offset flags : BitVec 32) (data : List Byte) (check : ImageCheck) (version : Nat)
  /-- HBX_H2D_TAIL_WRITE (R629). -/
  | hbxH2dTailWrite (acc : Accessor) (index : BitVec 16)
  /-- HBX_D2H_TAIL_WRITE (R629). -/
  | hbxD2hTailWrite (acc : Accessor) (index : BitVec 16)
  /-- H2D_MESSAGE (R632). -/
  | h2dMessage (entry : H2dEntry)
  /-- D2H_MESSAGE (R634). -/
  | d2hMessage (buffer : Word) (capacity : BitVec 32)
  /-- HBX_CLAIM (R237). -/
  | hbxClaim (acc : Accessor)
  /-- HBX_COMPLETE (R653). -/
  | hbxComplete (acc : Accessor) (source : BitVec 9)
  /-- STATUS (R637). -/
  | status (cmd : Cmd)
  /-- ATTEST_FULL (R603). -/
  | attestFull (cmd : Cmd)
  /-- ATTEST_CERT (R604). -/
  | attestCert (cmd : Cmd)
  /-- MOLT_REPORT (R608). -/
  | moltReport (cmd : Cmd)
  /-- MOD_REQUEST (R636). -/
  | modRequest (cmd : Cmd)
  /-- REG_READ (R639). -/
  | regRead (cmd : Cmd)
  /-- REG_WRITE (R639). -/
  | regWrite (cmd : Cmd)
  /-- APPLET_MSG (R641). -/
  | appletMsg (cmd : Cmd)
  /-- APPLET_LOAD (R636). -/
  | appletLoad (cmd : Cmd) (check : LoadCheck)
  /-- APPLET_STOP (R641). -/
  | appletStop (cmd : Cmd)
  /-- TENANT_CONFIG (R636). -/
  | tenantConfig (cmd : Cmd) (signatureOk : Bool)
  /-- MOLT_ORDER (R636). -/
  | moltOrder (cmd : Cmd) (signatureOk : Bool)
  /-- TABLE (R636). -/
  | table (cmd : Cmd) (check : TableCheck)
  /-- PKG_RELEASE (R610). -/
  | pkgRelease (cmd : Cmd) (signatureOk tagOk : Bool)
  /-- PKG_IMAGE (R636). -/
  | pkgImage (cmd : Cmd)
  /-- KEY_COMMAND (R636). -/
  | keyCommand (cmd : Cmd) (check : KeyCheck)
  /-- TAMPER (R636). -/
  | tamper (cmd : Cmd)
  /-- LASTRESORT_CLEAR (R214). -/
  | lastresortClear (cmd : Cmd)
  /-- TROUBLE_CLEAR (R636). -/
  | troubleClear (cmd : Cmd)
  /-- APPLET_RESV (R636). -/
  | appletResv (cmd : Cmd)
  /-- RESET (R636). -/
  | reset (cmd : Cmd)
  /-- MGT_CONFIG (R649). -/
  | mgtConfig (cmd : Cmd)
  /-- UPLOAD (R652). -/
  | upload (cmd : Cmd)
  /-- MGT_LINK_CHANGE (R645). -/
  | mgtLinkChange (up : Bool)
  /-- MGT_PACKET_DROP (R647). -/
  | mgtPacketDrop
  /-- NEIGHBOUR_SOLICITATION (R647). -/
  | neighbourSolicitation (target : Bool)
  /-- ECHO_REQUEST (R647). -/
  | echoRequest (data : List Byte)
  /-- CLIENT_HELLO (R648). -/
  | clientHello (hello : Hello)
  /-- DTLS_KEY_UPDATE (R648). -/
  | dtlsKeyUpdate (session : Fin 4)
  /-- CLOSE_NOTIFY (R650). -/
  | closeNotify (session : Fin 4)
  /-- SESSION_IDLE_TIMEOUT (R650). -/
  | sessionIdleTimeout (session : Fin 4)
  /-- TAP_RESET (R654). -/
  | tapReset
  /-- EXTEST (R655). -/
  | extest
  /-- IDCODE (R656). -/
  | idcode
  /-- SAMPLE_PRELOAD (R655). -/
  | samplePreload
  /-- CLAMP (R655). -/
  | clamp
  /-- HIGHZ (R655). -/
  | highz
  /-- DPACC (R658). -/
  | dpacc
  /-- BYPASS (R655). -/
  | bypass
  /-- DPACC_READ (R659). -/
  | dpaccRead (addr : BitVec 32)
  /-- DPACC_WRITE (R659). -/
  | dpaccWrite (addr : BitVec 32) (data : Word)
  /-- NEWNONCE (R661). -/
  | newnonce
  /-- SUBMIT (R662). -/
  | submit (signatureOk : Bool)
  /-- HALT (R668). -/
  | haltCore
  /-- DEFERRED_HALT_TAKES_EFFECT (R668). -/
  | deferredHaltTakesEffect
  /-- RESUME (R674). -/
  | resumeCore
  /-- STEP (R672). -/
  | stepCore (ecc : Ecc)
  /-- CANCEL_HALT (R668). -/
  | cancelHalt
  /-- END (R664). -/
  | endConsent
  /-- DP_WIN (R667). -/
  | dpWin (page : Byte) (index : BitVec 10)
  /-- BREAKPOINT_MATCH (R673). -/
  | breakpointMatch
  /-- ILLEGAL (R507). -/
  | illegal (word : BitVec 32)
  /-- SPDM_END_SESSION (R624). -/
  | spdmEndSession (read : Attempts)
  /-- GET_CERTIFICATE (R623). -/
  | getCertificate (read : Attempts) (slot : Byte)
  /-- CHALLENGE (R623). -/
  | challenge (read : Attempts) (slot : Byte) (nonce : List Byte)
  deriving DecidableEq, Repr

end Sys2Proof
end

