-- ==== Sys2Proof/Decode.lean ====
section
/-!
DEFINITION. Sys2Proof/Decode.lean: the commands that words spell by the bits of the opcode table. The table gives no row any bits: its commands
come from pins, buses, timers and page accesses, with operands of their own, so no word spells one. (The words of the Larva set are
not the table's: `decodeLarva` in Machine/CoreBase.lean reads them.)
-/
namespace Sys2Proof

/-- The command that a word spells: none. -/
def decodeTableWord (_nbits _w : Nat) : Option Instr := none

end Sys2Proof
end

