-- ==== Sys2Proof/Config.lean ====
section
/-!
DEFINITION. Sys2Proof/Config.lean: what the manual leaves open or gives no numbers for, as constants without a body.
Nothing in Lean can evaluate one, so a claim about the model holds for every value of them. Each is named in the
assumption log.
-/
namespace Sys2Proof.Config
open Sys2Proof

/-- A value the manual leaves open, drawn afresh each time: applied to the counter `State.freeCount` (log entry 2). -/
opaque freeValue : Nat → Word

/-- The bytes of a random draw of the Karpex DRBG, applied to the free counter and the byte's place (log entry 3). -/
opaque drbgByte : Nat → Nat → Byte

/-- SHA-384 of a byte string: a named standard function whose definition the manual does not repeat (log entry 4). -/
opaque sha384 : List Byte → BitVec 384

/-- CRC-32 of a byte string: a named standard function; the manual gives no polynomial (log entry 4). -/
opaque crc32 : List Byte → BitVec 32

/-- AES-CMAC: byte i of the output, in output order, for key and message (log entry 4). -/
opaque cmacByte : List Byte → List Byte → Nat → Byte

/-- AES-256-GCM: one byte of the ciphertext of key, IV, associated data and plaintext, by place (log entry 4). -/
opaque gcmSealByte : List Byte → List Byte → List Byte → List Byte → Nat → Byte

/-- AES-256-GCM: the 16-byte tag of key, IV, associated data and plaintext (log entry 4). -/
opaque gcmTag : List Byte → List Byte → List Byte → List Byte → BitVec 128

/-- AES-256-GCM: one byte of the plaintext of key, IV, associated data and ciphertext, by place (log entry 4). -/
opaque gcmOpenByte : List Byte → List Byte → List Byte → List Byte → Nat → Byte

/-- ECDSA P-384: whether a signature verifies under a public key over a message (log entry 4). -/
opaque ecdsaOk : List Byte → List Byte → List Byte → Bool

/-- ECDSA P-384: one byte of a signature made with a key over a message, by free counter and place (log entry 4). -/
opaque ecdsaSignByte : List Byte → List Byte → Nat → Nat → Byte

/-- ECDH on P-384: one byte of the shared secret of a private key and a public key, by place (log entry 4). -/
opaque ecdhByte : List Byte → List Byte → Nat → Byte

/-- HKDF with SHA-384: one byte of the output for input key, salt and info, by place (log entry 4). -/
opaque hkdfByte : List Byte → List Byte → List Byte → Nat → Byte

/-- The public point of a P-384 private key, uncompressed: one byte by place (log entry 4). -/
opaque ecPublicByte : List Byte → Nat → Byte

/-- A byte of the Device Identity Root that the factory blew, by place; no accessor reads it (R540, log entry 5). -/
opaque deviceRootByte : Nat → Byte

/-- A byte of the certificates that the factory stored: 0 the identity certificate, 1 the device CA's, 2 the SHA-384 of the root
certificate; by place (R607, log entry 5). -/
opaque certByte : Nat → Nat → Byte

/-- The length of a stored certificate (log entry 5). -/
opaque certLength : Nat → Nat

/-- The versions that the ROM and the DSE microcode carry in the measurements (R599, log entry 5). -/
opaque romRevision : Word
opaque microcodeVersion : Word

/-- The SHA-384 digests of the DSE microcode and of the Keeper image that the module was assembled with (R599, log entry 5). -/
opaque microcodeDigest : BitVec 384
opaque keeperDigest : BitVec 384

/-- A byte of the boot ROM, by offset; the manual does not print the ROM (log entry 5). -/
opaque romByte : Nat → Byte

/-- A byte of secure NVM that nothing has programmed since assembly, by offset (log entry 5). -/
opaque nvmByte : Nat → Byte

/-- A byte of a secure NVM sector after an erase: the manual gives no erased value (log entry 5); by free counter and offset. -/
opaque nvmErasedByte : Nat → Nat → Byte

/-- A byte of external memory that nothing has written since power came on, by the fill's number and address (log entry 5). -/
opaque extByte : Nat → Nat → Byte

/-- The manufacturer identity in IDCODE (R656): assigned to Quidonak, its value is not stated (log entry 2). -/
opaque manufacturer : BitVec 11

end Sys2Proof.Config
end

