-- ==== Sys2Proof/Machine/Bits.lean ====
section
/-!
DEFINITION. Sys2Proof/Machine/Bits.lean: bit fields of a number, saturation, two's complement, byte order, and the
canonical list of (key, value) cells that the register file and the memories are kept in.
-/
namespace Sys2Proof.Machine
open Sys2Proof

/-- Bits `lo + w - 1 : lo` of a number. -/
def fld (x lo w : Nat) : Nat := (x >>> lo) % 2 ^ w

/-- Bit `i` of a number as a truth value. -/
def bitAt (x i : Nat) : Bool := x.testBit i

/-- A truth value as a one-bit number. -/
def b2n (b : Bool) : Nat := if b then 1 else 0

/-- The numbers below `n` whose bit is set in `x`, lowest first. -/
def bitsBelow (n x : Nat) : List Nat := (List.range n).filter (fun i => x.testBit i)

/-- The number whose set bits are the listed ones (below `n`). -/
def ofBits (n : Nat) (p : Nat → Bool) : Nat := (List.range n).foldl (fun a i => a + b2n (p i) * 2 ^ i) 0

/-- The word with bits `lo + w - 1 : lo` replaced by the low `w` bits of `v`. -/
def setBits (x : Word) (lo w v : Nat) : Word :=
  (x &&& ~~~(BitVec.ofNat 64 ((2 ^ w - 1) <<< lo))) ||| BitVec.ofNat 64 ((v % 2 ^ w) <<< lo)

/-- The word that takes `v` under the mask and keeps `x` elsewhere. -/
def underMask (x v : Word) (mask : Nat) : Word :=
  (x &&& ~~~(BitVec.ofNat 64 mask)) ||| (v &&& BitVec.ofNat 64 mask)

/-- A number that stops at all ones of `w` bits (R131, R206). -/
def satTo (w n : Nat) : Nat := min n (2 ^ w - 1)

/-- The signed value of a `w`-bit two's complement number. -/
def sgn (w x : Nat) : Int := if x % 2 ^ w < 2 ^ (w - 1) then (x % 2 ^ w : Nat) else ((x % 2 ^ w : Nat) : Int) - (2 ^ w : Nat)

/-- The `w`-bit two's complement image of an integer. -/
def unsgn (w : Nat) (i : Int) : Nat := (i % ((2 ^ w : Nat) : Int)).toNat

/-- The bytes of a little-endian number, `n` of them. -/
def leBytes : Nat → Nat → List Byte
  | 0, _ => []
  | n + 1, x => BitVec.ofNat 8 x :: leBytes n (x / 256)

/-- The number that little-endian bytes spell. -/
def ofLe : List Byte → Nat
  | [] => 0
  | b :: t => b.toNat + 256 * ofLe t

/-- `n` bytes of a list from position `at`, zero beyond its end. -/
def slice (l : List Byte) (start n : Nat) : List Byte := (List.range n).map (fun i => l.getD (start + i) 0)

/-- The number in `n` little-endian bytes of a list from position `at`. -/
def leAt (l : List Byte) (start n : Nat) : Nat := ofLe (slice l start n)

/-! ## Cells in canonical form -/

/-- What a key reads as: its listed value, or the default of an unlisted key. -/
def cellGet {α : Type} (dflt : Nat → α) : List (Nat × α) → Nat → α
  | [], k => dflt k
  | (a, v) :: t, k => if a = k then v else cellGet dflt t k

/-- Places a value at its key, where the keys rise. -/
def cellIns {α : Type} (k : Nat) (v : α) : List (Nat × α) → List (Nat × α)
  | [] => [(k, v)]
  | (a, w) :: t => if k < a then (k, v) :: (a, w) :: t else if k = a then (k, v) :: t else (a, w) :: cellIns k v t

/-- Writes one key and keeps the canonical form: keys rise strictly, and no entry equals the default of its key. -/
def cellPut {α : Type} [DecidableEq α] (dflt : Nat → α) (k : Nat) (v : α) (l : List (Nat × α)) : List (Nat × α) :=
  if v = dflt k then l.filter (fun c => c.1 != k) else cellIns k v l

/-- The canonical form: every key is above the bound `lo`, keys rise, no entry equals its default. -/
def cellsFrom {α : Type} [DecidableEq α] (dflt : Nat → α) : Nat → List (Nat × α) → Bool
  | _, [] => true
  | lo, (a, v) :: t => decide (lo ≤ a) && decide (v ≠ dflt a) && cellsFrom dflt (a + 1) t

end Sys2Proof.Machine
end

