-- ==== Sys2Proof/Machine/Regs.lean ====
section
/-!
DEFINITION. Sys2Proof/Machine/Regs.lean: the registers of the 35 pages, taken from the register tables of the chapters
(R85 to R93, R129, R145 to R150, R186 to R188, R217, R252, R254, R298 and the tables after it, R333, R368 to R371,
R414, R415, R454, R455, R493, R537, R575, R614, R615, R653, R676): the key of each register, what it reads after
reset, its columns of the access map, and the place of each of its fields.

A register's key is page × 0x100000 + offset. Entry e of an array stands at the offset of entry 0 plus e strides,
with the entry's own number e, also where a page shows only 48 of them through a window (R135).
-/
namespace Sys2Proof.Machine
open Sys2Proof

/-- The key of the register at an offset of a page. -/
def regKey (page off : Nat) : Nat := page * 0x100000 + off

/-- One row of the chapters' register tables: `count` registers `stride` apart from `off`; `rcol` and `wcol` the columns of the
access map for reads and writes (8: none); the masks of the bits that the column's writer changes (`rw`), that only
Keeper writes under SYS_PAM7 (`km`), that a 1 clears (`w1c`); and the reset image. -/
structure RegRow where
  off : Nat
  stride : Nat
  count : Nat
  rcol : Nat
  wcol : Nat
  rw : Nat
  km : Nat
  w1c : Nat
  reset : Nat
  deriving DecidableEq, Repr

/-- The registers of the SYS page. -/
def rowsSYS : List RegRow := [
  -- SYS_CAP
  ⟨0x8, 0x0, 1, 0, 8, 0x0, 0x0, 0x0, 0x83623⟩,
  -- SYS_STAT
  ⟨0x18, 0x0, 1, 0, 8, 0x0, 0x0, 0x0, 0x0⟩,
  -- SYS_EVT
  ⟨0x20, 0x0, 1, 0, 2, 0x0, 0x0, 0x1, 0x0⟩,
  -- SYS_SERIAL
  ⟨0x80, 0x0, 1, 0, 8, 0x0, 0x0, 0x0, 0x0⟩,
  -- SYS_LIFECYCLE
  ⟨0x88, 0x0, 1, 0, 8, 0x0, 0x0, 0x0, 0x0⟩,
  -- SYS_ASSET0
  ⟨0x90, 0x0, 1, 0, 1, 0xffffffffffffffff, 0x0, 0x0, 0x0⟩,
  -- SYS_ASSET1
  ⟨0x98, 0x0, 1, 0, 1, 0xffffffffffffffff, 0x0, 0x0, 0x0⟩,
  -- SYS_PAMn
  ⟨0x100, 0x8, 8, 0, 8, 0x0, 0x0, 0x0, 0x0⟩,
  -- CTL
  ⟨0x10, 0x0, 1, 0, 1, 0x0, 0x0, 0x0, 0x0⟩,
  -- EVTEN
  ⟨0x28, 0x0, 1, 0, 2, 0x1, 0x0, 0x0, 0x0⟩,
  -- ID
  ⟨0x0, 0x0, 1, 0, 8, 0x0, 0x0, 0x0, 0x410000000000⟩,
  -- TROUBLE
  ⟨0x30, 0x0, 1, 0, 8, 0x0, 0x0, 0x0, 0x0⟩,
  -- TRCLR
  ⟨0x38, 0x0, 1, 0, 5, 0xf, 0x0, 0x0, 0x0⟩,
  -- LOCK
  ⟨0x40, 0x0, 1, 0, 8, 0x0, 0x0, 0x0, 0x0⟩]

/-- The registers of the CLK page. -/
def rowsCLK : List RegRow := [
  -- CLK_CAP
  ⟨0x8, 0x0, 1, 0, 8, 0x0, 0x0, 0x0, 0x4061a8⟩,
  -- CLK_STAT
  ⟨0x18, 0x0, 1, 0, 8, 0x0, 0x0, 0x0, 0x0⟩,
  -- CLK_EVT
  ⟨0x20, 0x0, 1, 0, 2, 0x0, 0x0, 0x1, 0x0⟩,
  -- CLK_XIN_DEV
  ⟨0x80, 0x0, 1, 0, 8, 0x0, 0x0, 0x0, 0x0⟩,
  -- CLK_UPTIME
  ⟨0x88, 0x0, 1, 0, 8, 0x0, 0x0, 0x0, 0x0⟩,
  -- CTL
  ⟨0x10, 0x0, 1, 0, 1, 0x0, 0x0, 0x0, 0x0⟩,
  -- EVTEN
  ⟨0x28, 0x0, 1, 0, 2, 0x1, 0x0, 0x0, 0x0⟩,
  -- ID
  ⟨0x0, 0x0, 1, 0, 8, 0x0, 0x0, 0x0, 0x1000100000000⟩,
  -- TROUBLE
  ⟨0x30, 0x0, 1, 0, 8, 0x0, 0x0, 0x0, 0x0⟩,
  -- TRCLR
  ⟨0x38, 0x0, 1, 0, 5, 0xf, 0x0, 0x0, 0x0⟩,
  -- LOCK
  ⟨0x40, 0x0, 1, 0, 8, 0x0, 0x0, 0x0, 0x0⟩]

/-- The registers of the PWR page. -/
def rowsPWR : List RegRow := [
  -- PWR_CAP
  ⟨0x8, 0x0, 1, 0, 8, 0x0, 0x0, 0x0, 0x1⟩,
  -- PWR_STAT
  ⟨0x18, 0x0, 1, 0, 8, 0x0, 0x0, 0x0, 0xf⟩,
  -- PWR_EVT
  ⟨0x20, 0x0, 1, 0, 2, 0x0, 0x0, 0x7, 0x0⟩,
  -- PWR_MON
  ⟨0x80, 0x0, 1, 0, 8, 0x0, 0x0, 0x0, 0x0⟩,
  -- PWR_MON_FINE
  ⟨0x88, 0x0, 1, 6, 8, 0x0, 0x0, 0x0, 0x0⟩,
  -- PWR_LEVEL
  ⟨0x90, 0x0, 1, 0, 8, 0x0, 0x0, 0x0, 0x0⟩,
  -- PWR_BTIME
  ⟨0x98, 0x0, 1, 0, 8, 0x0, 0x0, 0x0, 0x0⟩,
  -- PWR_WATCH
  ⟨0xa0, 0x0, 1, 0, 1, 0x3, 0x0, 0x0, 0x0⟩,
  -- CTL
  ⟨0x10, 0x0, 1, 0, 1, 0x0, 0x0, 0x0, 0x0⟩,
  -- EVTEN
  ⟨0x28, 0x0, 1, 0, 2, 0x7, 0x0, 0x0, 0x0⟩,
  -- ID
  ⟨0x0, 0x0, 1, 0, 8, 0x0, 0x0, 0x0, 0x2000100000000⟩,
  -- TROUBLE
  ⟨0x30, 0x0, 1, 0, 8, 0x0, 0x0, 0x0, 0x0⟩,
  -- TRCLR
  ⟨0x38, 0x0, 1, 0, 5, 0xf, 0x0, 0x0, 0x0⟩,
  -- LOCK
  ⟨0x40, 0x0, 1, 0, 8, 0x0, 0x0, 0x0, 0x0⟩]

/-- The registers of the RST page. -/
def rowsRST : List RegRow := [
  -- RST_EVT
  ⟨0x20, 0x0, 1, 0, 2, 0x0, 0x0, 0x3, 0x0⟩,
  -- RST_CAUSE
  ⟨0x80, 0x0, 1, 0, 8, 0x0, 0x0, 0x0, 0x0⟩,
  -- RST_COUNT
  ⟨0x88, 0x0, 1, 0, 8, 0x0, 0x0, 0x0, 0x0⟩,
  -- RST_BOOT
  ⟨0x90, 0x0, 1, 0, 8, 0x0, 0x0, 0x0, 0x0⟩,
  -- RST_CMD
  ⟨0x98, 0x0, 1, 0, 8, 0x0, 0x0, 0x0, 0x0⟩,
  ⟨0x8, 0x0, 1, 0, 8, 0x0, 0x0, 0x0, 0x0⟩,
  -- CTL
  ⟨0x10, 0x0, 1, 0, 1, 0x0, 0x0, 0x0, 0x0⟩,
  -- EVTEN
  ⟨0x28, 0x0, 1, 0, 2, 0x3, 0x0, 0x0, 0x0⟩,
  -- ID
  ⟨0x0, 0x0, 1, 0, 8, 0x0, 0x0, 0x0, 0x3000100000000⟩,
  -- TROUBLE
  ⟨0x30, 0x0, 1, 0, 8, 0x0, 0x0, 0x0, 0x0⟩,
  -- TRCLR
  ⟨0x38, 0x0, 1, 0, 5, 0xf, 0x0, 0x0, 0x0⟩,
  -- LOCK
  ⟨0x40, 0x0, 1, 0, 8, 0x0, 0x0, 0x0, 0x0⟩]

/-- The registers of the LOG page. -/
def rowsLOG : List RegRow := [
  -- LOG_CAP
  ⟨0x8, 0x0, 1, 0, 8, 0x0, 0x0, 0x0, 0x40⟩,
  -- LOG_STAT
  ⟨0x18, 0x0, 1, 0, 8, 0x0, 0x0, 0x0, 0x0⟩,
  -- LOG_EVT
  ⟨0x20, 0x0, 1, 0, 2, 0x0, 0x0, 0x3, 0x0⟩,
  -- LOG_CLR_CLASS
  ⟨0x80, 0x0, 1, 0, 5, 0x0, 0x0, 0x0, 0x0⟩,
  -- LOG_CLR_SELF
  ⟨0x88, 0x0, 1, 0, 5, 0x0, 0x0, 0x0, 0x0⟩,
  -- LOG_SAT
  ⟨0x90, 0x0, 1, 0, 8, 0x0, 0x0, 0x0, 0x0⟩,
  -- LOG_BAD
  ⟨0x98, 0x0, 1, 0, 8, 0x0, 0x0, 0x0, 0x0⟩,
  -- LOG_SELF
  ⟨0xa0, 0x0, 1, 0, 8, 0x0, 0x0, 0x0, 0x0⟩,
  -- LOG_CLASSn
  ⟨0x100, 0x8, 64, 0, 8, 0x0, 0x0, 0x0, 0x0⟩,
  -- CTL
  ⟨0x10, 0x0, 1, 0, 1, 0x0, 0x0, 0x0, 0x0⟩,
  -- EVTEN
  ⟨0x28, 0x0, 1, 0, 2, 0x3, 0x0, 0x0, 0x0⟩,
  -- ID
  ⟨0x0, 0x0, 1, 0, 8, 0x0, 0x0, 0x0, 0x4000100000000⟩,
  -- TROUBLE
  ⟨0x30, 0x0, 1, 0, 8, 0x0, 0x0, 0x0, 0x0⟩,
  -- TRCLR
  ⟨0x38, 0x0, 1, 0, 5, 0xf, 0x0, 0x0, 0x0⟩,
  -- LOCK
  ⟨0x40, 0x0, 1, 0, 8, 0x0, 0x0, 0x0, 0x0⟩]

/-- The registers of the ICU page. -/
def rowsICU : List RegRow := [
  -- ICU_CAP
  ⟨0x8, 0x0, 1, 0, 8, 0x0, 0x0, 0x0, 0x2002100200⟩,
  -- ICU_STAT
  ⟨0x18, 0x0, 1, 0, 8, 0x0, 0x0, 0x0, 0x0⟩,
  -- ICU_EVT
  ⟨0x20, 0x0, 1, 0, 2, 0x0, 0x0, 0x1, 0x0⟩,
  -- ICU_CLAIM0
  ⟨0x80, 0x0, 1, 7, 8, 0x0, 0x0, 0x0, 0x0⟩,
  -- ICU_CLAIM1
  ⟨0x90, 0x0, 1, 0, 2, 0x0, 0x0, 0x0, 0x0⟩,
  -- ICU_COMPLETE0
  ⟨0x88, 0x0, 1, 0, 7, 0x0, 0x1ff, 0x0, 0x0⟩,
  -- ICU_COMPLETE1
  ⟨0x98, 0x0, 1, 0, 2, 0x0, 0x0, 0x0, 0x0⟩,
  -- ICU_LOSTSRC
  ⟨0xa0, 0x0, 1, 0, 8, 0x0, 0x0, 0x0, 0x0⟩,
  -- ICU_PENDt_k
  ⟨0x100, 0x8, 16, 0, 8, 0x0, 0x0, 0x0, 0x0⟩,
  -- ICU_INSVt_k
  ⟨0x180, 0x8, 16, 0, 8, 0x0, 0x0, 0x0, 0x0⟩,
  -- ICU_SRCCFGk
  ⟨0x200, 0x8, 64, 0, 2, 0xf0f0f0f0f0f0f0f0, 0xf0f0f0f0f0f0f0f, 0x0, 0x0⟩,
  -- ICU_GCFGn
  ⟨0x400, 0x40, 16, 0, 2, 0xffffff, 0x0, 0x0, 0xffff01⟩,
  -- ICU_GSTATn
  ⟨0x408, 0x40, 16, 0, 8, 0x0, 0x0, 0x0, 0x0⟩,
  -- CTL
  ⟨0x10, 0x0, 1, 0, 1, 0x0, 0x0, 0x0, 0x0⟩,
  -- EVTEN
  ⟨0x28, 0x0, 1, 0, 2, 0x1, 0x0, 0x0, 0x0⟩,
  -- ID
  ⟨0x0, 0x0, 1, 0, 8, 0x0, 0x0, 0x0, 0x5000100000000⟩,
  -- TROUBLE
  ⟨0x30, 0x0, 1, 0, 8, 0x0, 0x0, 0x0, 0x0⟩,
  -- TRCLR
  ⟨0x38, 0x0, 1, 0, 5, 0xf, 0x0, 0x0, 0x0⟩,
  -- LOCK
  ⟨0x40, 0x0, 1, 0, 8, 0x0, 0x0, 0x0, 0x0⟩]

/-- The registers of the FFY page. -/
def rowsFFY : List RegRow := [
  -- FFY_CAP
  ⟨0x8, 0x0, 1, 0, 8, 0x0, 0x0, 0x0, 0x10⟩,
  -- FFY_STAT
  ⟨0x18, 0x0, 1, 0, 8, 0x0, 0x0, 0x0, 0x0⟩,
  -- FFY_EVT
  ⟨0x20, 0x0, 1, 0, 2, 0x0, 0x0, 0x1, 0x0⟩,
  -- FFY_TIMER
  ⟨0x80, 0x0, 1, 0, 1, 0xffffffff, 0x0, 0x0, 0x0⟩,
  -- FFY_CAUSE
  ⟨0x88, 0x0, 1, 0, 8, 0x0, 0x0, 0x0, 0x0⟩,
  -- FFY_SLOTn
  ⟨0x100, 0x8, 16, 0, 1, 0x81ff, 0x0, 0x0, 0x0⟩,
  -- CTL
  ⟨0x10, 0x0, 1, 0, 1, 0x0, 0x0, 0x0, 0x0⟩,
  -- EVTEN
  ⟨0x28, 0x0, 1, 0, 2, 0x1, 0x0, 0x0, 0x0⟩,
  -- ID
  ⟨0x0, 0x0, 1, 0, 8, 0x0, 0x0, 0x0, 0x6000100000000⟩,
  -- TROUBLE
  ⟨0x30, 0x0, 1, 0, 8, 0x0, 0x0, 0x0, 0x0⟩,
  -- TRCLR
  ⟨0x38, 0x0, 1, 0, 5, 0xf, 0x0, 0x0, 0x0⟩,
  -- LOCK
  ⟨0x40, 0x0, 1, 0, 8, 0x0, 0x0, 0x0, 0x0⟩]

/-- The registers of the DBG page. -/
def rowsDBG : List RegRow := [
  -- DBG_CAP
  ⟨0x8, 0x0, 1, 0, 8, 0x0, 0x0, 0x0, 0x4⟩,
  -- DBG_STAT
  ⟨0x18, 0x0, 1, 0, 8, 0x0, 0x0, 0x0, 0x0⟩,
  -- DBG_EVT
  ⟨0x20, 0x0, 1, 0, 2, 0x0, 0x0, 0xf, 0x0⟩,
  -- DBG_CONSENT
  ⟨0x80, 0x0, 1, 0, 8, 0x0, 0x0, 0x0, 0x0⟩,
  -- DBG_COUNT
  ⟨0x88, 0x0, 1, 0, 8, 0x0, 0x0, 0x0, 0x0⟩,
  -- DBG_LAST
  ⟨0x90, 0x0, 1, 0, 8, 0x0, 0x0, 0x0, 0x0⟩,
  -- DBG_TDIGESTn
  ⟨0xa0, 0x8, 6, 0, 8, 0x0, 0x0, 0x0, 0x0⟩,
  -- CTL
  ⟨0x10, 0x0, 1, 0, 1, 0x0, 0x0, 0x0, 0x0⟩,
  -- EVTEN
  ⟨0x28, 0x0, 1, 0, 2, 0xf, 0x0, 0x0, 0x0⟩,
  -- ID
  ⟨0x0, 0x0, 1, 0, 8, 0x0, 0x0, 0x0, 0x7000100000000⟩,
  -- TROUBLE
  ⟨0x30, 0x0, 1, 0, 8, 0x0, 0x0, 0x0, 0x0⟩,
  -- TRCLR
  ⟨0x38, 0x0, 1, 0, 5, 0xf, 0x0, 0x0, 0x0⟩,
  -- LOCK
  ⟨0x40, 0x0, 1, 0, 8, 0x0, 0x0, 0x0, 0x0⟩]

/-- The registers of the MOD page. -/
def rowsMOD : List RegRow := [
  -- MOD_CAP
  ⟨0x8, 0x0, 1, 0, 8, 0x0, 0x0, 0x0, 0xb⟩,
  -- MOD_STAT
  ⟨0x18, 0x0, 1, 0, 8, 0x0, 0x0, 0x0, 0x0⟩,
  -- MOD_EVT
  ⟨0x20, 0x0, 1, 0, 2, 0x0, 0x0, 0x7, 0x0⟩,
  -- MOD_CUR
  ⟨0x80, 0x0, 1, 0, 8, 0x0, 0x0, 0x0, 0x31108003⟩,
  -- MOD_SEQ
  ⟨0x88, 0x0, 1, 0, 8, 0x0, 0x0, 0x0, 0x0⟩,
  -- MOD_CFG
  ⟨0x90, 0x0, 1, 0, 1, 0xff033f3f, 0x10000000000, 0x0, 0x19000000⟩,
  -- MOD_INSEL
  ⟨0x98, 0x0, 1, 0, 1, 0xdfdfdfdfdfdfdfdf, 0x0, 0x0, 0x0⟩,
  -- MOD_REQn
  ⟨0x100, 0x8, 11, 0, 2, 0xffff, 0x0, 0x0, 0x0⟩,
  -- MOD_CAUSEn
  ⟨0x180, 0x8, 11, 0, 8, 0x0, 0x0, 0x0, 0x190000⟩,
  -- CTL
  ⟨0x10, 0x0, 1, 0, 1, 0x0, 0x0, 0x0, 0x0⟩,
  -- EVTEN
  ⟨0x28, 0x0, 1, 0, 2, 0x7, 0x0, 0x0, 0x0⟩,
  -- ID
  ⟨0x0, 0x0, 1, 0, 8, 0x0, 0x0, 0x0, 0x8000100000000⟩,
  -- TROUBLE
  ⟨0x30, 0x0, 1, 0, 8, 0x0, 0x0, 0x0, 0x0⟩,
  -- TRCLR
  ⟨0x38, 0x0, 1, 0, 5, 0xf, 0x0, 0x0, 0x0⟩,
  -- LOCK
  ⟨0x40, 0x0, 1, 0, 8, 0x0, 0x0, 0x0, 0x0⟩]

/-- The registers of the FLD page. -/
def rowsFLD : List RegRow := [
  -- FLD_CAP
  ⟨0x8, 0x0, 1, 0, 8, 0x0, 0x0, 0x0, 0x8000001003e80280⟩,
  -- FLD_STAT
  ⟨0x18, 0x0, 1, 0, 8, 0x0, 0x0, 0x0, 0x0⟩,
  -- FLD_EVT
  ⟨0x20, 0x0, 1, 0, 2, 0x0, 0x0, 0x7, 0x0⟩,
  -- FLD_SEQ
  ⟨0x80, 0x0, 1, 0, 8, 0x0, 0x0, 0x0, 0x0⟩,
  -- FLD_CTEMP
  ⟨0x88, 0x0, 1, 0, 8, 0x0, 0x0, 0x0, 0x0⟩,
  -- FLD_GATHER
  ⟨0xc0, 0x0, 1, 0, 3, 0x0, 0x0, 0x0, 0x0⟩,
  -- FLD_GCODE0
  ⟨0xc8, 0x0, 1, 0, 3, 0x0, 0x0, 0x0, 0x0⟩,
  -- FLD_GCODE1
  ⟨0xd0, 0x0, 1, 0, 3, 0x0, 0x0, 0x0, 0x0⟩,
  -- FLD_GSTAT
  ⟨0xd8, 0x0, 1, 0, 8, 0x0, 0x0, 0x0, 0x0⟩,
  -- FLD_GRESn
  ⟨0x400, 0x40, 16, 0, 8, 0x0, 0x0, 0x0, 0x0⟩,
  -- CTL
  ⟨0x10, 0x0, 1, 0, 1, 0x0, 0x0, 0x0, 0x0⟩,
  -- EVTEN
  ⟨0x28, 0x0, 1, 0, 2, 0x7, 0x0, 0x0, 0x0⟩,
  -- ID
  ⟨0x0, 0x0, 1, 0, 8, 0x0, 0x0, 0x0, 0x10000100000000⟩,
  -- TROUBLE
  ⟨0x30, 0x0, 1, 0, 8, 0x0, 0x0, 0x0, 0x0⟩,
  -- TRCLR
  ⟨0x38, 0x0, 1, 0, 5, 0xf, 0x0, 0x0, 0x0⟩,
  -- LOCK
  ⟨0x40, 0x0, 1, 0, 8, 0x0, 0x0, 0x0, 0x0⟩]

/-- The registers of the FIN page. -/
def rowsFIN : List RegRow := [
  -- FIN_CAP
  ⟨0x8, 0x0, 1, 0, 8, 0x0, 0x0, 0x0, 0x8000000000000420⟩,
  -- FIN_EVT
  ⟨0x20, 0x0, 1, 0, 2, 0x0, 0x0, 0xf, 0x0⟩,
  -- FIN_STATE
  ⟨0x80, 0x0, 1, 0, 8, 0x0, 0x0, 0x0, 0x0⟩,
  -- FIN_EDGE
  ⟨0x88, 0x0, 1, 0, 2, 0x0, 0x0, 0xffffffff, 0x0⟩,
  -- FIN_RISEEN
  ⟨0x90, 0x0, 1, 0, 2, 0xffffffff, 0x0, 0x0, 0x0⟩,
  -- FIN_FALLEN
  ⟨0x98, 0x0, 1, 0, 2, 0xffffffff, 0x0, 0x0, 0x0⟩,
  -- FIN_PCFG
  ⟨0xa0, 0x0, 1, 0, 8, 0x0, 0x0, 0x0, 0x28⟩,
  -- FIN_CFGi
  ⟨0x400, 0x40, 32, 0, 8, 0x0, 0x0, 0x0, 0x200⟩,
  -- CTL
  ⟨0x10, 0x0, 1, 0, 1, 0x0, 0x0, 0x0, 0x0⟩,
  -- EVTEN
  ⟨0x28, 0x0, 1, 0, 2, 0xf, 0x0, 0x0, 0x0⟩,
  -- ID
  ⟨0x0, 0x0, 1, 0, 8, 0x0, 0x0, 0x0, 0x11000100000000⟩,
  -- TROUBLE
  ⟨0x30, 0x0, 1, 0, 8, 0x0, 0x0, 0x0, 0x0⟩,
  -- TRCLR
  ⟨0x38, 0x0, 1, 0, 5, 0xf, 0x0, 0x0, 0x0⟩,
  -- LOCK
  ⟨0x40, 0x0, 1, 0, 8, 0x0, 0x0, 0x0, 0x0⟩]

/-- The registers of the FOUT page. -/
def rowsFOUT : List RegRow := [
  -- FOUT_CAP
  ⟨0x8, 0x0, 1, 0, 8, 0x0, 0x0, 0x0, 0x8000000000000010⟩,
  -- FOUT_STAT
  ⟨0x18, 0x0, 1, 0, 8, 0x0, 0x0, 0x0, 0x0⟩,
  -- FOUT_EVT
  ⟨0x20, 0x0, 1, 0, 2, 0x0, 0x0, 0x1f, 0x0⟩,
  -- FOUT_APPLIED
  ⟨0x80, 0x0, 1, 0, 8, 0x0, 0x0, 0x0, 0x0⟩,
  -- FOUT_SET
  ⟨0x88, 0x0, 1, 0, 3, 0x0, 0x0, 0x0, 0x0⟩,
  -- FOUT_INHIBIT
  ⟨0x90, 0x0, 1, 0, 8, 0x0, 0x0, 0x0, 0x0⟩,
  -- FOUT_UNINHIBIT
  ⟨0x98, 0x0, 1, 0, 3, 0x0, 0x0, 0x0, 0x0⟩,
  -- FOUT_SWEEP
  ⟨0xa0, 0x0, 1, 0, 3, 0x0, 0x0, 0x0, 0x0⟩,
  -- FOUT_SWEEPSTAT
  ⟨0xa8, 0x0, 1, 0, 8, 0x0, 0x0, 0x0, 0x0⟩,
  -- FOUT_CFGc
  ⟨0x400, 0x40, 16, 0, 8, 0x0, 0x0, 0x0, 0x0⟩,
  -- FOUT_ONCNTc
  ⟨0x408, 0x40, 16, 0, 8, 0x0, 0x0, 0x0, 0x0⟩,
  -- FOUT_SWRc
  ⟨0x410, 0x40, 16, 0, 8, 0x0, 0x0, 0x0, 0x0⟩,
  -- CTL
  ⟨0x10, 0x0, 1, 0, 1, 0x0, 0x0, 0x0, 0x0⟩,
  -- EVTEN
  ⟨0x28, 0x0, 1, 0, 2, 0x1f, 0x0, 0x0, 0x0⟩,
  -- ID
  ⟨0x0, 0x0, 1, 0, 8, 0x0, 0x0, 0x0, 0x12000100000000⟩,
  -- TROUBLE
  ⟨0x30, 0x0, 1, 0, 8, 0x0, 0x0, 0x0, 0x0⟩,
  -- TRCLR
  ⟨0x38, 0x0, 1, 0, 5, 0xf, 0x0, 0x0, 0x0⟩,
  -- LOCK
  ⟨0x40, 0x0, 1, 0, 8, 0x0, 0x0, 0x0, 0x0⟩]

/-- The registers of the FCNT page. -/
def rowsFCNT : List RegRow := [
  -- FCNT_CAP
  ⟨0x8, 0x0, 1, 0, 8, 0x0, 0x0, 0x0, 0x8000000000000004⟩,
  -- FCNT_EVT
  ⟨0x20, 0x0, 1, 0, 2, 0x0, 0x0, 0xff, 0x0⟩,
  -- FCNT_RESET
  ⟨0x80, 0x0, 1, 0, 3, 0x0, 0x0, 0x0, 0x0⟩,
  -- FCNT_CFGu
  ⟨0x400, 0x40, 4, 0, 8, 0x0, 0x0, 0x0, 0x3e80000⟩,
  -- FCNT_VALu
  ⟨0x408, 0x40, 4, 0, 8, 0x0, 0x0, 0x0, 0x0⟩,
  -- FCNT_STATu
  ⟨0x410, 0x40, 4, 0, 8, 0x0, 0x0, 0x0, 0x0⟩,
  -- FCNT_HZu
  ⟨0x418, 0x40, 4, 0, 8, 0x0, 0x0, 0x0, 0x0⟩,
  -- CTL
  ⟨0x10, 0x0, 1, 0, 1, 0x0, 0x0, 0x0, 0x0⟩,
  -- EVTEN
  ⟨0x28, 0x0, 1, 0, 2, 0xff, 0x0, 0x0, 0x0⟩,
  -- ID
  ⟨0x0, 0x0, 1, 0, 8, 0x0, 0x0, 0x0, 0x13000100000000⟩,
  -- TROUBLE
  ⟨0x30, 0x0, 1, 0, 8, 0x0, 0x0, 0x0, 0x0⟩,
  -- TRCLR
  ⟨0x38, 0x0, 1, 0, 5, 0xf, 0x0, 0x0, 0x0⟩,
  -- LOCK
  ⟨0x40, 0x0, 1, 0, 8, 0x0, 0x0, 0x0, 0x0⟩]

/-- The registers of the ITE page. -/
def rowsITE : List RegRow := [
  -- ITE_CAP
  ⟨0x8, 0x0, 1, 0, 8, 0x0, 0x0, 0x0, 0x8000004018080100⟩,
  -- ITE_STAT
  ⟨0x18, 0x0, 1, 0, 8, 0x0, 0x0, 0x0, 0x0⟩,
  -- ITE_EVT
  ⟨0x20, 0x0, 1, 0, 2, 0x0, 0x0, 0xf, 0x0⟩,
  -- ITE_PERMIT
  ⟨0x80, 0x0, 1, 0, 8, 0x0, 0x0, 0x0, 0x0⟩,
  -- ITE_TRIPREC
  ⟨0x88, 0x0, 1, 0, 8, 0x0, 0x0, 0x0, 0x0⟩,
  -- ITE_TRIPCLR
  ⟨0x90, 0x0, 1, 0, 3, 0x0, 0x0, 0x0, 0x0⟩,
  -- ITE_TABLE
  ⟨0x98, 0x0, 1, 0, 8, 0x0, 0x0, 0x0, 0x0⟩,
  -- ITE_CRC
  ⟨0xa0, 0x0, 1, 0, 8, 0x0, 0x0, 0x0, 0x0⟩,
  -- ITE_LOADADDR
  ⟨0xc0, 0x0, 1, 0, 8, 0x0, 0xffffffff, 0x0, 0x0⟩,
  -- ITE_LOAD
  ⟨0xc8, 0x0, 1, 0, 8, 0x0, 0x3, 0x0, 0x0⟩,
  -- ITE_LOADSTAT
  ⟨0xd0, 0x0, 1, 0, 8, 0x0, 0x0, 0x0, 0x0⟩,
  -- CTL
  ⟨0x10, 0x0, 1, 0, 1, 0x0, 0x0, 0x0, 0x0⟩,
  -- EVTEN
  ⟨0x28, 0x0, 1, 0, 2, 0xf, 0x0, 0x0, 0x0⟩,
  -- ID
  ⟨0x0, 0x0, 1, 0, 8, 0x0, 0x0, 0x0, 0x14000100000000⟩,
  -- TROUBLE
  ⟨0x30, 0x0, 1, 0, 8, 0x0, 0x0, 0x0, 0x0⟩,
  -- TRCLR
  ⟨0x38, 0x0, 1, 0, 5, 0xf, 0x0, 0x0, 0x0⟩,
  -- LOCK
  ⟨0x40, 0x0, 1, 0, 8, 0x0, 0x0, 0x0, 0x0⟩]

/-- The registers of the CMG page. -/
def rowsCMG : List RegRow := [
  -- CMG_CAP
  ⟨0x8, 0x0, 1, 0, 8, 0x0, 0x0, 0x0, 0x8000000000041008⟩,
  -- CMG_STAT
  ⟨0x18, 0x0, 1, 0, 8, 0x0, 0x0, 0x0, 0x0⟩,
  -- CMG_EVT
  ⟨0x20, 0x0, 1, 0, 2, 0x0, 0x0, 0x1f, 0x0⟩,
  -- CMG_ARM
  ⟨0x80, 0x0, 1, 0, 8, 0x0, 0x1ffff, 0x0, 0x0⟩,
  -- CMG_TAGS
  ⟨0x88, 0x0, 1, 0, 8, 0x0, 0x0, 0x0, 0x0⟩,
  -- CMG_COUNT
  ⟨0x90, 0x0, 1, 0, 8, 0x0, 0x0, 0x0, 0x0⟩,
  -- CMG_DIGESTn
  ⟨0xa0, 0x8, 6, 0, 8, 0x0, 0xffffffffffffffff, 0x0, 0x0⟩,
  -- CMG_SLOTn
  ⟨0x400, 0x40, 8, 0, 8, 0x0, 0x0, 0x0, 0x0⟩,
  -- CTL
  ⟨0x10, 0x0, 1, 0, 1, 0x0, 0x0, 0x0, 0x0⟩,
  -- EVTEN
  ⟨0x28, 0x0, 1, 0, 2, 0x1f, 0x0, 0x0, 0x0⟩,
  -- ID
  ⟨0x0, 0x0, 1, 0, 8, 0x0, 0x0, 0x0, 0x15000100000000⟩,
  -- TROUBLE
  ⟨0x30, 0x0, 1, 0, 8, 0x0, 0x0, 0x0, 0x0⟩,
  -- TRCLR
  ⟨0x38, 0x0, 1, 0, 5, 0xf, 0x0, 0x0, 0x0⟩,
  -- LOCK
  ⟨0x40, 0x0, 1, 0, 8, 0x0, 0x0, 0x0, 0x0⟩]

/-- The registers of the CAR page. -/
def rowsCAR : List RegRow := [
  -- CAR_CAP
  ⟨0x8, 0x0, 1, 0, 8, 0x0, 0x0, 0x0, 0x40⟩,
  -- CAR_STAT
  ⟨0x18, 0x0, 1, 0, 8, 0x0, 0x0, 0x0, 0x8⟩,
  -- CAR_EVT
  ⟨0x20, 0x0, 1, 0, 2, 0x0, 0x0, 0xff, 0x0⟩,
  -- CAR_CFG
  ⟨0x80, 0x0, 1, 0, 1, 0xdfdfdf03, 0x0, 0x0, 0x0⟩,
  -- CAR_SCALE
  ⟨0x88, 0x0, 1, 0, 1, 0xffffffff, 0x0, 0x0, 0x10000⟩,
  -- CAR_TOL
  ⟨0x90, 0x0, 1, 0, 1, 0xffffffffffff, 0x0, 0x0, 0x140bb81388⟩,
  -- CAR_LIMIT_LO
  ⟨0x98, 0x0, 1, 0, 1, 0xffffffffffffffff, 0x0, 0x0, 0x8000000000000000⟩,
  -- CAR_LIMIT_HI
  ⟨0xa0, 0x0, 1, 0, 1, 0xffffffffffffffff, 0x0, 0x0, 0x7fffffffffffffff⟩,
  -- CAR_REFPOS
  ⟨0xa8, 0x0, 1, 0, 1, 0xffffffffffffffff, 0x0, 0x0, 0x0⟩,
  -- CAR_POS
  ⟨0xb0, 0x0, 1, 0, 8, 0x0, 0x0, 0x0, 0x0⟩,
  -- CAR_SPEED
  ⟨0xb8, 0x0, 1, 0, 8, 0x0, 0x0, 0x0, 0x0⟩,
  -- CAR_OFFSET
  ⟨0xc0, 0x0, 1, 0, 8, 0x0, 0x0, 0x0, 0x0⟩,
  -- CAR_VCAP_POS
  ⟨0xc8, 0x0, 1, 0, 8, 0x0, 0x0, 0x0, 0x0⟩,
  -- CAR_VCAP_INFO
  ⟨0xd0, 0x0, 1, 0, 8, 0x0, 0x0, 0x0, 0x0⟩,
  -- CAR_RELEARN
  ⟨0xd8, 0x0, 1, 0, 8, 0x0, 0x0, 0x0, 0x0⟩,
  -- CAR_LWIN
  ⟨0xe0, 0x0, 1, 0, 2, 0x3f, 0x0, 0x0, 0x0⟩,
  -- CAR_LLEVEL
  ⟨0x400, 0x40, 64, 0, 1, 0xffffffffffffffff, 0x0, 0x0, 0x0⟩,
  -- CAR_LVLO
  ⟨0x408, 0x40, 64, 0, 1, 0xffffffffffffffff, 0x0, 0x0, 0x0⟩,
  -- CAR_LVHI
  ⟨0x410, 0x40, 64, 0, 1, 0xffffffffffffffff, 0x0, 0x0, 0x0⟩,
  -- CAR_LZONE
  ⟨0x418, 0x40, 64, 0, 1, 0xffffffffffffffff, 0x0, 0x0, 0x0⟩,
  -- CAR_LFLAGS
  ⟨0x420, 0x40, 64, 0, 1, 0x7, 0x0, 0x0, 0x0⟩,
  -- CTL
  ⟨0x10, 0x0, 1, 0, 1, 0x0, 0x0, 0x0, 0x0⟩,
  -- EVTEN
  ⟨0x28, 0x0, 1, 0, 2, 0xff, 0x0, 0x0, 0x0⟩,
  -- ID
  ⟨0x0, 0x0, 1, 0, 8, 0x0, 0x0, 0x0, 0x18000100000000⟩,
  -- TROUBLE
  ⟨0x30, 0x0, 1, 0, 8, 0x0, 0x0, 0x0, 0x0⟩,
  -- TRCLR
  ⟨0x38, 0x0, 1, 0, 5, 0xf, 0x0, 0x0, 0x0⟩,
  -- LOCK
  ⟨0x40, 0x0, 1, 0, 8, 0x0, 0x0, 0x0, 0x0⟩]

/-- The registers of the DOR0 page. -/
def rowsDOR0 : List RegRow := [
  -- DOR_CAP
  ⟨0x8, 0x0, 1, 0, 8, 0x0, 0x0, 0x0, 0x0⟩,
  -- DOR_STAT
  ⟨0x18, 0x0, 1, 0, 8, 0x0, 0x0, 0x0, 0x0⟩,
  -- DOR_EVT
  ⟨0x20, 0x0, 1, 0, 2, 0x0, 0x0, 0xff, 0x0⟩,
  -- DOR_CFG
  ⟨0x80, 0x0, 1, 0, 1, 0xffffffff1f0ff1, 0x0, 0x0, 0x960096c8140330⟩,
  -- DOR_DWELL
  ⟨0x88, 0x0, 1, 0, 1, 0xffffffffffff, 0x0, 0x0, 0x9600fa0190⟩,
  -- DOR_INSEL
  ⟨0x90, 0x0, 1, 0, 1, 0xdfdfdfdf, 0x0, 0x0, 0x0⟩,
  -- DOR_LOCKMASK
  ⟨0x98, 0x0, 1, 0, 1, 0xffffffff, 0x0, 0x0, 0x0⟩,
  -- DOR_CMD
  ⟨0xa0, 0x0, 1, 0, 2, 0x0, 0x0, 0x0, 0x0⟩,
  -- DOR_STATE
  ⟨0xa8, 0x0, 1, 0, 8, 0x0, 0x0, 0x0, 0x0⟩,
  -- DOR_COUNT
  ⟨0xb0, 0x0, 1, 0, 8, 0x0, 0x0, 0x0, 0x0⟩,
  -- CTL
  ⟨0x10, 0x0, 1, 0, 1, 0x0, 0x0, 0x0, 0x0⟩,
  -- EVTEN
  ⟨0x28, 0x0, 1, 0, 2, 0xff, 0x0, 0x0, 0x0⟩,
  -- ID
  ⟨0x0, 0x0, 1, 0, 8, 0x0, 0x0, 0x0, 0x19000100000000⟩,
  -- TROUBLE
  ⟨0x30, 0x0, 1, 0, 8, 0x0, 0x0, 0x0, 0x0⟩,
  -- TRCLR
  ⟨0x38, 0x0, 1, 0, 5, 0xf, 0x0, 0x0, 0x0⟩,
  -- LOCK
  ⟨0x40, 0x0, 1, 0, 8, 0x0, 0x0, 0x0, 0x0⟩]

/-- The registers of the DOR1 page. -/
def rowsDOR1 : List RegRow := [
  -- DOR_CAP
  ⟨0x8, 0x0, 1, 0, 8, 0x0, 0x0, 0x0, 0x1⟩,
  -- DOR_STAT
  ⟨0x18, 0x0, 1, 0, 8, 0x0, 0x0, 0x0, 0x0⟩,
  -- DOR_EVT
  ⟨0x20, 0x0, 1, 0, 2, 0x0, 0x0, 0xff, 0x0⟩,
  -- DOR_CFG
  ⟨0x80, 0x0, 1, 0, 1, 0xffffffff1f0ff1, 0x0, 0x0, 0x960096c8140330⟩,
  -- DOR_DWELL
  ⟨0x88, 0x0, 1, 0, 1, 0xffffffffffff, 0x0, 0x0, 0x9600fa0190⟩,
  -- DOR_INSEL
  ⟨0x90, 0x0, 1, 0, 1, 0xdfdfdfdf, 0x0, 0x0, 0x0⟩,
  -- DOR_LOCKMASK
  ⟨0x98, 0x0, 1, 0, 1, 0xffffffff, 0x0, 0x0, 0x0⟩,
  -- DOR_CMD
  ⟨0xa0, 0x0, 1, 0, 2, 0x0, 0x0, 0x0, 0x0⟩,
  -- DOR_STATE
  ⟨0xa8, 0x0, 1, 0, 8, 0x0, 0x0, 0x0, 0x0⟩,
  -- DOR_COUNT
  ⟨0xb0, 0x0, 1, 0, 8, 0x0, 0x0, 0x0, 0x0⟩,
  -- CTL
  ⟨0x10, 0x0, 1, 0, 1, 0x0, 0x0, 0x0, 0x0⟩,
  -- EVTEN
  ⟨0x28, 0x0, 1, 0, 2, 0xff, 0x0, 0x0, 0x0⟩,
  -- ID
  ⟨0x0, 0x0, 1, 0, 8, 0x0, 0x0, 0x0, 0x19000100000001⟩,
  -- TROUBLE
  ⟨0x30, 0x0, 1, 0, 8, 0x0, 0x0, 0x0, 0x0⟩,
  -- TRCLR
  ⟨0x38, 0x0, 1, 0, 5, 0xf, 0x0, 0x0, 0x0⟩,
  -- LOCK
  ⟨0x40, 0x0, 1, 0, 8, 0x0, 0x0, 0x0, 0x0⟩]

/-- The registers of the DSE page. -/
def rowsDSE : List RegRow := [
  -- DSE_CAP
  ⟨0x8, 0x0, 1, 0, 8, 0x0, 0x0, 0x0, 0x4000408⟩,
  -- DSE_STAT
  ⟨0x18, 0x0, 1, 0, 8, 0x0, 0x0, 0x0, 0x8⟩,
  -- DSE_EVT
  ⟨0x20, 0x0, 1, 0, 2, 0x0, 0x0, 0x3f, 0x0⟩,
  -- DSE_CFG
  ⟨0x80, 0x0, 1, 0, 1, 0xdf1f03, 0x0, 0x0, 0x1501⟩,
  -- DSE_OUTMAP
  ⟨0x88, 0x0, 1, 0, 1, 0x1ff, 0x0, 0x0, 0x0⟩,
  -- DSE_KIN
  ⟨0x90, 0x0, 1, 0, 1, 0xffffffffffffffff, 0x0, 0x0, 0xbb80064032003e8⟩,
  -- DSE_TOD
  ⟨0x98, 0x0, 1, 0, 2, 0x3fff, 0x0, 0x0, 0x0⟩,
  -- DSE_PLAN
  ⟨0xa0, 0x0, 1, 0, 8, 0x0, 0x0, 0x0, 0x0⟩,
  -- DSE_TAG
  ⟨0xa8, 0x0, 1, 0, 8, 0x0, 0x0, 0x0, 0x10001⟩,
  -- DSE_SQCOUNT0
  ⟨0xb0, 0x0, 1, 0, 8, 0x0, 0x0, 0x0, 0x0⟩,
  -- DSE_SQCOUNT1
  ⟨0xb8, 0x0, 1, 0, 8, 0x0, 0x0, 0x0, 0x0⟩,
  -- DSE_REFUSE
  ⟨0xc0, 0x0, 1, 0, 8, 0x0, 0x0, 0x0, 0x0⟩,
  -- DSE_CARCALLS
  ⟨0xc8, 0x0, 1, 0, 8, 0x0, 0x0, 0x0, 0x0⟩,
  -- DSE_DRIVE
  ⟨0xd0, 0x0, 1, 0, 8, 0x0, 0x0, 0x0, 0x0⟩,
  -- DSE_PERF0
  ⟨0xe0, 0x0, 1, 0, 8, 0x0, 0x0, 0x0, 0x0⟩,
  -- DSE_PERF1
  ⟨0xe8, 0x0, 1, 0, 8, 0x0, 0x0, 0x0, 0x0⟩,
  -- DSE_PERF_FINE0
  ⟨0xf0, 0x0, 1, 6, 8, 0x0, 0x0, 0x0, 0x0⟩,
  -- DSE_PERF_FINE1
  ⟨0xf8, 0x0, 1, 6, 8, 0x0, 0x0, 0x0, 0x0⟩,
  -- DSE_CWIN
  ⟨0x100, 0x0, 1, 0, 2, 0x3ff, 0x0, 0x0, 0x0⟩,
  -- DSE_CALL0
  ⟨0x400, 0x40, 1024, 0, 8, 0x0, 0x0, 0x0, 0x0⟩,
  -- DSE_CALL1
  ⟨0x408, 0x40, 1024, 0, 8, 0x0, 0x0, 0x0, 0x0⟩,
  -- CTL
  ⟨0x10, 0x0, 1, 0, 1, 0x0, 0x0, 0x0, 0x0⟩,
  -- EVTEN
  ⟨0x28, 0x0, 1, 0, 2, 0x3f, 0x0, 0x0, 0x0⟩,
  -- ID
  ⟨0x0, 0x0, 1, 0, 8, 0x0, 0x0, 0x0, 0x1b000100000000⟩,
  -- TROUBLE
  ⟨0x30, 0x0, 1, 0, 8, 0x0, 0x0, 0x0, 0x0⟩,
  -- TRCLR
  ⟨0x38, 0x0, 1, 0, 5, 0xf, 0x0, 0x0, 0x0⟩,
  -- LOCK
  ⟨0x40, 0x0, 1, 0, 8, 0x0, 0x0, 0x0, 0x0⟩]

/-- The registers of the PKG page. -/
def rowsPKG : List RegRow := [
  -- PKG_CAP
  ⟨0x8, 0x0, 1, 0, 8, 0x0, 0x0, 0x0, 0x4000002⟩,
  -- PKG_STAT
  ⟨0x18, 0x0, 1, 0, 8, 0x0, 0x0, 0x0, 0x0⟩,
  -- PKG_EVT
  ⟨0x20, 0x0, 1, 0, 2, 0x0, 0x0, 0x3, 0x0⟩,
  -- PKG_SRC
  ⟨0x80, 0x0, 1, 0, 8, 0x0, 0xffffffffffffffff, 0x0, 0x0⟩,
  -- PKG_LEN
  ⟨0x88, 0x0, 1, 0, 8, 0x0, 0xffffffff, 0x0, 0x0⟩,
  -- PKG_LOAD
  ⟨0x90, 0x0, 1, 0, 8, 0x0, 0x1, 0x0, 0x0⟩,
  -- PKG_INFO
  ⟨0x98, 0x0, 1, 0, 8, 0x0, 0x0, 0x0, 0x0⟩,
  -- PKG_DIGESTn
  ⟨0xa0, 0x8, 6, 0, 8, 0x0, 0x0, 0x0, 0x0⟩,
  -- CTL
  ⟨0x10, 0x0, 1, 0, 1, 0x0, 0x0, 0x0, 0x0⟩,
  -- EVTEN
  ⟨0x28, 0x0, 1, 0, 2, 0x3, 0x0, 0x0, 0x0⟩,
  -- ID
  ⟨0x0, 0x0, 1, 0, 8, 0x0, 0x0, 0x0, 0x1c000100000000⟩,
  -- TROUBLE
  ⟨0x30, 0x0, 1, 0, 8, 0x0, 0x0, 0x0, 0x0⟩,
  -- TRCLR
  ⟨0x38, 0x0, 1, 0, 5, 0xf, 0x0, 0x0, 0x0⟩,
  -- LOCK
  ⟨0x40, 0x0, 1, 0, 8, 0x0, 0x0, 0x0, 0x0⟩]

/-- The registers of the CB0 page. -/
def rowsCB0 : List RegRow := [
  -- CB_CAP
  ⟨0x8, 0x0, 1, 0, 8, 0x0, 0x0, 0x0, 0x1020400840⟩,
  -- CB_STAT
  ⟨0x18, 0x0, 1, 0, 8, 0x0, 0x0, 0x0, 0x19⟩,
  -- CB_EVT
  ⟨0x20, 0x0, 1, 0, 2, 0x0, 0x0, 0x3ffff, 0x0⟩,
  -- CB_CFG
  ⟨0x80, 0x0, 1, 0, 8, 0x0, 0xff01f1, 0x0, 0xa0130⟩,
  -- CB_NBT
  ⟨0x88, 0x0, 1, 0, 8, 0x0, 0x7f7fffff, 0x0, 0xf0f3e04⟩,
  -- CB_DBT
  ⟨0x90, 0x0, 1, 0, 8, 0x0, 0x7f010f0f1f1f, 0x0, 0x4b0104040d04⟩,
  -- CB_PARKID
  ⟨0x98, 0x0, 1, 0, 8, 0x0, 0x7ff, 0x0, 0x10⟩,
  -- CB_ERR
  ⟨0xa0, 0x0, 1, 0, 8, 0x0, 0x0, 0x0, 0x0⟩,
  -- CB_RSCFG
  ⟨0xa8, 0x0, 1, 0, 1, 0xff, 0x0, 0x0, 0x14⟩,
  -- CB_RSSTAT
  ⟨0xb0, 0x0, 1, 0, 8, 0x0, 0x0, 0x0, 0x30⟩,
  -- CB_TXQ_STAT
  ⟨0xb8, 0x0, 1, 0, 8, 0x0, 0x0, 0x0, 0x200⟩,
  -- CB_TXQ_CTL
  ⟨0xc0, 0x0, 1, 0, 2, 0x0, 0x0, 0x0, 0x0⟩,
  -- CB_RX_STAT
  ⟨0xc8, 0x0, 1, 0, 8, 0x0, 0x0, 0x0, 0x0⟩,
  -- CB_RXPOP
  ⟨0xd0, 0x0, 1, 0, 2, 0x0, 0x0, 0x0, 0x0⟩,
  -- CB_JWIN
  ⟨0xd8, 0x0, 1, 0, 2, 0x3f, 0x0, 0x0, 0x0⟩,
  -- CB_BUFABORT
  ⟨0xe0, 0x0, 1, 0, 2, 0x0, 0x0, 0x0, 0x0⟩,
  -- CB_TXGO
  ⟨0xe8, 0x0, 1, 0, 2, 0x0, 0x0, 0x0, 0x0⟩,
  -- CB_TXJOB
  ⟨0xf0, 0x0, 1, 0, 7, 0x0, 0x13f, 0x0, 0x0⟩,
  -- CB_TXH
  ⟨0xf8, 0x0, 1, 0, 2, 0xfffffffff, 0x0, 0x0, 0x0⟩,
  -- CB_RXH
  ⟨0x140, 0x0, 1, 0, 8, 0x0, 0x0, 0x0, 0x0⟩,
  -- CB_TXDk
  ⟨0x100, 0x8, 8, 0, 2, 0xffffffffffffffff, 0x0, 0x0, 0x0⟩,
  -- CB_RXDk
  ⟨0x148, 0x8, 8, 0, 8, 0x0, 0x0, 0x0, 0x0⟩,
  -- CB_BUFb
  ⟨0x1c0, 0x8, 8, 0, 8, 0x0, 0x0, 0x0, 0x0⟩,
  -- CB_FLTi
  ⟨0x200, 0x8, 64, 0, 1, 0x1fffffffffffffff, 0x0, 0x0, 0x0⟩,
  -- CB_JOB_CFG
  ⟨0x400, 0x40, 16, 0, 8, 0x0, 0xf3fff7f3f, 0x0, 0x300080000⟩,
  -- CB_JOB_ID
  ⟨0x408, 0x40, 16, 0, 8, 0x0, 0x1fffffff1fffffff, 0x0, 0x0⟩,
  -- CB_JOB_STAT
  ⟨0x410, 0x40, 16, 0, 8, 0x0, 0x0, 0x0, 0xffff00000000⟩,
  -- CB_JOB_CNT0
  ⟨0x418, 0x40, 16, 0, 8, 0x0, 0x0, 0x0, 0x0⟩,
  -- CB_JOB_CNT1
  ⟨0x420, 0x40, 16, 0, 8, 0x0, 0x0, 0x0, 0x0⟩,
  -- CTL
  ⟨0x10, 0x0, 1, 0, 1, 0x0, 0x0, 0x0, 0x0⟩,
  -- EVTEN
  ⟨0x28, 0x0, 1, 0, 2, 0x3ffff, 0x0, 0x0, 0x0⟩,
  -- ID
  ⟨0x0, 0x0, 1, 0, 8, 0x0, 0x0, 0x0, 0x20000100000000⟩,
  -- TROUBLE
  ⟨0x30, 0x0, 1, 0, 8, 0x0, 0x0, 0x0, 0x0⟩,
  -- TRCLR
  ⟨0x38, 0x0, 1, 0, 5, 0xf, 0x0, 0x0, 0x0⟩,
  -- LOCK
  ⟨0x40, 0x0, 1, 0, 8, 0x0, 0x0, 0x0, 0x0⟩]

/-- The registers of the CB1 page. -/
def rowsCB1 : List RegRow := [
  -- CB_CAP
  ⟨0x8, 0x0, 1, 0, 8, 0x0, 0x0, 0x0, 0x4020400840⟩,
  -- CB_STAT
  ⟨0x18, 0x0, 1, 0, 8, 0x0, 0x0, 0x0, 0x19⟩,
  -- CB_EVT
  ⟨0x20, 0x0, 1, 0, 2, 0x0, 0x0, 0x3ffff, 0x0⟩,
  -- CB_CFG
  ⟨0x80, 0x0, 1, 0, 8, 0x0, 0xff01f1, 0x0, 0xa0131⟩,
  -- CB_NBT
  ⟨0x88, 0x0, 1, 0, 8, 0x0, 0x7f7fffff, 0x0, 0xf0f3e04⟩,
  -- CB_DBT
  ⟨0x90, 0x0, 1, 0, 8, 0x0, 0x7f010f0f1f1f, 0x0, 0x4b0104040d04⟩,
  -- CB_PARKID
  ⟨0x98, 0x0, 1, 0, 8, 0x0, 0x7ff, 0x0, 0x0⟩,
  -- CB_ERR
  ⟨0xa0, 0x0, 1, 0, 8, 0x0, 0x0, 0x0, 0x0⟩,
  -- CB_RSCFG
  ⟨0xa8, 0x0, 1, 0, 1, 0xff, 0x0, 0x0, 0x14⟩,
  -- CB_RSSTAT
  ⟨0xb0, 0x0, 1, 0, 8, 0x0, 0x0, 0x0, 0x30⟩,
  -- CB_TXQ_STAT
  ⟨0xb8, 0x0, 1, 0, 8, 0x0, 0x0, 0x0, 0x200⟩,
  -- CB_TXQ_CTL
  ⟨0xc0, 0x0, 1, 0, 2, 0x0, 0x0, 0x0, 0x0⟩,
  -- CB_RX_STAT
  ⟨0xc8, 0x0, 1, 0, 8, 0x0, 0x0, 0x0, 0x0⟩,
  -- CB_RXPOP
  ⟨0xd0, 0x0, 1, 0, 2, 0x0, 0x0, 0x0, 0x0⟩,
  -- CB_JWIN
  ⟨0xd8, 0x0, 1, 0, 2, 0x3f, 0x0, 0x0, 0x0⟩,
  -- CB_BUFABORT
  ⟨0xe0, 0x0, 1, 0, 2, 0x0, 0x0, 0x0, 0x0⟩,
  -- CB_TXGO
  ⟨0xe8, 0x0, 1, 0, 2, 0x0, 0x0, 0x0, 0x0⟩,
  -- CB_TXJOB
  ⟨0xf0, 0x0, 1, 0, 7, 0x0, 0x13f, 0x0, 0x0⟩,
  -- CB_TXH
  ⟨0xf8, 0x0, 1, 0, 2, 0xfffffffff, 0x0, 0x0, 0x0⟩,
  -- CB_RXH
  ⟨0x140, 0x0, 1, 0, 8, 0x0, 0x0, 0x0, 0x0⟩,
  -- CB_TXDk
  ⟨0x100, 0x8, 8, 0, 2, 0xffffffffffffffff, 0x0, 0x0, 0x0⟩,
  -- CB_RXDk
  ⟨0x148, 0x8, 8, 0, 8, 0x0, 0x0, 0x0, 0x0⟩,
  -- CB_BUFb
  ⟨0x1c0, 0x8, 8, 0, 8, 0x0, 0x0, 0x0, 0x0⟩,
  -- CB_FLTi
  ⟨0x200, 0x8, 64, 0, 1, 0x1fffffffffffffff, 0x0, 0x0, 0x0⟩,
  -- CB_JOB_CFG
  ⟨0x400, 0x40, 64, 0, 8, 0x0, 0xf3fff7f3f, 0x0, 0x300080000⟩,
  -- CB_JOB_ID
  ⟨0x408, 0x40, 64, 0, 8, 0x0, 0x1fffffff1fffffff, 0x0, 0x0⟩,
  -- CB_JOB_STAT
  ⟨0x410, 0x40, 64, 0, 8, 0x0, 0x0, 0x0, 0xffff00000000⟩,
  -- CB_JOB_CNT0
  ⟨0x418, 0x40, 64, 0, 8, 0x0, 0x0, 0x0, 0x0⟩,
  -- CB_JOB_CNT1
  ⟨0x420, 0x40, 64, 0, 8, 0x0, 0x0, 0x0, 0x0⟩,
  -- CTL
  ⟨0x10, 0x0, 1, 0, 1, 0x0, 0x0, 0x0, 0x0⟩,
  -- EVTEN
  ⟨0x28, 0x0, 1, 0, 2, 0x3ffff, 0x0, 0x0, 0x0⟩,
  -- ID
  ⟨0x0, 0x0, 1, 0, 8, 0x0, 0x0, 0x0, 0x20000100000001⟩,
  -- TROUBLE
  ⟨0x30, 0x0, 1, 0, 8, 0x0, 0x0, 0x0, 0x0⟩,
  -- TRCLR
  ⟨0x38, 0x0, 1, 0, 5, 0xf, 0x0, 0x0, 0x0⟩,
  -- LOCK
  ⟨0x40, 0x0, 1, 0, 8, 0x0, 0x0, 0x0, 0x0⟩]

/-- The registers of the TSY page. -/
def rowsTSY : List RegRow := [
  -- TSY_CAP
  ⟨0x8, 0x0, 1, 0, 8, 0x0, 0x0, 0x0, 0x6405⟩,
  -- TSY_STAT
  ⟨0x18, 0x0, 1, 0, 8, 0x0, 0x0, 0x0, 0x3⟩,
  -- TSY_EVT
  ⟨0x20, 0x0, 1, 0, 2, 0x0, 0x0, 0x7f, 0x0⟩,
  -- TSY_CFG
  ⟨0x80, 0x0, 1, 0, 8, 0x0, 0x7ffff07ffff0f7f, 0x0, 0x1050000420714⟩,
  -- TSY_COUNT
  ⟨0x88, 0x0, 1, 0, 8, 0x0, 0xffffffff, 0x0, 0x0⟩,
  -- TSY_OFFSET
  ⟨0x90, 0x0, 1, 0, 8, 0x0, 0x0, 0x0, 0x0⟩,
  -- TSY_CNT
  ⟨0xa0, 0x0, 1, 0, 8, 0x0, 0x0, 0x0, 0x0⟩,
  -- TSY_FIX
  ⟨0xa8, 0x0, 1, 0, 8, 0x0, 0x0, 0x0, 0x0⟩,
  -- CTL
  ⟨0x10, 0x0, 1, 0, 1, 0x0, 0x0, 0x0, 0x0⟩,
  -- EVTEN
  ⟨0x28, 0x0, 1, 0, 2, 0x7f, 0x0, 0x0, 0x0⟩,
  -- ID
  ⟨0x0, 0x0, 1, 0, 8, 0x0, 0x0, 0x0, 0x22000100000000⟩,
  -- TROUBLE
  ⟨0x30, 0x0, 1, 0, 8, 0x0, 0x0, 0x0, 0x0⟩,
  -- TRCLR
  ⟨0x38, 0x0, 1, 0, 5, 0xf, 0x0, 0x0, 0x0⟩,
  -- LOCK
  ⟨0x40, 0x0, 1, 0, 8, 0x0, 0x0, 0x0, 0x0⟩]

/-- The registers of the GRP page. -/
def rowsGRP : List RegRow := [
  -- GRP_CAP
  ⟨0x8, 0x0, 1, 0, 8, 0x0, 0x0, 0x0, 0x8⟩,
  -- GRP_STAT
  ⟨0x18, 0x0, 1, 0, 8, 0x0, 0x0, 0x0, 0x0⟩,
  -- GRP_EVT
  ⟨0x20, 0x0, 1, 0, 2, 0x0, 0x0, 0x7f, 0x0⟩,
  -- GRP_CFG
  ⟨0x80, 0x0, 1, 0, 8, 0x0, 0xfffff0f, 0x0, 0x8200000⟩,
  -- GRP_CFGDIGn
  ⟨0xa0, 0x8, 6, 0, 8, 0x0, 0xffffffffffffffff, 0x0, 0x0⟩,
  -- GRP_FSECTs
  ⟨0x100, 0x8, 8, 0, 8, 0x0, 0xffffffffffffffff, 0x0, 0x0⟩,
  -- GRP_PEERs
  ⟨0x400, 0x40, 8, 0, 8, 0x0, 0x0, 0x0, 0xffff00000000⟩,
  -- GRP_PCOUNTs
  ⟨0x408, 0x40, 8, 0, 8, 0x0, 0x0, 0x0, 0x0⟩,
  -- CTL
  ⟨0x10, 0x0, 1, 0, 1, 0x0, 0x0, 0x0, 0x0⟩,
  -- EVTEN
  ⟨0x28, 0x0, 1, 0, 2, 0x7f, 0x0, 0x0, 0x0⟩,
  -- ID
  ⟨0x0, 0x0, 1, 0, 8, 0x0, 0x0, 0x0, 0x23000100000000⟩,
  -- TROUBLE
  ⟨0x30, 0x0, 1, 0, 8, 0x0, 0x0, 0x0, 0x0⟩,
  -- TRCLR
  ⟨0x38, 0x0, 1, 0, 5, 0xf, 0x0, 0x0, 0x0⟩,
  -- LOCK
  ⟨0x40, 0x0, 1, 0, 8, 0x0, 0x0, 0x0, 0x0⟩]

/-- The registers of the HBX page. -/
def rowsHBX : List RegRow := [
  -- HBX_EVT
  ⟨0x20, 0x0, 1, 0, 2, 0x0, 0x0, 0xf, 0x0⟩,
  -- HBX_STATE
  ⟨0x80, 0x0, 1, 0, 8, 0x0, 0x0, 0x0, 0x0⟩,
  -- HBX_H2D_TAIL
  ⟨0x88, 0x0, 1, 0, 2, 0xffff, 0x0, 0x0, 0x0⟩,
  -- HBX_H2D_HEAD
  ⟨0x90, 0x0, 1, 0, 8, 0x0, 0x0, 0x0, 0x0⟩,
  -- HBX_D2H_TAIL
  ⟨0x98, 0x0, 1, 0, 2, 0xffff, 0x0, 0x0, 0x0⟩,
  -- HBX_D2H_HEAD
  ⟨0xa0, 0x0, 1, 0, 8, 0x0, 0x0, 0x0, 0x0⟩,
  -- HBX_CLAIM
  ⟨0xa8, 0x0, 1, 0, 2, 0x0, 0x0, 0x0, 0x0⟩,
  -- HBX_COMPLETE
  ⟨0xb0, 0x0, 1, 0, 2, 0x0, 0x0, 0x0, 0x0⟩,
  -- HBX_CNT
  ⟨0xb8, 0x0, 1, 0, 8, 0x0, 0x0, 0x0, 0x0⟩,
  -- HBX_H2D_BASE
  ⟨0xc0, 0x0, 1, 0, 8, 0x0, 0xffffffffffffffff, 0x0, 0x0⟩,
  -- HBX_D2H_BASE
  ⟨0xc8, 0x0, 1, 0, 8, 0x0, 0xffffffffffffffff, 0x0, 0x0⟩,
  -- HBX_RINGCFG
  ⟨0xd0, 0x0, 1, 0, 8, 0x0, 0xf0f, 0x0, 0x0⟩,
  ⟨0x8, 0x0, 1, 0, 8, 0x0, 0x0, 0x0, 0x0⟩,
  -- CTL
  ⟨0x10, 0x0, 1, 0, 1, 0x0, 0x0, 0x0, 0x0⟩,
  -- EVTEN
  ⟨0x28, 0x0, 1, 0, 2, 0xf, 0x0, 0x0, 0x0⟩,
  -- ID
  ⟨0x0, 0x0, 1, 0, 8, 0x0, 0x0, 0x0, 0x28000100000000⟩,
  -- TROUBLE
  ⟨0x30, 0x0, 1, 0, 8, 0x0, 0x0, 0x0, 0x0⟩,
  -- TRCLR
  ⟨0x38, 0x0, 1, 0, 5, 0xf, 0x0, 0x0, 0x0⟩,
  -- LOCK
  ⟨0x40, 0x0, 1, 0, 8, 0x0, 0x0, 0x0, 0x0⟩]

/-- The registers of the PCI page. PCI_IDS.VENDOR is fixed at a number that the spec does not state (R616); the model's reset image has 0
there (log entry 175). -/
def rowsPCI : List RegRow := [
  -- PCI_EVT
  ⟨0x20, 0x0, 1, 0, 2, 0x0, 0x0, 0x1f, 0x0⟩,
  -- PCI_IDS
  ⟨0x80, 0x0, 1, 0, 8, 0x0, 0x0, 0x0, 0x6410000⟩,
  -- PCI_LINK
  ⟨0x88, 0x0, 1, 0, 8, 0x0, 0x0, 0x0, 0x0⟩,
  -- PCI_SPDM
  ⟨0x90, 0x0, 1, 0, 8, 0x0, 0x0, 0x0, 0x0⟩,
  -- PCI_DOECNT
  ⟨0x98, 0x0, 1, 0, 8, 0x0, 0x0, 0x0, 0x0⟩,
  -- PCI_CFG
  ⟨0xa0, 0x0, 1, 0, 8, 0x0, 0x3, 0x0, 0x3⟩,
  ⟨0x8, 0x0, 1, 0, 8, 0x0, 0x0, 0x0, 0x0⟩,
  -- CTL
  ⟨0x10, 0x0, 1, 0, 1, 0x0, 0x0, 0x0, 0x0⟩,
  -- EVTEN
  ⟨0x28, 0x0, 1, 0, 2, 0x1f, 0x0, 0x0, 0x0⟩,
  -- ID
  ⟨0x0, 0x0, 1, 0, 8, 0x0, 0x0, 0x0, 0x29000100000000⟩,
  -- TROUBLE
  ⟨0x30, 0x0, 1, 0, 8, 0x0, 0x0, 0x0, 0x0⟩,
  -- TRCLR
  ⟨0x38, 0x0, 1, 0, 5, 0xf, 0x0, 0x0, 0x0⟩,
  -- LOCK
  ⟨0x40, 0x0, 1, 0, 8, 0x0, 0x0, 0x0, 0x0⟩]

/-- The registers of the MGT page. -/
def rowsMGT : List RegRow := [
  -- MGT_STAT
  ⟨0x18, 0x0, 1, 0, 8, 0x0, 0x0, 0x0, 0x0⟩,
  -- MGT_EVT
  ⟨0x20, 0x0, 1, 0, 2, 0x0, 0x0, 0x7, 0x0⟩,
  -- MGT_MAC
  ⟨0x80, 0x0, 1, 0, 8, 0x0, 0x0, 0x0, 0x0⟩,
  -- MGT_CFG
  ⟨0x88, 0x0, 1, 0, 8, 0x0, 0x1ffffff, 0x0, 0x1221⟩,
  -- MGT_ADDR0
  ⟨0x90, 0x0, 1, 0, 8, 0x0, 0xffffffffffffffff, 0x0, 0x0⟩,
  -- MGT_ADDR1
  ⟨0x98, 0x0, 1, 0, 8, 0x0, 0xffffffffffffffff, 0x0, 0x0⟩,
  -- MGT_GW0
  ⟨0xa0, 0x0, 1, 0, 8, 0x0, 0xffffffffffffffff, 0x0, 0x0⟩,
  -- MGT_GW1
  ⟨0xa8, 0x0, 1, 0, 8, 0x0, 0xffffffffffffffff, 0x0, 0x0⟩,
  -- MGT_CNT
  ⟨0xb0, 0x0, 1, 0, 8, 0x0, 0x0, 0x0, 0x0⟩,
  -- MGT_SESSn
  ⟨0x400, 0x40, 4, 0, 8, 0x0, 0x0, 0x0, 0x0⟩,
  ⟨0x8, 0x0, 1, 0, 8, 0x0, 0x0, 0x0, 0x0⟩,
  -- CTL
  ⟨0x10, 0x0, 1, 0, 1, 0x0, 0x0, 0x0, 0x0⟩,
  -- EVTEN
  ⟨0x28, 0x0, 1, 0, 2, 0x7, 0x0, 0x0, 0x0⟩,
  -- ID
  ⟨0x0, 0x0, 1, 0, 8, 0x0, 0x0, 0x0, 0x2a000100000000⟩,
  -- TROUBLE
  ⟨0x30, 0x0, 1, 0, 8, 0x0, 0x0, 0x0, 0x0⟩,
  -- TRCLR
  ⟨0x38, 0x0, 1, 0, 5, 0xf, 0x0, 0x0, 0x0⟩,
  -- LOCK
  ⟨0x40, 0x0, 1, 0, 8, 0x0, 0x0, 0x0, 0x0⟩]

/-- The registers of the EMC page. -/
def rowsEMC : List RegRow := [
  -- EMC_CAP
  ⟨0x8, 0x0, 1, 0, 8, 0x0, 0x0, 0x0, 0x420⟩,
  -- EMC_STAT
  ⟨0x18, 0x0, 1, 0, 8, 0x0, 0x0, 0x0, 0x2⟩,
  -- EMC_EVT
  ⟨0x20, 0x0, 1, 0, 2, 0x0, 0x0, 0xf, 0x0⟩,
  -- EMC_CFG
  ⟨0x80, 0x0, 1, 0, 8, 0x0, 0xf, 0x0, 0x0⟩,
  -- EMC_SIZE
  ⟨0x88, 0x0, 1, 0, 8, 0x0, 0x0, 0x0, 0x0⟩,
  -- EMC_PARTn
  ⟨0xa0, 0x8, 4, 0, 8, 0x0, 0x7ffffffff, 0x0, 0x0⟩,
  -- EMC_SCRUB
  ⟨0xc0, 0x0, 1, 0, 8, 0x0, 0x0, 0x0, 0x0⟩,
  -- EMC_ECC
  ⟨0xc8, 0x0, 1, 0, 8, 0x0, 0x0, 0x0, 0x0⟩,
  -- EMC_ERRADDR
  ⟨0xd0, 0x0, 1, 0, 8, 0x0, 0x0, 0x0, 0x0⟩,
  -- EMC_KEYCTL
  ⟨0xd8, 0x0, 1, 0, 8, 0x0, 0x7, 0x0, 0x0⟩,
  -- EMC_TRAIN
  ⟨0xe0, 0x0, 1, 0, 8, 0x0, 0x0, 0x0, 0x0⟩,
  -- CTL
  ⟨0x10, 0x0, 1, 0, 1, 0x0, 0x0, 0x0, 0x0⟩,
  -- EVTEN
  ⟨0x28, 0x0, 1, 0, 2, 0xf, 0x0, 0x0, 0x0⟩,
  -- ID
  ⟨0x0, 0x0, 1, 0, 8, 0x0, 0x0, 0x0, 0x2b000100000000⟩,
  -- TROUBLE
  ⟨0x30, 0x0, 1, 0, 8, 0x0, 0x0, 0x0, 0x0⟩,
  -- TRCLR
  ⟨0x38, 0x0, 1, 0, 5, 0xf, 0x0, 0x0, 0x0⟩,
  -- LOCK
  ⟨0x40, 0x0, 1, 0, 8, 0x0, 0x0, 0x0, 0x0⟩]

/-- The registers of the KPX page. -/
def rowsKPX : List RegRow := [
  -- KPX_CAP
  ⟨0x8, 0x0, 1, 0, 9, 0x0, 0x0, 0x0, 0x4000000001900810⟩,
  -- KPX_CTL
  ⟨0x10, 0x0, 1, 0, 9, 0x1, 0x0, 0x0, 0x0⟩,
  -- KPX_STAT
  ⟨0x18, 0x0, 1, 0, 9, 0x0, 0x0, 0x0, 0x0⟩,
  -- KPX_EVT
  ⟨0x20, 0x0, 1, 0, 9, 0x0, 0x0, 0x1, 0x0⟩,
  -- KPX_STATUS
  ⟨0x80, 0x0, 1, 0, 9, 0x7, 0x0, 0x0, 0x0⟩,
  -- KPX_TRAPVEC
  ⟨0x88, 0x0, 1, 0, 9, 0xffffffffffffffff, 0x0, 0x0, 0x30000040⟩,
  -- KPX_TRAPPC
  ⟨0x90, 0x0, 1, 0, 9, 0xffffffffffffffff, 0x0, 0x0, 0x0⟩,
  -- KPX_TRAPCAUSE
  ⟨0x98, 0x0, 1, 0, 9, 0x0, 0x0, 0x0, 0x0⟩,
  -- KPX_TRAPADDR
  ⟨0xa0, 0x0, 1, 0, 9, 0x0, 0x0, 0x0, 0x0⟩,
  -- KPX_TRAPWORD
  ⟨0xa8, 0x0, 1, 0, 9, 0x0, 0x0, 0x0, 0x0⟩,
  -- KPX_ASLOT
  ⟨0xb0, 0x0, 1, 0, 9, 0x107, 0x0, 0x0, 0x0⟩,
  -- KPX_SCRATCHn
  ⟨0xc0, 0x8, 4, 0, 9, 0xffffffffffffffff, 0x0, 0x0, 0x0⟩,
  -- KPX_CYCLE
  ⟨0xe0, 0x0, 1, 0, 9, 0x0, 0x0, 0x0, 0x0⟩,
  -- KPX_INSTRET
  ⟨0xe8, 0x0, 1, 0, 9, 0x0, 0x0, 0x0, 0x0⟩,
  -- KPX_NVMADDR
  ⟨0x100, 0x0, 1, 0, 9, 0xffff8, 0x0, 0x0, 0x0⟩,
  -- KPX_NVMDATA
  ⟨0x108, 0x0, 1, 0, 9, 0xffffffffffffffff, 0x0, 0x0, 0x0⟩,
  -- KPX_NVMCMD
  ⟨0x110, 0x0, 1, 0, 9, 0x0, 0x0, 0x0, 0x0⟩,
  -- KPX_NVMSTAT
  ⟨0x118, 0x0, 1, 0, 9, 0x0, 0x0, 0x0, 0x0⟩,
  -- EVTEN
  ⟨0x28, 0x0, 1, 0, 9, 0x1, 0x0, 0x0, 0x0⟩,
  -- ID
  ⟨0x0, 0x0, 1, 0, 8, 0x0, 0x0, 0x0, 0x30000100000000⟩,
  -- TROUBLE
  ⟨0x30, 0x0, 1, 0, 8, 0x0, 0x0, 0x0, 0x0⟩,
  -- TRCLR
  ⟨0x38, 0x0, 1, 0, 9, 0xf, 0x0, 0x0, 0x0⟩,
  -- LOCK
  ⟨0x40, 0x0, 1, 0, 8, 0x0, 0x0, 0x0, 0x0⟩]

/-- The registers of the KEY page. -/
def rowsKEY : List RegRow := [
  -- KEY_CAP
  ⟨0x8, 0x0, 1, 0, 9, 0x0, 0x0, 0x0, 0x400000001020c040⟩,
  -- KEY_STAT
  ⟨0x18, 0x0, 1, 0, 9, 0x0, 0x0, 0x0, 0x0⟩,
  -- KEY_EVT
  ⟨0x20, 0x0, 1, 0, 9, 0x0, 0x0, 0xf, 0x0⟩,
  -- KEY_CMD
  ⟨0x80, 0x0, 1, 0, 9, 0x0, 0x0, 0x0, 0x0⟩,
  -- KEY_SRC
  ⟨0x88, 0x0, 1, 0, 9, 0xffffffff, 0x0, 0x0, 0x0⟩,
  -- KEY_POLICY
  ⟨0x90, 0x0, 1, 0, 9, 0xffffffffffffffff, 0x0, 0x0, 0x0⟩,
  -- KEY_CMDSTAT
  ⟨0x98, 0x0, 1, 0, 9, 0x0, 0x0, 0x0, 0x0⟩,
  -- KEY_ROOT
  ⟨0xa0, 0x0, 1, 0, 9, 0x0, 0x0, 0x0, 0x0⟩,
  -- KEY_BADk
  ⟨0xc0, 0x8, 4, 0, 9, 0x0, 0x0, 0x0, 0x0⟩,
  -- KEY_SWIN
  ⟨0xe0, 0x0, 1, 0, 9, 0xff, 0x0, 0x0, 0x0⟩,
  -- KEY_POLn
  ⟨0x400, 0x40, 256, 0, 9, 0x0, 0x0, 0x0, 0x0⟩,
  -- KEY_INFOn
  ⟨0x408, 0x40, 256, 0, 9, 0x0, 0x0, 0x0, 0x0⟩,
  -- EVTEN
  ⟨0x28, 0x0, 1, 0, 9, 0xf, 0x0, 0x0, 0x0⟩,
  -- ID
  ⟨0x0, 0x0, 1, 0, 8, 0x0, 0x0, 0x0, 0x31000100000000⟩,
  -- TROUBLE
  ⟨0x30, 0x0, 1, 0, 8, 0x0, 0x0, 0x0, 0x0⟩,
  -- TRCLR
  ⟨0x38, 0x0, 1, 0, 9, 0xf, 0x0, 0x0, 0x0⟩,
  -- LOCK
  ⟨0x40, 0x0, 1, 0, 8, 0x0, 0x0, 0x0, 0x0⟩]

/-- The registers of the CTR page. -/
def rowsCTR : List RegRow := [
  -- CTR_CAP
  ⟨0x8, 0x0, 1, 0, 9, 0x0, 0x0, 0x0, 0x4000000000002020⟩,
  -- CTR_STAT
  ⟨0x18, 0x0, 1, 0, 9, 0x0, 0x0, 0x0, 0x0⟩,
  -- CTR_EVT
  ⟨0x20, 0x0, 1, 0, 9, 0x0, 0x0, 0x3, 0x0⟩,
  -- CTR_CMD
  ⟨0x80, 0x0, 1, 0, 9, 0x0, 0x0, 0x0, 0x0⟩,
  -- CTR_CMDSTAT
  ⟨0x88, 0x0, 1, 0, 9, 0x0, 0x0, 0x0, 0x0⟩,
  -- CTR_VALn
  ⟨0x100, 0x8, 32, 0, 9, 0x0, 0x0, 0x0, 0x0⟩,
  -- EVTEN
  ⟨0x28, 0x0, 1, 0, 9, 0x3, 0x0, 0x0, 0x0⟩,
  -- ID
  ⟨0x0, 0x0, 1, 0, 8, 0x0, 0x0, 0x0, 0x32000100000000⟩,
  -- TROUBLE
  ⟨0x30, 0x0, 1, 0, 8, 0x0, 0x0, 0x0, 0x0⟩,
  -- TRCLR
  ⟨0x38, 0x0, 1, 0, 9, 0xf, 0x0, 0x0, 0x0⟩,
  -- LOCK
  ⟨0x40, 0x0, 1, 0, 8, 0x0, 0x0, 0x0, 0x0⟩]

/-- The registers of the TMP page. -/
def rowsTMP : List RegRow := [
  -- TMP_CAP
  ⟨0x8, 0x0, 1, 0, 9, 0x0, 0x0, 0x0, 0x400000000000000b⟩,
  -- TMP_STAT
  ⟨0x18, 0x0, 1, 0, 9, 0x0, 0x0, 0x0, 0x4⟩,
  -- TMP_EVT
  ⟨0x20, 0x0, 1, 0, 9, 0x0, 0x0, 0xf07ff, 0x0⟩,
  -- TMP_LEVEL
  ⟨0x80, 0x0, 1, 0, 9, 0x3fffff, 0x0, 0x0, 0x0⟩,
  -- TMP_FLOOR
  ⟨0x88, 0x0, 1, 0, 9, 0x0, 0x0, 0x0, 0x0⟩,
  -- TMP_EFF
  ⟨0x90, 0x0, 1, 0, 9, 0x0, 0x0, 0x0, 0x0⟩,
  -- TMP_LATCH
  ⟨0x98, 0x0, 1, 0, 9, 0x0, 0x0, 0x0, 0x0⟩,
  -- TMP_CLR
  ⟨0xa0, 0x0, 1, 0, 9, 0x0, 0x0, 0x0, 0x0⟩,
  -- TMP_CFG
  ⟨0xa8, 0x0, 1, 0, 9, 0x3, 0x0, 0x0, 0x0⟩,
  -- TMP_CNTs
  ⟨0x100, 0x8, 11, 0, 9, 0x0, 0x0, 0x0, 0x0⟩,
  -- EVTEN
  ⟨0x28, 0x0, 1, 0, 9, 0xf07ff, 0x0, 0x0, 0x0⟩,
  -- ID
  ⟨0x0, 0x0, 1, 0, 8, 0x0, 0x0, 0x0, 0x33000100000000⟩,
  -- TROUBLE
  ⟨0x30, 0x0, 1, 0, 8, 0x0, 0x0, 0x0, 0x0⟩,
  -- TRCLR
  ⟨0x38, 0x0, 1, 0, 9, 0xf, 0x0, 0x0, 0x0⟩,
  -- LOCK
  ⟨0x40, 0x0, 1, 0, 8, 0x0, 0x0, 0x0, 0x0⟩]

/-- The registers of the TEN page. -/
def rowsTEN : List RegRow := [
  -- TEN_CAP
  ⟨0x8, 0x0, 1, 0, 9, 0x0, 0x0, 0x0, 0x4000000000000002⟩,
  -- TEN_STAT
  ⟨0x18, 0x0, 1, 0, 9, 0x0, 0x0, 0x0, 0x0⟩,
  -- TEN_EVT
  ⟨0x20, 0x0, 1, 0, 9, 0x0, 0x0, 0xf, 0x0⟩,
  -- TEN_ORDERADDR
  ⟨0x80, 0x0, 1, 0, 9, 0xffffffff, 0x0, 0x0, 0x0⟩,
  -- TEN_MOLT
  ⟨0x88, 0x0, 1, 0, 9, 0x0, 0x0, 0x0, 0x0⟩,
  -- TEN_CFGADDR
  ⟨0x90, 0x0, 1, 0, 9, 0xffffffff, 0x0, 0x0, 0x0⟩,
  -- TEN_CFGLOAD
  ⟨0x98, 0x0, 1, 0, 9, 0x0, 0x0, 0x0, 0x0⟩,
  -- TEN_CFGSTAT
  ⟨0xa0, 0x0, 1, 0, 9, 0x0, 0x0, 0x0, 0x0⟩,
  -- TEN_CFGVER0
  ⟨0xb0, 0x0, 1, 0, 9, 0x0, 0x0, 0x0, 0x0⟩,
  -- TEN_CFGVER1
  ⟨0xb8, 0x0, 1, 0, 9, 0x0, 0x0, 0x0, 0x0⟩,
  -- TEN_LAST
  ⟨0xc0, 0x0, 1, 0, 9, 0x0, 0x0, 0x0, 0x0⟩,
  -- EVTEN
  ⟨0x28, 0x0, 1, 0, 9, 0xf, 0x0, 0x0, 0x0⟩,
  -- ID
  ⟨0x0, 0x0, 1, 0, 8, 0x0, 0x0, 0x0, 0x34000100000000⟩,
  -- TROUBLE
  ⟨0x30, 0x0, 1, 0, 8, 0x0, 0x0, 0x0, 0x0⟩,
  -- TRCLR
  ⟨0x38, 0x0, 1, 0, 9, 0xf, 0x0, 0x0, 0x0⟩,
  -- LOCK
  ⟨0x40, 0x0, 1, 0, 8, 0x0, 0x0, 0x0, 0x0⟩]

/-- The registers of the ATT page. -/
def rowsATT : List RegRow := [
  -- ATT_CAP
  ⟨0x8, 0x0, 1, 0, 9, 0x0, 0x0, 0x0, 0x400000000000000e⟩,
  -- ATT_STAT
  ⟨0x18, 0x0, 1, 0, 9, 0x0, 0x0, 0x0, 0x0⟩,
  -- ATT_EVT
  ⟨0x20, 0x0, 1, 0, 9, 0x0, 0x0, 0x7, 0x0⟩,
  -- ATT_SRC
  ⟨0x80, 0x0, 1, 0, 9, 0xffffffffffffffff, 0x0, 0x0, 0x0⟩,
  -- ATT_LEN
  ⟨0x88, 0x0, 1, 0, 9, 0xffffffff, 0x0, 0x0, 0x0⟩,
  -- ATT_MEAS
  ⟨0x90, 0x0, 1, 0, 9, 0x0, 0x0, 0x0, 0x0⟩,
  -- ATT_RELSTAT
  ⟨0x98, 0x0, 1, 0, 9, 0x0, 0x0, 0x0, 0x0⟩,
  -- ATT_RECENTk
  ⟨0xa0, 0x8, 4, 0, 9, 0x0, 0x0, 0x0, 0x0⟩,
  -- ATT_INFO
  ⟨0x430, 0x40, 14, 0, 9, 0x0, 0x0, 0x0, 0x0⟩,
  -- ATT_DIG0
  ⟨0x400, 0x40, 14, 0, 9, 0x0, 0x0, 0x0, 0x0⟩,
  -- ATT_DIG1
  ⟨0x408, 0x40, 14, 0, 9, 0x0, 0x0, 0x0, 0x0⟩,
  -- ATT_DIG2
  ⟨0x410, 0x40, 14, 0, 9, 0x0, 0x0, 0x0, 0x0⟩,
  -- ATT_DIG3
  ⟨0x418, 0x40, 14, 0, 9, 0x0, 0x0, 0x0, 0x0⟩,
  -- ATT_DIG4
  ⟨0x420, 0x40, 14, 0, 9, 0x0, 0x0, 0x0, 0x0⟩,
  -- ATT_DIG5
  ⟨0x428, 0x40, 14, 0, 9, 0x0, 0x0, 0x0, 0x0⟩,
  -- EVTEN
  ⟨0x28, 0x0, 1, 0, 9, 0x7, 0x0, 0x0, 0x0⟩,
  -- ID
  ⟨0x0, 0x0, 1, 0, 8, 0x0, 0x0, 0x0, 0x35000100000000⟩,
  -- TROUBLE
  ⟨0x30, 0x0, 1, 0, 8, 0x0, 0x0, 0x0, 0x0⟩,
  -- TRCLR
  ⟨0x38, 0x0, 1, 0, 9, 0xf, 0x0, 0x0, 0x0⟩,
  -- LOCK
  ⟨0x40, 0x0, 1, 0, 8, 0x0, 0x0, 0x0, 0x0⟩]

/-- The registers of the LVA page. -/
def rowsLVA : List RegRow := [
  -- LVA_CAP
  ⟨0x8, 0x0, 1, 0, 9, 0x0, 0x0, 0x0, 0x4000000000102008⟩,
  -- LVA_STAT
  ⟨0x18, 0x0, 1, 0, 9, 0x0, 0x0, 0x0, 0x0⟩,
  -- LVA_EVT
  ⟨0x20, 0x0, 1, 0, 9, 0x0, 0x0, 0x7, 0x0⟩,
  -- LVA_RESV
  ⟨0x80, 0x0, 1, 0, 9, 0xff, 0x0, 0x0, 0x0⟩,
  -- LVA_LOADADDR
  ⟨0x88, 0x0, 1, 0, 9, 0xffffffff, 0x0, 0x0, 0x0⟩,
  -- LVA_LOAD
  ⟨0x90, 0x0, 1, 0, 9, 0x0, 0x0, 0x0, 0x0⟩,
  -- LVA_LOADSTAT
  ⟨0x98, 0x0, 1, 0, 9, 0x0, 0x0, 0x0, 0x0⟩,
  -- LVA_SLOTs
  ⟨0x400, 0x40, 8, 0, 9, 0x0, 0x0, 0x0, 0x0⟩,
  -- LVA_SIZEs
  ⟨0x408, 0x40, 8, 0, 9, 0x0, 0x0, 0x0, 0x0⟩,
  -- LVA_FAULTs
  ⟨0x410, 0x40, 8, 0, 9, 0x0, 0x0, 0x0, 0x0⟩,
  -- LVA_RUNs
  ⟨0x418, 0x40, 8, 0, 9, 0x0, 0x0, 0x0, 0x0⟩,
  -- LVA_LOGs
  ⟨0x420, 0x40, 8, 0, 9, 0x0, 0x0, 0x0, 0x0⟩,
  -- EVTEN
  ⟨0x28, 0x0, 1, 0, 9, 0x7, 0x0, 0x0, 0x0⟩,
  -- ID
  ⟨0x0, 0x0, 1, 0, 8, 0x0, 0x0, 0x0, 0x36000100000000⟩,
  -- TROUBLE
  ⟨0x30, 0x0, 1, 0, 8, 0x0, 0x0, 0x0, 0x0⟩,
  -- TRCLR
  ⟨0x38, 0x0, 1, 0, 9, 0xf, 0x0, 0x0, 0x0⟩,
  -- LOCK
  ⟨0x40, 0x0, 1, 0, 8, 0x0, 0x0, 0x0, 0x0⟩]

/-- The register rows of a page; a page that is not assigned has none (R119, R120). -/
def rowsOf (page : Nat) : List RegRow :=
  match page with
  | 0x0 => rowsSYS
  | 0x1 => rowsCLK
  | 0x2 => rowsPWR
  | 0x3 => rowsRST
  | 0x4 => rowsLOG
  | 0x5 => rowsICU
  | 0x6 => rowsFFY
  | 0x7 => rowsDBG
  | 0x8 => rowsMOD
  | 0x10 => rowsFLD
  | 0x11 => rowsFIN
  | 0x12 => rowsFOUT
  | 0x13 => rowsFCNT
  | 0x14 => rowsITE
  | 0x15 => rowsCMG
  | 0x18 => rowsCAR
  | 0x19 => rowsDOR0
  | 0x1a => rowsDOR1
  | 0x1b => rowsDSE
  | 0x1c => rowsPKG
  | 0x20 => rowsCB0
  | 0x21 => rowsCB1
  | 0x22 => rowsTSY
  | 0x23 => rowsGRP
  | 0x28 => rowsHBX
  | 0x29 => rowsPCI
  | 0x2a => rowsMGT
  | 0x2b => rowsEMC
  | 0x30 => rowsKPX
  | 0x31 => rowsKEY
  | 0x32 => rowsCTR
  | 0x33 => rowsTMP
  | 0x34 => rowsTEN
  | 0x35 => rowsATT
  | 0x36 => rowsLVA
  | _ => []

/-- The 35 assigned pages (R119). -/
def pageNumbers : List Nat := [0x0, 0x1, 0x2, 0x3, 0x4, 0x5, 0x6, 0x7, 0x8, 0x10, 0x11, 0x12, 0x13, 0x14, 0x15, 0x18, 0x19, 0x1a, 0x1b, 0x1c, 0x20, 0x21, 0x22, 0x23, 0x28, 0x29, 0x2a, 0x2b, 0x30, 0x31, 0x32, 0x33, 0x34, 0x35, 0x36]

/-- Whether R119 assigns the page. -/
def pageAssigned (page : Nat) : Bool := pageNumbers.contains page

/-- Whether an offset is one of a row's registers. -/
def RegRow.covers (r : RegRow) (off : Nat) : Bool :=
  if r.count ≤ 1 then off == r.off
  else decide (r.off ≤ off) && decide ((off - r.off) % r.stride = 0) && decide ((off - r.off) / r.stride < r.count)

/-- The row of the register at an offset of a page, if there is one (R122 otherwise). -/
def rowAt (page off : Nat) : Option RegRow := (rowsOf page).find? (fun r => r.covers off)

/-- What a register reads after a power-on reset, where the tables give entries of one array different values: the lift, bus
and time axes of MOD_CAUSEn (R86, R93) and the fixed kinds of CB0 jobs 0 to 3 (R441, R455). -/
def resetSpecial (page off : Nat) : Option Nat :=
  match page, off with
  | 0x8, 0x180 => some 0x190003
  | 0x8, 0x198 => some 0x190008
  | 0x8, 0x1a8 => some 0x190001
  | 0x8, 0x1b0 => some 0x190001
  | 0x8, 0x1b8 => some 0x190003
  | 0x20, 0x400 => some 0x300080002
  | 0x20, 0x440 => some 0x300080004
  | 0x20, 0x480 => some 0x300080006
  | 0x20, 0x4c0 => some 0x300080008
  | 0x0, 0x100 => some 0x14
  | 0x0, 0x108 => some 0x8
  | 0x0, 0x110 => some 0x8
  | 0x0, 0x128 => some 0x8
  | 0x0, 0x138 => some 0x20c
  | _, _ => none

/-- The image an offset of a page reads after a power-on reset: the tables' reset column, and zero where no register stands (R122). -/
def resetImage (page off : Nat) : Nat :=
  match resetSpecial page off with
  | some v => v
  | none =>
    match rowAt page off with
    | some r => r.reset
    | none => 0

/-- The reset image of a register key. -/
def resetWord (key : Nat) : Word := BitVec.ofNat 64 (resetImage (key / 0x100000) (key % 0x100000))

/-- A field of a register: the register's key, its lowest bit and its width. -/
structure Fld where
  key : Nat
  lo : Nat
  w : Nat
  deriving DecidableEq, Repr

/-- The field `n` pages further on: DOR1 after DOR0, CB1 after CB0. -/
def Fld.onPage (f : Fld) (n : Nat) : Fld := ⟨f.key + n * 0x100000, f.lo, f.w⟩

/-- The field of entry `i` of an array. -/
def Fld.entry (f : Fld) (stride i : Nat) : Fld := ⟨f.key + i * stride, f.lo, f.w⟩

/-- Bit `i` of a field that holds one bit per thing. -/
def Fld.bit (f : Fld) (i : Nat) : Fld := ⟨f.key, f.lo + i, 1⟩

/-- The common header's CTL, STAT, EVT, EVTEN, LOCK words of a page (R129). -/
def hdrEvt (page : Nat) : Fld := ⟨regKey page 0x20, 0, 64⟩
def hdrEvten (page : Nat) : Fld := ⟨regKey page 0x28, 0, 64⟩
/-- The four fields of a page's TROUBLE (R129): 0 TRANSIENT, 1 LASTING, 2 VIOLATION, 3 LOST. -/
def hdrTrouble (page k : Nat) : Fld := ⟨regKey page 0x30, 16 * k, 16⟩
/-- The read layout of a page's LOCK (R136). -/
def lockArmed (page : Nat) : Fld := ⟨regKey page 0x40, 0, 1⟩
def lockAbandoned (page : Nat) : Fld := ⟨regKey page 0x40, 1, 1⟩
def lockDone (page : Nat) : Fld := ⟨regKey page 0x40, 2, 1⟩
def lockSeq (page : Nat) : Fld := ⟨regKey page 0x40, 8, 8⟩
def lockRemain (page : Nat) : Fld := ⟨regKey page 0x40, 16, 13⟩
def lockOwner (page : Nat) : Fld := ⟨regKey page 0x40, 29, 3⟩

namespace F
def SYS_CAP_PAGES : Fld := ⟨0x8, 0, 8⟩
def SYS_CAP_TOP : Fld := ⟨0x8, 8, 8⟩
def SYS_CAP_PAMCOLS : Fld := ⟨0x8, 16, 4⟩
def SYS_STAT_FENCE_UP : Fld := ⟨0x18, 0, 1⟩
def SYS_STAT_BARRIER_UP : Fld := ⟨0x18, 1, 1⟩
def SYS_STAT_KEEPER_UP : Fld := ⟨0x18, 2, 1⟩
def SYS_EVT_PAM_CHANGE : Fld := ⟨0x20, 0, 1⟩
def CLK_CAP_XIN_KHZ : Fld := ⟨0x100008, 0, 16⟩
def CLK_CAP_PLL_MULT : Fld := ⟨0x100008, 16, 8⟩
def CLK_STAT_PLL_LOCK : Fld := ⟨0x100018, 0, 1⟩
def CLK_STAT_XMODE : Fld := ⟨0x100018, 1, 1⟩
def CLK_STAT_XIN_WARN : Fld := ⟨0x100018, 2, 1⟩
def CLK_STAT_ANOMALY_ARMED : Fld := ⟨0x100018, 3, 1⟩
def CLK_EVT_XIN_WARN : Fld := ⟨0x100020, 0, 1⟩
def CLK_XIN_DEV_DEV : Fld := ⟨0x100080, 0, 16⟩
def CLK_XIN_DEV_WINDOWS : Fld := ⟨0x100080, 32, 32⟩
def CLK_UPTIME_US : Fld := ⟨0x100088, 0, 64⟩
def PWR_CAP_FINE : Fld := ⟨0x200008, 0, 1⟩
def PWR_STAT_CORE_OK : Fld := ⟨0x200018, 0, 1⟩
def PWR_STAT_AON_OK : Fld := ⟨0x200018, 1, 1⟩
def PWR_STAT_IOA_OK : Fld := ⟨0x200018, 2, 1⟩
def PWR_STAT_IOB_OK : Fld := ⟨0x200018, 3, 1⟩
def PWR_STAT_VDDQ_OK : Fld := ⟨0x200018, 4, 1⟩
def PWR_STAT_PCIE_OK : Fld := ⟨0x200018, 5, 1⟩
def PWR_STAT_ISO_OK : Fld := ⟨0x200018, 6, 1⟩
def PWR_STAT_VFLD_OK : Fld := ⟨0x200018, 7, 1⟩
def PWR_STAT_VBAT_OK : Fld := ⟨0x200018, 8, 1⟩
def PWR_STAT_VBAT_LOW : Fld := ⟨0x200018, 9, 1⟩
def PWR_EVT_VFLD : Fld := ⟨0x200020, 0, 1⟩
def PWR_EVT_VBAT_LOW : Fld := ⟨0x200020, 1, 1⟩
def PWR_EVT_IF_SUPPLY : Fld := ⟨0x200020, 2, 1⟩
def PWR_MON_LOGIC_MW : Fld := ⟨0x200080, 0, 16⟩
def PWR_MON_FIELD_MW : Fld := ⟨0x200080, 16, 16⟩
def PWR_MON_SEQ : Fld := ⟨0x200080, 32, 32⟩
def PWR_MON_FINE_RAW : Fld := ⟨0x200088, 0, 64⟩
def PWR_LEVEL_VBAT_MV : Fld := ⟨0x200090, 0, 16⟩
def PWR_LEVEL_VFLD_MV : Fld := ⟨0x200090, 16, 16⟩
def PWR_BTIME_S : Fld := ⟨0x200098, 0, 64⟩
def PWR_WATCH_CB0_WUP : Fld := ⟨0x2000a0, 0, 1⟩
def PWR_WATCH_CB1_WUP : Fld := ⟨0x2000a0, 1, 1⟩
def RST_EVT_BOOT_DONE : Fld := ⟨0x300020, 0, 1⟩
def RST_EVT_FIELD_ARMED : Fld := ⟨0x300020, 1, 1⟩
def RST_CAUSE_TYPE : Fld := ⟨0x300080, 0, 4⟩
def RST_CAUSE_SOURCE : Fld := ⟨0x300080, 8, 4⟩
def RST_CAUSE_BTIME : Fld := ⟨0x300080, 32, 32⟩
def RST_COUNT_WARM : Fld := ⟨0x300088, 0, 16⟩
def RST_COUNT_MOLT : Fld := ⟨0x300088, 16, 16⟩
def RST_COUNT_CARAPACE : Fld := ⟨0x300088, 32, 16⟩
def RST_COUNT_BROWNOUT : Fld := ⟨0x300088, 48, 16⟩
def RST_BOOT_STEP : Fld := ⟨0x300090, 0, 4⟩
def RST_BOOT_FSTEP : Fld := ⟨0x300090, 4, 2⟩
def RST_BOOT_RECOVERY : Fld := ⟨0x300090, 6, 1⟩
def RST_BOOT_FAIL_AT : Fld := ⟨0x300090, 8, 8⟩
def RST_BOOT_FAIL_CODE : Fld := ⟨0x300090, 16, 8⟩
def RST_CMD_CMD : Fld := ⟨0x300098, 0, 4⟩
def LOG_CAP_NCLASS : Fld := ⟨0x400008, 0, 8⟩
def LOG_STAT_SELF_FAIL : Fld := ⟨0x400018, 0, 1⟩
def LOG_STAT_SAT_ANY : Fld := ⟨0x400018, 1, 1⟩
def LOG_STAT_BAD_ANY : Fld := ⟨0x400018, 2, 1⟩
def LOG_EVT_SELF_FAIL : Fld := ⟨0x400020, 0, 1⟩
def LOG_EVT_SATURATED : Fld := ⟨0x400020, 1, 1⟩
def LOG_CLR_CLASS_CLASS : Fld := ⟨0x400080, 0, 64⟩
def LOG_CLR_SELF_SELF : Fld := ⟨0x400088, 0, 1⟩
def LOG_SAT_SAT : Fld := ⟨0x400090, 0, 64⟩
def LOG_BAD_BAD : Fld := ⟨0x400098, 0, 64⟩
def LOG_SELF_COUNT : Fld := ⟨0x4000a0, 0, 8⟩
def LOG_SELF_BBRAM : Fld := ⟨0x4000a0, 8, 8⟩
def LOG_SELF_PENDING : Fld := ⟨0x4000a0, 16, 8⟩
def LOG_CLASS_COUNT (i : Nat) : Fld := ⟨0x400100 + i * 0x8, 0, 32⟩
def ICU_CAP_NSRC : Fld := ⟨0x500008, 0, 16⟩
def ICU_CAP_NGROUP : Fld := ⟨0x500008, 16, 8⟩
def ICU_CAP_NTARGET : Fld := ⟨0x500008, 24, 8⟩
def ICU_CAP_DBQ : Fld := ⟨0x500008, 32, 8⟩
def ICU_STAT_REQ0 : Fld := ⟨0x500018, 0, 1⟩
def ICU_STAT_REQ1 : Fld := ⟨0x500018, 1, 1⟩
def ICU_STAT_T1GATE : Fld := ⟨0x500018, 2, 2⟩
def ICU_STAT_DBQ_LEVEL : Fld := ⟨0x500018, 4, 6⟩
def ICU_EVT_LOST : Fld := ⟨0x500020, 0, 1⟩
def ICU_CLAIM0_SRC : Fld := ⟨0x500080, 0, 9⟩
def ICU_CLAIM1_SRC : Fld := ⟨0x500090, 0, 9⟩
def ICU_COMPLETE0_SRC : Fld := ⟨0x500088, 0, 9⟩
def ICU_COMPLETE1_SRC : Fld := ⟨0x500098, 0, 9⟩
def ICU_LOSTSRC_SRC : Fld := ⟨0x5000a0, 0, 9⟩
def ICU_PEND_PEND (i : Nat) : Fld := ⟨0x500100 + i * 0x8, 0, 64⟩
def ICU_INSV_INSV (i : Nat) : Fld := ⟨0x500180 + i * 0x8, 0, 64⟩
def ICU_SRCCFG_BYTES (i : Nat) : Fld := ⟨0x500200 + i * 0x8, 0, 64⟩
def ICU_GCFG_COUNT (i : Nat) : Fld := ⟨0x500400 + i * 0x40, 0, 8⟩
def ICU_GCFG_TIME (i : Nat) : Fld := ⟨0x500400 + i * 0x40, 8, 16⟩
def ICU_GSTAT_COUNT (i : Nat) : Fld := ⟨0x500408 + i * 0x40, 0, 8⟩
def ICU_GSTAT_ELAPSED (i : Nat) : Fld := ⟨0x500408 + i * 0x40, 8, 16⟩
def ICU_GSTAT_RUNNING (i : Nat) : Fld := ⟨0x500408 + i * 0x40, 24, 1⟩
def ICU_GSTAT_FIRES (i : Nat) : Fld := ⟨0x500408 + i * 0x40, 32, 32⟩
def FFY_CAP_NSLOT : Fld := ⟨0x600008, 0, 5⟩
def FFY_STAT_ARMED : Fld := ⟨0x600018, 0, 1⟩
def FFY_EVT_WAKE : Fld := ⟨0x600020, 0, 1⟩
def FFY_TIMER_TICKS : Fld := ⟨0x600080, 0, 32⟩
def FFY_CAUSE_SRC : Fld := ⟨0x600088, 0, 9⟩
def FFY_CAUSE_SLOTS : Fld := ⟨0x600088, 16, 16⟩
def FFY_CAUSE_WAKES : Fld := ⟨0x600088, 32, 32⟩
def FFY_SLOT_SRC (i : Nat) : Fld := ⟨0x600100 + i * 0x8, 0, 9⟩
def FFY_SLOT_EN (i : Nat) : Fld := ⟨0x600100 + i * 0x8, 15, 1⟩
def FLD_CAP_FRAME_BITS : Fld := ⟨0x1000008, 0, 16⟩
def FLD_CAP_SLOT_CYCLES : Fld := ⟨0x1000008, 16, 16⟩
def FLD_CAP_GATHER_MAX : Fld := ⟨0x1000008, 32, 8⟩
def FLD_STAT_WATCH : Fld := ⟨0x1000018, 0, 1⟩
def FLD_STAT_DROPPED : Fld := ⟨0x1000018, 1, 1⟩
def FLD_STAT_SILENT : Fld := ⟨0x1000018, 2, 1⟩
def FLD_EVT_GATHER_DONE : Fld := ⟨0x1000020, 0, 1⟩
def FLD_EVT_DROP_SEEN : Fld := ⟨0x1000020, 1, 1⟩
def FLD_EVT_LASTING : Fld := ⟨0x1000020, 2, 1⟩
def FLD_SEQ_OUT : Fld := ⟨0x1000080, 0, 16⟩
def FLD_SEQ_IN : Fld := ⟨0x1000080, 16, 16⟩
def FLD_CTEMP_TEMP : Fld := ⟨0x1000088, 0, 8⟩
def FLD_GATHER_COUNT : Fld := ⟨0x10000c0, 0, 5⟩
def FLD_GATHER_START : Fld := ⟨0x10000c0, 8, 1⟩
def FLD_GCODE0_CODE : Fld := ⟨0x10000c8, 0, 64⟩
def FLD_GCODE1_CODE : Fld := ⟨0x10000d0, 0, 64⟩
def FLD_GSTAT_RUNNING : Fld := ⟨0x10000d8, 0, 1⟩
def FLD_GSTAT_DONE : Fld := ⟨0x10000d8, 1, 1⟩
def FLD_GSTAT_ABORTED : Fld := ⟨0x10000d8, 2, 1⟩
def FLD_GSTAT_DELIVERED : Fld := ⟨0x10000d8, 8, 5⟩
def FLD_GSTAT_LASTING : Fld := ⟨0x10000d8, 16, 16⟩
def FLD_GSTAT_RETRIED : Fld := ⟨0x10000d8, 32, 16⟩
def FLD_GRES_VALUE (i : Nat) : Fld := ⟨0x1000400 + i * 0x40, 0, 24⟩
def FLD_GRES_VALID (i : Nat) : Fld := ⟨0x1000400 + i * 0x40, 24, 1⟩
def FLD_GRES_LASTING (i : Nat) : Fld := ⟨0x1000400 + i * 0x40, 25, 1⟩
def FLD_GRES_RETRIED (i : Nat) : Fld := ⟨0x1000400 + i * 0x40, 26, 1⟩
def FLD_GRES_CODE (i : Nat) : Fld := ⟨0x1000400 + i * 0x40, 32, 8⟩
def FIN_CAP_NIN : Fld := ⟨0x1100008, 0, 8⟩
def FIN_CAP_NFAST : Fld := ⟨0x1100008, 8, 8⟩
def FIN_EVT_EDGE : Fld := ⟨0x1100020, 0, 4⟩
def FIN_STATE_STATE : Fld := ⟨0x1100080, 0, 32⟩
def FIN_EDGE_EDGE : Fld := ⟨0x1100088, 0, 32⟩
def FIN_RISEEN_EN : Fld := ⟨0x1100090, 0, 32⟩
def FIN_FALLEN_EN : Fld := ⟨0x1100098, 0, 32⟩
def FIN_PCFG_PSCAN : Fld := ⟨0x11000a0, 0, 6⟩
def FIN_CFG_TYPE (i : Nat) : Fld := ⟨0x1100400 + i * 0x40, 0, 1⟩
def FIN_CFG_MODE (i : Nat) : Fld := ⟨0x1100400 + i * 0x40, 1, 1⟩
def FIN_CFG_FILTER (i : Nat) : Fld := ⟨0x1100400 + i * 0x40, 8, 8⟩
def FIN_CFG_FAST_FILT (i : Nat) : Fld := ⟨0x1100400 + i * 0x40, 16, 6⟩
def FOUT_CAP_NOUT : Fld := ⟨0x1200008, 0, 8⟩
def FOUT_STAT_FAULT : Fld := ⟨0x1200018, 0, 1⟩
def FOUT_STAT_TSD : Fld := ⟨0x1200018, 1, 1⟩
def FOUT_STAT_ILIM : Fld := ⟨0x1200018, 2, 1⟩
def FOUT_STAT_SWEEPING : Fld := ⟨0x1200018, 3, 1⟩
def FOUT_EVT_SWEEP_DONE : Fld := ⟨0x1200020, 0, 1⟩
def FOUT_EVT_LASTING : Fld := ⟨0x1200020, 1, 1⟩
def FOUT_EVT_ILIM : Fld := ⟨0x1200020, 2, 1⟩
def FOUT_EVT_TSD : Fld := ⟨0x1200020, 3, 1⟩
def FOUT_EVT_FAULT : Fld := ⟨0x1200020, 4, 1⟩
def FOUT_APPLIED_APPLIED : Fld := ⟨0x1200080, 0, 16⟩
def FOUT_APPLIED_PERMIT : Fld := ⟨0x1200080, 16, 16⟩
def FOUT_SET_VALUE : Fld := ⟨0x1200088, 0, 16⟩
def FOUT_SET_MASK : Fld := ⟨0x1200088, 16, 16⟩
def FOUT_INHIBIT_INH : Fld := ⟨0x1200090, 0, 16⟩
def FOUT_UNINHIBIT_CH : Fld := ⟨0x1200098, 0, 16⟩
def FOUT_SWEEP_MASK : Fld := ⟨0x12000a0, 0, 16⟩
def FOUT_SWEEP_ON_TEST : Fld := ⟨0x12000a0, 16, 1⟩
def FOUT_SWEEP_ALL_OFF : Fld := ⟨0x12000a0, 17, 1⟩
def FOUT_SWEEP_SETTLE : Fld := ⟨0x12000a0, 24, 8⟩
def FOUT_SWEEP_START : Fld := ⟨0x12000a0, 32, 1⟩
def FOUT_SWEEP_ABORT : Fld := ⟨0x12000a0, 33, 1⟩
def FOUT_SWEEPSTAT_MASK : Fld := ⟨0x12000a8, 0, 16⟩
def FOUT_SWEEPSTAT_ON_TEST : Fld := ⟨0x12000a8, 16, 1⟩
def FOUT_SWEEPSTAT_ALL_OFF : Fld := ⟨0x12000a8, 17, 1⟩
def FOUT_SWEEPSTAT_RUNNING : Fld := ⟨0x12000a8, 18, 1⟩
def FOUT_SWEEPSTAT_DONE : Fld := ⟨0x12000a8, 19, 1⟩
def FOUT_SWEEPSTAT_ABORTED : Fld := ⟨0x12000a8, 20, 1⟩
def FOUT_SWEEPSTAT_CHANNEL : Fld := ⟨0x12000a8, 24, 4⟩
def FOUT_SWEEPSTAT_SETTLE : Fld := ⟨0x12000a8, 32, 8⟩
def FOUT_CFG_DEMAG (i : Nat) : Fld := ⟨0x1200400 + i * 0x40, 0, 1⟩
def FOUT_ONCNT_COUNT (i : Nat) : Fld := ⟨0x1200408 + i * 0x40, 0, 32⟩
def FOUT_SWR_RESULT (i : Nat) : Fld := ⟨0x1200410 + i * 0x40, 0, 2⟩
def FOUT_SWR_OFF_FAULT (i : Nat) : Fld := ⟨0x1200410 + i * 0x40, 2, 1⟩
def FOUT_SWR_ON_FAULT (i : Nat) : Fld := ⟨0x1200410 + i * 0x40, 3, 1⟩
def FOUT_SWR_ON_SKIPPED (i : Nat) : Fld := ⟨0x1200410 + i * 0x40, 4, 1⟩
def FCNT_CAP_NUNIT : Fld := ⟨0x1300008, 0, 8⟩
def FCNT_EVT_QERR : Fld := ⟨0x1300020, 0, 4⟩
def FCNT_EVT_POVF : Fld := ⟨0x1300020, 4, 4⟩
def FCNT_RESET_UNIT : Fld := ⟨0x1300080, 0, 4⟩
def FCNT_CFG_MODE (i : Nat) : Fld := ⟨0x1300400 + i * 0x40, 0, 3⟩
def FCNT_CFG_DIR (i : Nat) : Fld := ⟨0x1300400 + i * 0x40, 3, 1⟩
def FCNT_CFG_GATE_MS (i : Nat) : Fld := ⟨0x1300400 + i * 0x40, 16, 10⟩
def FCNT_VAL_VALUE (i : Nat) : Fld := ⟨0x1300408 + i * 0x40, 0, 64⟩
def FCNT_STAT_DOWN (i : Nat) : Fld := ⟨0x1300410 + i * 0x40, 0, 1⟩
def FCNT_STAT_RESULT (i : Nat) : Fld := ⟨0x1300410 + i * 0x40, 1, 1⟩
def FCNT_STAT_POVF (i : Nat) : Fld := ⟨0x1300410 + i * 0x40, 2, 1⟩
def FCNT_STAT_QERR_SCANS (i : Nat) : Fld := ⟨0x1300410 + i * 0x40, 16, 16⟩
def FCNT_HZ_HZ (i : Nat) : Fld := ⟨0x1300418 + i * 0x40, 0, 32⟩
def ITE_CAP_NRULE : Fld := ⟨0x1400008, 0, 16⟩
def ITE_CAP_NTERM : Fld := ⟨0x1400008, 16, 4⟩
def ITE_CAP_NCLASS : Fld := ⟨0x1400008, 24, 5⟩
def ITE_CAP_NCONST : Fld := ⟨0x1400008, 32, 7⟩
def ITE_STAT_ACTIVE : Fld := ⟨0x1400018, 0, 1⟩
def ITE_STAT_TRIP : Fld := ⟨0x1400018, 1, 1⟩
def ITE_STAT_TRIP_CAUSE : Fld := ⟨0x1400018, 2, 2⟩
def ITE_STAT_LOADING : Fld := ⟨0x1400018, 4, 1⟩
def ITE_EVT_TRIP : Fld := ⟨0x1400020, 0, 1⟩
def ITE_EVT_PERMIT : Fld := ⟨0x1400020, 1, 1⟩
def ITE_EVT_LOAD_DONE : Fld := ⟨0x1400020, 2, 1⟩
def ITE_EVT_TRIP_CLEARED : Fld := ⟨0x1400020, 3, 1⟩
def ITE_PERMIT_GRANT : Fld := ⟨0x1400080, 0, 24⟩
def ITE_TRIPREC_RULE : Fld := ⟨0x1400088, 0, 8⟩
def ITE_TRIPREC_CAUSE : Fld := ⟨0x1400088, 8, 2⟩
def ITE_TRIPREC_COUNT : Fld := ⟨0x1400088, 32, 32⟩
def ITE_TRIPCLR_CLEAR : Fld := ⟨0x1400090, 0, 1⟩
def ITE_TABLE_VERSION : Fld := ⟨0x1400098, 0, 32⟩
def ITE_TABLE_NRULE : Fld := ⟨0x1400098, 32, 9⟩
def ITE_TABLE_BOUND : Fld := ⟨0x1400098, 48, 1⟩
def ITE_CRC_CRC : Fld := ⟨0x14000a0, 0, 32⟩
def ITE_LOADADDR_ADDR : Fld := ⟨0x14000c0, 0, 32⟩
def ITE_LOAD_MODE : Fld := ⟨0x14000c8, 0, 2⟩
def ITE_LOADSTAT_STATE : Fld := ⟨0x14000d0, 0, 3⟩
def ITE_LOADSTAT_CAUSE : Fld := ⟨0x14000d0, 8, 8⟩
def ITE_LOADSTAT_CHUNK : Fld := ⟨0x14000d0, 16, 10⟩
def CMG_CAP_NSLOT : Fld := ⟨0x1500008, 0, 4⟩
def CMG_CAP_TAGBITS : Fld := ⟨0x1500008, 8, 5⟩
def CMG_CAP_PER_FRAME : Fld := ⟨0x1500008, 16, 3⟩
def CMG_STAT_ARMED : Fld := ⟨0x1500018, 0, 1⟩
def CMG_STAT_REFUSING : Fld := ⟨0x1500018, 1, 1⟩
def CMG_STAT_DROPPED : Fld := ⟨0x1500018, 2, 1⟩
def CMG_STAT_ARM_INCOMPLETE : Fld := ⟨0x1500018, 3, 1⟩
def CMG_STAT_WAITING : Fld := ⟨0x1500018, 8, 8⟩
def CMG_EVT_COMMIT : Fld := ⟨0x1500020, 0, 1⟩
def CMG_EVT_SQUASH : Fld := ⟨0x1500020, 1, 1⟩
def CMG_EVT_ARMED : Fld := ⟨0x1500020, 2, 1⟩
def CMG_EVT_REFUSED : Fld := ⟨0x1500020, 3, 1⟩
def CMG_EVT_LOST : Fld := ⟨0x1500020, 4, 1⟩
def CMG_ARM_BASE : Fld := ⟨0x1500080, 0, 16⟩
def CMG_ARM_GO : Fld := ⟨0x1500080, 16, 1⟩
def CMG_TAGS_LAST : Fld := ⟨0x1500088, 0, 16⟩
def CMG_TAGS_COMMIT : Fld := ⟨0x1500088, 16, 16⟩
def CMG_TAGS_SQUASH : Fld := ⟨0x1500088, 32, 16⟩
def CMG_COUNT_COMMITS : Fld := ⟨0x1500090, 0, 32⟩
def CMG_COUNT_SQUASHED : Fld := ⟨0x1500090, 32, 32⟩
def CMG_DIGEST_DIGEST (i : Nat) : Fld := ⟨0x15000a0 + i * 0x8, 0, 64⟩
def CMG_SLOT_TAG (i : Nat) : Fld := ⟨0x1500400 + i * 0x40, 0, 16⟩
def CMG_SLOT_PCLASS (i : Nat) : Fld := ⟨0x1500400 + i * 0x40, 16, 5⟩
def CMG_SLOT_RELEASE (i : Nat) : Fld := ⟨0x1500400 + i * 0x40, 21, 1⟩
def CMG_SLOT_VALID (i : Nat) : Fld := ⟨0x1500400 + i * 0x40, 22, 1⟩
def CMG_SLOT_RELEASED (i : Nat) : Fld := ⟨0x1500400 + i * 0x40, 23, 1⟩
def CMG_SLOT_OUT_MASK (i : Nat) : Fld := ⟨0x1500400 + i * 0x40, 24, 16⟩
def CMG_SLOT_OUT_VALUE (i : Nat) : Fld := ⟨0x1500400 + i * 0x40, 40, 16⟩
def CAR_CAP_NLAND : Fld := ⟨0x1800008, 0, 8⟩
def CAR_STAT_VALID : Fld := ⟨0x1800018, 0, 1⟩
def CAR_STAT_DZ : Fld := ⟨0x1800018, 1, 1⟩
def CAR_STAT_AT_LEVEL : Fld := ⟨0x1800018, 2, 1⟩
def CAR_STAT_STOPPED : Fld := ⟨0x1800018, 3, 1⟩
def CAR_STAT_UP : Fld := ⟨0x1800018, 4, 1⟩
def CAR_STAT_DOWN : Fld := ⟨0x1800018, 5, 1⟩
def CAR_STAT_RELEARNING : Fld := ⟨0x1800018, 6, 1⟩
def CAR_STAT_RETRY_PENDING : Fld := ⟨0x1800018, 7, 1⟩
def CAR_STAT_LANDING : Fld := ⟨0x1800018, 8, 6⟩
def CAR_EVT_DZ_ENTER : Fld := ⟨0x1800020, 0, 1⟩
def CAR_EVT_DZ_LEAVE : Fld := ⟨0x1800020, 1, 1⟩
def CAR_EVT_LEVEL : Fld := ⟨0x1800020, 2, 1⟩
def CAR_EVT_STOPPED : Fld := ⟨0x1800020, 3, 1⟩
def CAR_EVT_VANE : Fld := ⟨0x1800020, 4, 1⟩
def CAR_EVT_LASTING : Fld := ⟨0x1800020, 5, 1⟩
def CAR_EVT_DEVIATION : Fld := ⟨0x1800020, 6, 1⟩
def CAR_EVT_RELEARN_DONE : Fld := ⟨0x1800020, 7, 1⟩
def CAR_CFG_UNIT : Fld := ⟨0x1800080, 0, 1⟩
def CAR_CFG_RELEARN_DIR : Fld := ⟨0x1800080, 1, 1⟩
def CAR_CFG_VANE_IN : Fld := ⟨0x1800080, 8, 8⟩
def CAR_CFG_DZ_IN : Fld := ⟨0x1800080, 16, 8⟩
def CAR_CFG_REF_IN : Fld := ⟨0x1800080, 24, 8⟩
def CAR_SCALE_SCALE : Fld := ⟨0x1800088, 0, 32⟩
def CAR_TOL_CORR_TOL : Fld := ⟨0x1800090, 0, 16⟩
def CAR_TOL_LEVEL_TOL : Fld := ⟨0x1800090, 16, 16⟩
def CAR_TOL_STOP_SPEED : Fld := ⟨0x1800090, 32, 16⟩
def CAR_LIMIT_LO_LO : Fld := ⟨0x1800098, 0, 64⟩
def CAR_LIMIT_HI_HI : Fld := ⟨0x18000a0, 0, 64⟩
def CAR_REFPOS_POS : Fld := ⟨0x18000a8, 0, 64⟩
def CAR_POS_POS : Fld := ⟨0x18000b0, 0, 64⟩
def CAR_SPEED_V : Fld := ⟨0x18000b8, 0, 32⟩
def CAR_OFFSET_OFFSET : Fld := ⟨0x18000c0, 0, 64⟩
def CAR_VCAP_POS_E : Fld := ⟨0x18000c8, 0, 64⟩
def CAR_VCAP_INFO_LANDING : Fld := ⟨0x18000d0, 0, 6⟩
def CAR_VCAP_INFO_MATCHED : Fld := ⟨0x18000d0, 6, 1⟩
def CAR_VCAP_INFO_EDGE : Fld := ⟨0x18000d0, 7, 1⟩
def CAR_VCAP_INFO_UP : Fld := ⟨0x18000d0, 8, 1⟩
def CAR_VCAP_INFO_FAILED : Fld := ⟨0x18000d0, 9, 1⟩
def CAR_VCAP_INFO_SECOND : Fld := ⟨0x18000d0, 10, 1⟩
def CAR_VCAP_INFO_IGNORED : Fld := ⟨0x18000d0, 11, 1⟩
def CAR_VCAP_INFO_DEV : Fld := ⟨0x18000d0, 16, 32⟩
def CAR_RELEARN_PHASE : Fld := ⟨0x18000d8, 0, 3⟩
def CAR_RELEARN_STARTS : Fld := ⟨0x18000d8, 16, 16⟩
def CAR_LWIN_J : Fld := ⟨0x18000e0, 0, 6⟩
def CAR_LLEVEL_LEVEL (i : Nat) : Fld := ⟨0x1800400 + i * 0x40, 0, 64⟩
def CAR_LVLO_VANE_LO (i : Nat) : Fld := ⟨0x1800408 + i * 0x40, 0, 64⟩
def CAR_LVHI_VANE_HI (i : Nat) : Fld := ⟨0x1800410 + i * 0x40, 0, 64⟩
def CAR_LZONE_BELOW (i : Nat) : Fld := ⟨0x1800418 + i * 0x40, 0, 32⟩
def CAR_LZONE_ABOVE (i : Nat) : Fld := ⟨0x1800418 + i * 0x40, 32, 32⟩
def CAR_LFLAGS_VALID (i : Nat) : Fld := ⟨0x1800420 + i * 0x40, 0, 1⟩
def CAR_LFLAGS_FRONT (i : Nat) : Fld := ⟨0x1800420 + i * 0x40, 1, 1⟩
def CAR_LFLAGS_REAR (i : Nat) : Fld := ⟨0x1800420 + i * 0x40, 2, 1⟩
def DOR_CAP_REAR (n : Nat) : Fld := ⟨0x1900008 + n * 0x100000, 0, 1⟩
def DOR_STAT_LOCKED (n : Nat) : Fld := ⟨0x1900018 + n * 0x100000, 0, 1⟩
def DOR_STAT_HELD (n : Nat) : Fld := ⟨0x1900018 + n * 0x100000, 1, 1⟩
def DOR_STAT_JOB_UP (n : Nat) : Fld := ⟨0x1900018 + n * 0x100000, 2, 1⟩
def DOR_STAT_PARK (n : Nat) : Fld := ⟨0x1900018 + n * 0x100000, 3, 1⟩
def DOR_STAT_NUDGE_ARMED (n : Nat) : Fld := ⟨0x1900018 + n * 0x100000, 4, 1⟩
def DOR_STAT_CURTAIN (n : Nat) : Fld := ⟨0x1900018 + n * 0x100000, 5, 1⟩
def DOR_EVT_STATE (n : Nat) : Fld := ⟨0x1900020 + n * 0x100000, 0, 1⟩
def DOR_EVT_OBSTRUCT (n : Nat) : Fld := ⟨0x1900020 + n * 0x100000, 1, 1⟩
def DOR_EVT_NUDGE (n : Nat) : Fld := ⟨0x1900020 + n * 0x100000, 2, 1⟩
def DOR_EVT_LOCKED (n : Nat) : Fld := ⟨0x1900020 + n * 0x100000, 3, 1⟩
def DOR_EVT_HELD (n : Nat) : Fld := ⟨0x1900020 + n * 0x100000, 4, 1⟩
def DOR_EVT_JOB (n : Nat) : Fld := ⟨0x1900020 + n * 0x100000, 5, 1⟩
def DOR_EVT_OPFAULT (n : Nat) : Fld := ⟨0x1900020 + n * 0x100000, 6, 1⟩
def DOR_EVT_LOCKLOST (n : Nat) : Fld := ⟨0x1900020 + n * 0x100000, 7, 1⟩
def DOR_CFG_EN (n : Nat) : Fld := ⟨0x1900080 + n * 0x100000, 0, 1⟩
def DOR_CFG_NUDGE_AFTER (n : Nat) : Fld := ⟨0x1900080 + n * 0x100000, 4, 4⟩
def DOR_CFG_LOCKMISS_MAX (n : Nat) : Fld := ⟨0x1900080 + n * 0x100000, 8, 4⟩
def DOR_CFG_LOCK_PCLASS (n : Nat) : Fld := ⟨0x1900080 + n * 0x100000, 16, 5⟩
def DOR_CFG_LOCK_MS (n : Nat) : Fld := ⟨0x1900080 + n * 0x100000, 24, 8⟩
def DOR_CFG_FORCE_LIMIT (n : Nat) : Fld := ⟨0x1900080 + n * 0x100000, 32, 16⟩
def DOR_CFG_NUDGE_HOLD (n : Nat) : Fld := ⟨0x1900080 + n * 0x100000, 48, 8⟩
def DOR_DWELL_HALL (n : Nat) : Fld := ⟨0x1900088 + n * 0x100000, 0, 16⟩
def DOR_DWELL_CAR (n : Nat) : Fld := ⟨0x1900088 + n * 0x100000, 16, 16⟩
def DOR_DWELL_REOPEN (n : Nat) : Fld := ⟨0x1900088 + n * 0x100000, 32, 16⟩
def DOR_INSEL_RAW (n : Nat) : Fld := ⟨0x1900090 + n * 0x100000, 0, 32⟩
def DOR_LOCKMASK_MASK (n : Nat) : Fld := ⟨0x1900098 + n * 0x100000, 0, 32⟩
def DOR_CMD_UNHOLD (n : Nat) : Fld := ⟨0x19000a0 + n * 0x100000, 0, 1⟩
def DOR_STATE_STATE (n : Nat) : Fld := ⟨0x19000a8 + n * 0x100000, 0, 4⟩
def DOR_STATE_OP_STATE (n : Nat) : Fld := ⟨0x19000a8 + n * 0x100000, 4, 4⟩
def DOR_STATE_LANDING (n : Nat) : Fld := ⟨0x19000a8 + n * 0x100000, 8, 8⟩
def DOR_STATE_REOPENS (n : Nat) : Fld := ⟨0x19000a8 + n * 0x100000, 16, 4⟩
def DOR_STATE_LOCKMISS (n : Nat) : Fld := ⟨0x19000a8 + n * 0x100000, 20, 4⟩
def DOR_STATE_OP_POS (n : Nat) : Fld := ⟨0x19000a8 + n * 0x100000, 24, 8⟩
def DOR_STATE_FORCE (n : Nat) : Fld := ⟨0x19000a8 + n * 0x100000, 32, 16⟩
def DOR_STATE_CMD (n : Nat) : Fld := ⟨0x19000a8 + n * 0x100000, 48, 8⟩
def DOR_STATE_SEQ (n : Nat) : Fld := ⟨0x19000a8 + n * 0x100000, 56, 8⟩
def DOR_COUNT_CYCLES (n : Nat) : Fld := ⟨0x19000b0 + n * 0x100000, 0, 32⟩
def DOR_COUNT_OBSTRUCTIONS (n : Nat) : Fld := ⟨0x19000b0 + n * 0x100000, 32, 16⟩
def DOR_COUNT_NUDGES (n : Nat) : Fld := ⟨0x19000b0 + n * 0x100000, 48, 16⟩
def DSE_CAP_NCAND : Fld := ⟨0x1b00008, 0, 8⟩
def DSE_CAP_MAXSTOPS : Fld := ⟨0x1b00008, 8, 4⟩
def DSE_CAP_NCALL : Fld := ⟨0x1b00008, 16, 12⟩
def DSE_STAT_RUN : Fld := ⟨0x1b00018, 0, 1⟩
def DSE_STAT_PASS : Fld := ⟨0x1b00018, 1, 1⟩
def DSE_STAT_FROZEN : Fld := ⟨0x1b00018, 2, 1⟩
def DSE_STAT_NOPKG : Fld := ⟨0x1b00018, 3, 1⟩
def DSE_STAT_FULL : Fld := ⟨0x1b00018, 4, 1⟩
def DSE_STAT_FIXED : Fld := ⟨0x1b00018, 5, 1⟩
def DSE_STAT_NOLAND : Fld := ⟨0x1b00018, 6, 1⟩
def DSE_STAT_ENTRIES : Fld := ⟨0x1b00018, 16, 11⟩
def DSE_EVT_PLAN : Fld := ⟨0x1b00020, 0, 1⟩
def DSE_EVT_SQUASH : Fld := ⟨0x1b00020, 1, 1⟩
def DSE_EVT_CALL : Fld := ⟨0x1b00020, 2, 1⟩
def DSE_EVT_REFUSED : Fld := ⟨0x1b00020, 3, 1⟩
def DSE_EVT_LOST : Fld := ⟨0x1b00020, 4, 1⟩
def DSE_EVT_DRIVE : Fld := ⟨0x1b00020, 5, 1⟩
def DSE_CFG_SIDES : Fld := ⟨0x1b00080, 0, 2⟩
def DSE_CFG_STOP_PCLASS : Fld := ⟨0x1b00080, 8, 5⟩
def DSE_CFG_FULL_IN : Fld := ⟨0x1b00080, 16, 8⟩
def DSE_OUTMAP_RUN : Fld := ⟨0x1b00088, 0, 4⟩
def DSE_OUTMAP_BRAKE : Fld := ⟨0x1b00088, 4, 4⟩
def DSE_OUTMAP_EN : Fld := ⟨0x1b00088, 8, 1⟩
def DSE_KIN_VRATED : Fld := ⟨0x1b00090, 0, 16⟩
def DSE_KIN_DECEL : Fld := ⟨0x1b00090, 16, 16⟩
def DSE_KIN_MARGIN : Fld := ⟨0x1b00090, 32, 16⟩
def DSE_KIN_DOORTIME : Fld := ⟨0x1b00090, 48, 16⟩
def DSE_TOD_MINUTE : Fld := ⟨0x1b00098, 0, 14⟩
def DSE_PLAN_LEN : Fld := ⟨0x1b000a0, 0, 4⟩
def DSE_PLAN_STOP0 : Fld := ⟨0x1b000a0, 8, 8⟩
def DSE_PLAN_STOP1 : Fld := ⟨0x1b000a0, 16, 8⟩
def DSE_PLAN_STOP2 : Fld := ⟨0x1b000a0, 24, 8⟩
def DSE_PLAN_STOP3 : Fld := ⟨0x1b000a0, 32, 8⟩
def DSE_PLAN_CAND : Fld := ⟨0x1b000a0, 40, 3⟩
def DSE_TAG_NEXT : Fld := ⟨0x1b000a8, 0, 16⟩
def DSE_TAG_OLDEST : Fld := ⟨0x1b000a8, 16, 16⟩
def DSE_TAG_SQUASH : Fld := ⟨0x1b000a8, 32, 16⟩
def DSE_TAG_CAUSE : Fld := ⟨0x1b000a8, 48, 4⟩
def DSE_SQCOUNT0_CAUSES : Fld := ⟨0x1b000b0, 0, 64⟩
def DSE_SQCOUNT1_CAUSES : Fld := ⟨0x1b000b8, 0, 24⟩
def DSE_REFUSE_FULL : Fld := ⟨0x1b000c0, 0, 16⟩
def DSE_REFUSE_MODE : Fld := ⟨0x1b000c0, 16, 16⟩
def DSE_REFUSE_SOURCE : Fld := ⟨0x1b000c0, 32, 16⟩
def DSE_REFUSE_LANDING : Fld := ⟨0x1b000c0, 48, 16⟩
def DSE_CARCALLS_CALLS : Fld := ⟨0x1b000c8, 0, 64⟩
def DSE_DRIVE_CMD : Fld := ⟨0x1b000d0, 0, 8⟩
def DSE_DRIVE_SEQ : Fld := ⟨0x1b000d0, 8, 8⟩
def DSE_DRIVE_TARGET : Fld := ⟨0x1b000d0, 16, 6⟩
def DSE_DRIVE_DSTATE : Fld := ⟨0x1b000d0, 24, 3⟩
def DSE_DRIVE_DSEQ : Fld := ⟨0x1b000d0, 32, 8⟩
def DSE_PERF0_PASSES : Fld := ⟨0x1b000e0, 0, 32⟩
def DSE_PERF0_STAGED : Fld := ⟨0x1b000e0, 32, 32⟩
def DSE_PERF1_SQUASHED : Fld := ⟨0x1b000e8, 0, 32⟩
def DSE_PERF1_DISCARDED : Fld := ⟨0x1b000e8, 32, 16⟩
def DSE_PERF1_MODELRUNS : Fld := ⟨0x1b000e8, 48, 16⟩
def DSE_PERF_FINE0_RAW : Fld := ⟨0x1b000f0, 0, 64⟩
def DSE_PERF_FINE1_RAW : Fld := ⟨0x1b000f8, 0, 64⟩
def DSE_CWIN_J : Fld := ⟨0x1b00100, 0, 10⟩
def DSE_CALL0_VALID (i : Nat) : Fld := ⟨0x1b00400 + i * 0x40, 0, 1⟩
def DSE_CALL0_KIND (i : Nat) : Fld := ⟨0x1b00400 + i * 0x40, 1, 2⟩
def DSE_CALL0_ACK_PENDING (i : Nat) : Fld := ⟨0x1b00400 + i * 0x40, 3, 1⟩
def DSE_CALL0_FROM (i : Nat) : Fld := ⟨0x1b00400 + i * 0x40, 8, 6⟩
def DSE_CALL0_TO (i : Nat) : Fld := ⟨0x1b00400 + i * 0x40, 16, 6⟩
def DSE_CALL0_STATUS (i : Nat) : Fld := ⟨0x1b00400 + i * 0x40, 24, 2⟩
def DSE_CALL0_CAR (i : Nat) : Fld := ⟨0x1b00400 + i * 0x40, 28, 3⟩
def DSE_CALL1_SINCE (i : Nat) : Fld := ⟨0x1b00408 + i * 0x40, 0, 32⟩
def DSE_CALL1_JOB (i : Nat) : Fld := ⟨0x1b00408 + i * 0x40, 32, 16⟩
def PKG_CAP_BANKS : Fld := ⟨0x1c00008, 0, 4⟩
def PKG_CAP_BANKBYTES : Fld := ⟨0x1c00008, 8, 24⟩
def PKG_STAT_ACTIVE : Fld := ⟨0x1c00018, 0, 1⟩
def PKG_STAT_VALID : Fld := ⟨0x1c00018, 1, 1⟩
def PKG_STAT_LOADING : Fld := ⟨0x1c00018, 2, 1⟩
def PKG_STAT_SWITCH_PENDING : Fld := ⟨0x1c00018, 3, 1⟩
def PKG_STAT_CAUSE : Fld := ⟨0x1c00018, 8, 4⟩
def PKG_EVT_DONE : Fld := ⟨0x1c00020, 0, 1⟩
def PKG_EVT_FAILED : Fld := ⟨0x1c00020, 1, 1⟩
def PKG_SRC_ADDR : Fld := ⟨0x1c00080, 0, 64⟩
def PKG_LEN_LEN : Fld := ⟨0x1c00088, 0, 32⟩
def PKG_LOAD_GO : Fld := ⟨0x1c00090, 0, 1⟩
def PKG_INFO_VERSION : Fld := ⟨0x1c00098, 0, 32⟩
def PKG_INFO_NHID : Fld := ⟨0x1c00098, 32, 16⟩
def PKG_DIGEST_DIGEST (i : Nat) : Fld := ⟨0x1c000a0 + i * 0x8, 0, 64⟩
def CB_CAP_NFILT (n : Nat) : Fld := ⟨0x2000008 + n * 0x100000, 0, 8⟩
def CB_CAP_NBUF (n : Nat) : Fld := ⟨0x2000008 + n * 0x100000, 8, 8⟩
def CB_CAP_RXDEPTH (n : Nat) : Fld := ⟨0x2000008 + n * 0x100000, 16, 8⟩
def CB_CAP_TXQDEPTH (n : Nat) : Fld := ⟨0x2000008 + n * 0x100000, 24, 8⟩
def CB_CAP_NJOB (n : Nat) : Fld := ⟨0x2000008 + n * 0x100000, 32, 8⟩
def CB_STAT_MODE (n : Nat) : Fld := ⟨0x2000018 + n * 0x100000, 0, 3⟩
def CB_STAT_STB (n : Nat) : Fld := ⟨0x2000018 + n * 0x100000, 3, 1⟩
def CB_STAT_WAKE (n : Nat) : Fld := ⟨0x2000018 + n * 0x100000, 4, 1⟩
def CB_EVT_WUP (n : Nat) : Fld := ⟨0x2000020 + n * 0x100000, 0, 1⟩
def CB_EVT_RX (n : Nat) : Fld := ⟨0x2000020 + n * 0x100000, 1, 1⟩
def CB_EVT_RATE (n : Nat) : Fld := ⟨0x2000020 + n * 0x100000, 2, 1⟩
def CB_EVT_TXQ_EMPTY (n : Nat) : Fld := ⟨0x2000020 + n * 0x100000, 3, 1⟩
def CB_EVT_TXQ_LASTING (n : Nat) : Fld := ⟨0x2000020 + n * 0x100000, 4, 1⟩
def CB_EVT_AUTH (n : Nat) : Fld := ⟨0x2000020 + n * 0x100000, 5, 1⟩
def CB_EVT_RX_OVF (n : Nat) : Fld := ⟨0x2000020 + n * 0x100000, 6, 1⟩
def CB_EVT_PASSIVE (n : Nat) : Fld := ⟨0x2000020 + n * 0x100000, 7, 1⟩
def CB_EVT_BUF (n : Nat) : Fld := ⟨0x2000020 + n * 0x100000, 8, 8⟩
def CB_EVT_JOB (n : Nat) : Fld := ⟨0x2000020 + n * 0x100000, 16, 1⟩
def CB_EVT_BUSOFF (n : Nat) : Fld := ⟨0x2000020 + n * 0x100000, 17, 1⟩
def CB_CFG_LIMITED (n : Nat) : Fld := ⟨0x2000080 + n * 0x100000, 0, 1⟩
def CB_CFG_N (n : Nat) : Fld := ⟨0x2000080 + n * 0x100000, 4, 4⟩
def CB_CFG_KRECOVER (n : Nat) : Fld := ⟨0x2000080 + n * 0x100000, 8, 1⟩
def CB_CFG_HOLDOFF (n : Nat) : Fld := ⟨0x2000080 + n * 0x100000, 16, 8⟩
def CB_NBT_NBRP_M1 (n : Nat) : Fld := ⟨0x2000088 + n * 0x100000, 0, 8⟩
def CB_NBT_NTSEG1_M1 (n : Nat) : Fld := ⟨0x2000088 + n * 0x100000, 8, 8⟩
def CB_NBT_NTSEG2_M1 (n : Nat) : Fld := ⟨0x2000088 + n * 0x100000, 16, 7⟩
def CB_NBT_NSJW_M1 (n : Nat) : Fld := ⟨0x2000088 + n * 0x100000, 24, 7⟩
def CB_DBT_DBRP_M1 (n : Nat) : Fld := ⟨0x2000090 + n * 0x100000, 0, 5⟩
def CB_DBT_DTSEG1_M1 (n : Nat) : Fld := ⟨0x2000090 + n * 0x100000, 8, 5⟩
def CB_DBT_DTSEG2_M1 (n : Nat) : Fld := ⟨0x2000090 + n * 0x100000, 16, 4⟩
def CB_DBT_DSJW_M1 (n : Nat) : Fld := ⟨0x2000090 + n * 0x100000, 24, 4⟩
def CB_DBT_TDC_EN (n : Nat) : Fld := ⟨0x2000090 + n * 0x100000, 32, 1⟩
def CB_DBT_TDCO (n : Nat) : Fld := ⟨0x2000090 + n * 0x100000, 40, 7⟩
def CB_PARKID_ID (n : Nat) : Fld := ⟨0x2000098 + n * 0x100000, 0, 11⟩
def CB_ERR_TEC (n : Nat) : Fld := ⟨0x20000a0 + n * 0x100000, 0, 9⟩
def CB_ERR_REC (n : Nat) : Fld := ⟨0x20000a0 + n * 0x100000, 16, 8⟩
def CB_ERR_REC_P (n : Nat) : Fld := ⟨0x20000a0 + n * 0x100000, 24, 1⟩
def CB_ERR_STATE (n : Nat) : Fld := ⟨0x20000a0 + n * 0x100000, 25, 2⟩
def CB_ERR_LEC (n : Nat) : Fld := ⟨0x20000a0 + n * 0x100000, 32, 3⟩
def CB_ERR_DPHASE (n : Nat) : Fld := ⟨0x20000a0 + n * 0x100000, 35, 1⟩
def CB_ERR_RECOV (n : Nat) : Fld := ⟨0x20000a0 + n * 0x100000, 40, 8⟩
def CB_ERR_BUSOFFS (n : Nat) : Fld := ⟨0x20000a0 + n * 0x100000, 48, 16⟩
def CB_RSCFG_DWELL (n : Nat) : Fld := ⟨0x20000a8 + n * 0x100000, 0, 8⟩
def CB_RSSTAT_RUNNING (n : Nat) : Fld := ⟨0x20000b0 + n * 0x100000, 0, 1⟩
def CB_RSSTAT_FOUND (n : Nat) : Fld := ⟨0x20000b0 + n * 0x100000, 1, 1⟩
def CB_RSSTAT_NRATE (n : Nat) : Fld := ⟨0x20000b0 + n * 0x100000, 2, 2⟩
def CB_RSSTAT_DRATE (n : Nat) : Fld := ⟨0x20000b0 + n * 0x100000, 4, 2⟩
def CB_RSSTAT_CYCLES (n : Nat) : Fld := ⟨0x20000b0 + n * 0x100000, 8, 8⟩
def CB_TXQ_STAT_LEVEL (n : Nat) : Fld := ⟨0x20000b8 + n * 0x100000, 0, 6⟩
def CB_TXQ_STAT_FULL (n : Nat) : Fld := ⟨0x20000b8 + n * 0x100000, 8, 1⟩
def CB_TXQ_STAT_EMPTY (n : Nat) : Fld := ⟨0x20000b8 + n * 0x100000, 9, 1⟩
def CB_TXQ_STAT_HEAD_ARB (n : Nat) : Fld := ⟨0x20000b8 + n * 0x100000, 10, 1⟩
def CB_TXQ_STAT_LAST_REJ (n : Nat) : Fld := ⟨0x20000b8 + n * 0x100000, 12, 4⟩
def CB_TXQ_STAT_REJECTS (n : Nat) : Fld := ⟨0x20000b8 + n * 0x100000, 16, 16⟩
def CB_TXQ_STAT_SENT (n : Nat) : Fld := ⟨0x20000b8 + n * 0x100000, 32, 32⟩
def CB_TXQ_CTL_ABORT_HEAD (n : Nat) : Fld := ⟨0x20000c0 + n * 0x100000, 0, 1⟩
def CB_TXQ_CTL_FLUSH (n : Nat) : Fld := ⟨0x20000c0 + n * 0x100000, 1, 1⟩
def CB_RX_STAT_LEVEL (n : Nat) : Fld := ⟨0x20000c8 + n * 0x100000, 0, 7⟩
def CB_RX_STAT_DROPPED (n : Nat) : Fld := ⟨0x20000c8 + n * 0x100000, 16, 16⟩
def CB_RXPOP_LEVEL (n : Nat) : Fld := ⟨0x20000d0 + n * 0x100000, 0, 7⟩
def CB_JWIN_J (n : Nat) : Fld := ⟨0x20000d8 + n * 0x100000, 0, 6⟩
def CB_BUFABORT_BUF (n : Nat) : Fld := ⟨0x20000e0 + n * 0x100000, 0, 8⟩
def CB_TXGO_DEST (n : Nat) : Fld := ⟨0x20000e8 + n * 0x100000, 0, 4⟩
def CB_TXGO_GO (n : Nat) : Fld := ⟨0x20000e8 + n * 0x100000, 16, 1⟩
def CB_TXJOB_JOB (n : Nat) : Fld := ⟨0x20000f0 + n * 0x100000, 0, 6⟩
def CB_TXJOB_GO (n : Nat) : Fld := ⟨0x20000f0 + n * 0x100000, 8, 1⟩
def CB_TXH_ID (n : Nat) : Fld := ⟨0x20000f8 + n * 0x100000, 0, 29⟩
def CB_TXH_IDE (n : Nat) : Fld := ⟨0x20000f8 + n * 0x100000, 29, 1⟩
def CB_TXH_FDF (n : Nat) : Fld := ⟨0x20000f8 + n * 0x100000, 30, 1⟩
def CB_TXH_BRS (n : Nat) : Fld := ⟨0x20000f8 + n * 0x100000, 31, 1⟩
def CB_TXH_DLC (n : Nat) : Fld := ⟨0x20000f8 + n * 0x100000, 32, 4⟩
def CB_TXH_ESI (n : Nat) : Fld := ⟨0x20000f8 + n * 0x100000, 36, 1⟩
def CB_TXH_AUTH (n : Nat) : Fld := ⟨0x20000f8 + n * 0x100000, 37, 1⟩
def CB_TXH_INDEX (n : Nat) : Fld := ⟨0x20000f8 + n * 0x100000, 40, 6⟩
def CB_TXH_TS (n : Nat) : Fld := ⟨0x20000f8 + n * 0x100000, 48, 16⟩
def CB_RXH_ID (n : Nat) : Fld := ⟨0x2000140 + n * 0x100000, 0, 29⟩
def CB_RXH_IDE (n : Nat) : Fld := ⟨0x2000140 + n * 0x100000, 29, 1⟩
def CB_RXH_FDF (n : Nat) : Fld := ⟨0x2000140 + n * 0x100000, 30, 1⟩
def CB_RXH_BRS (n : Nat) : Fld := ⟨0x2000140 + n * 0x100000, 31, 1⟩
def CB_RXH_DLC (n : Nat) : Fld := ⟨0x2000140 + n * 0x100000, 32, 4⟩
def CB_RXH_ESI (n : Nat) : Fld := ⟨0x2000140 + n * 0x100000, 36, 1⟩
def CB_RXH_AUTH (n : Nat) : Fld := ⟨0x2000140 + n * 0x100000, 37, 1⟩
def CB_RXH_INDEX (n : Nat) : Fld := ⟨0x2000140 + n * 0x100000, 40, 6⟩
def CB_RXH_TS (n : Nat) : Fld := ⟨0x2000140 + n * 0x100000, 48, 16⟩
def CB_TXD_DATA (n i : Nat) : Fld := ⟨0x2000100 + n * 0x100000 + i * 0x8, 0, 64⟩
def CB_RXD_DATA (n i : Nat) : Fld := ⟨0x2000148 + n * 0x100000 + i * 0x8, 0, 64⟩
def CB_BUF_ID (n i : Nat) : Fld := ⟨0x20001c0 + n * 0x100000 + i * 0x8, 0, 29⟩
def CB_BUF_IDE (n i : Nat) : Fld := ⟨0x20001c0 + n * 0x100000 + i * 0x8, 29, 1⟩
def CB_BUF_PENDING (n i : Nat) : Fld := ⟨0x20001c0 + n * 0x100000 + i * 0x8, 32, 1⟩
def CB_BUF_TX (n i : Nat) : Fld := ⟨0x20001c0 + n * 0x100000 + i * 0x8, 33, 1⟩
def CB_BUF_LAST (n i : Nat) : Fld := ⟨0x20001c0 + n * 0x100000 + i * 0x8, 34, 2⟩
def CB_BUF_OWNER (n i : Nat) : Fld := ⟨0x20001c0 + n * 0x100000 + i * 0x8, 36, 1⟩
def CB_BUF_JOB (n i : Nat) : Fld := ⟨0x20001c0 + n * 0x100000 + i * 0x8, 40, 6⟩
def CB_BUF_ATTEMPTS (n i : Nat) : Fld := ⟨0x20001c0 + n * 0x100000 + i * 0x8, 48, 4⟩
def CB_FLT_ID (n i : Nat) : Fld := ⟨0x2000200 + n * 0x100000 + i * 0x8, 0, 29⟩
def CB_FLT_IDE (n i : Nat) : Fld := ⟨0x2000200 + n * 0x100000 + i * 0x8, 29, 1⟩
def CB_FLT_EN (n i : Nat) : Fld := ⟨0x2000200 + n * 0x100000 + i * 0x8, 30, 1⟩
def CB_FLT_ACTION (n i : Nat) : Fld := ⟨0x2000200 + n * 0x100000 + i * 0x8, 31, 1⟩
def CB_FLT_MASK (n i : Nat) : Fld := ⟨0x2000200 + n * 0x100000 + i * 0x8, 32, 29⟩
def CB_JOB_CFG_EN (n i : Nat) : Fld := ⟨0x2000400 + n * 0x100000 + i * 0x40, 0, 1⟩
def CB_JOB_CFG_KIND (n i : Nat) : Fld := ⟨0x2000400 + n * 0x100000 + i * 0x40, 1, 3⟩
def CB_JOB_CFG_BRS (n i : Nat) : Fld := ⟨0x2000400 + n * 0x100000 + i * 0x40, 4, 1⟩
def CB_JOB_CFG_IDE (n i : Nat) : Fld := ⟨0x2000400 + n * 0x100000 + i * 0x40, 5, 1⟩
def CB_JOB_CFG_LANDING (n i : Nat) : Fld := ⟨0x2000400 + n * 0x100000 + i * 0x40, 8, 6⟩
def CB_JOB_CFG_TX_HB (n i : Nat) : Fld := ⟨0x2000400 + n * 0x100000 + i * 0x40, 14, 1⟩
def CB_JOB_CFG_BUF (n i : Nat) : Fld := ⟨0x2000400 + n * 0x100000 + i * 0x40, 16, 4⟩
def CB_JOB_CFG_HB_PERIOD (n i : Nat) : Fld := ⟨0x2000400 + n * 0x100000 + i * 0x40, 20, 10⟩
def CB_JOB_CFG_HB_MISS (n i : Nat) : Fld := ⟨0x2000400 + n * 0x100000 + i * 0x40, 32, 4⟩
def CB_JOB_ID_TXID (n i : Nat) : Fld := ⟨0x2000408 + n * 0x100000 + i * 0x40, 0, 29⟩
def CB_JOB_ID_RXID (n i : Nat) : Fld := ⟨0x2000408 + n * 0x100000 + i * 0x40, 32, 29⟩
def CB_JOB_STAT_KEYED (n i : Nat) : Fld := ⟨0x2000410 + n * 0x100000 + i * 0x40, 0, 1⟩
def CB_JOB_STAT_UP (n i : Nat) : Fld := ⟨0x2000410 + n * 0x100000 + i * 0x40, 1, 1⟩
def CB_JOB_STAT_PARK (n i : Nat) : Fld := ⟨0x2000410 + n * 0x100000 + i * 0x40, 2, 1⟩
def CB_JOB_STAT_LAST_FRESH (n i : Nat) : Fld := ⟨0x2000410 + n * 0x100000 + i * 0x40, 8, 24⟩
def CB_JOB_STAT_AGE (n i : Nat) : Fld := ⟨0x2000410 + n * 0x100000 + i * 0x40, 32, 16⟩
def CB_JOB_CNT0_ACCEPTED (n i : Nat) : Fld := ⟨0x2000418 + n * 0x100000 + i * 0x40, 0, 32⟩
def CB_JOB_CNT0_SENT (n i : Nat) : Fld := ⟨0x2000418 + n * 0x100000 + i * 0x40, 32, 32⟩
def CB_JOB_CNT1_STALE (n i : Nat) : Fld := ⟨0x2000420 + n * 0x100000 + i * 0x40, 0, 16⟩
def CB_JOB_CNT1_AUTHFAIL (n i : Nat) : Fld := ⟨0x2000420 + n * 0x100000 + i * 0x40, 16, 16⟩
def CB_JOB_CNT1_DOWNS (n i : Nat) : Fld := ⟨0x2000420 + n * 0x100000 + i * 0x40, 32, 16⟩
def CB_JOB_CNT1_DUP (n i : Nat) : Fld := ⟨0x2000420 + n * 0x100000 + i * 0x40, 48, 16⟩
def TSY_CAP_MINCYCLE : Fld := ⟨0x2200008, 0, 8⟩
def TSY_CAP_MAXCYCLE : Fld := ⟨0x2200008, 8, 8⟩
def TSY_STAT_ROLE : Fld := ⟨0x2200018, 0, 2⟩
def TSY_STAT_SYNC : Fld := ⟨0x2200018, 2, 1⟩
def TSY_STAT_SEARCHING : Fld := ⟨0x2200018, 3, 1⟩
def TSY_STAT_WINDOWED : Fld := ⟨0x2200018, 4, 1⟩
def TSY_STAT_MISSRUN : Fld := ⟨0x2200018, 8, 2⟩
def TSY_EVT_ROLE : Fld := ⟨0x2200020, 0, 1⟩
def TSY_EVT_SYNC : Fld := ⟨0x2200020, 1, 1⟩
def TSY_EVT_MISS : Fld := ⟨0x2200020, 2, 1⟩
def TSY_EVT_DISAGREE : Fld := ⟨0x2200020, 3, 1⟩
def TSY_EVT_STEP : Fld := ⟨0x2200020, 4, 1⟩
def TSY_EVT_LOST : Fld := ⟨0x2200020, 5, 1⟩
def TSY_EVT_FIXLOST : Fld := ⟨0x2200020, 6, 1⟩
def TSY_CFG_CYCLE_MS : Fld := ⟨0x2200080, 0, 7⟩
def TSY_CFG_RANK : Fld := ⟨0x2200080, 8, 3⟩
def TSY_CFG_MASTER_OK : Fld := ⟨0x2200080, 11, 1⟩
def TSY_CFG_GUARD : Fld := ⟨0x2200080, 16, 4⟩
def TSY_CFG_LATE : Fld := ⟨0x2200080, 20, 4⟩
def TSY_CFG_WAKE_EVERY : Fld := ⟨0x2200080, 24, 7⟩
def TSY_CFG_SPARSE : Fld := ⟨0x2200080, 31, 1⟩
def TSY_CFG_SCHED : Fld := ⟨0x2200080, 32, 1⟩
def TSY_CFG_RESLEEP : Fld := ⟨0x2200080, 33, 1⟩
def TSY_CFG_FREE : Fld := ⟨0x2200080, 34, 1⟩
def TSY_CFG_LEAD : Fld := ⟨0x2200080, 40, 8⟩
def TSY_CFG_REFID : Fld := ⟨0x2200080, 48, 11⟩
def TSY_COUNT_COUNT : Fld := ⟨0x2200088, 0, 32⟩
def TSY_COUNT_PHASE : Fld := ⟨0x2200088, 32, 32⟩
def TSY_OFFSET_O : Fld := ⟨0x2200090, 0, 32⟩
def TSY_OFFSET_RANK : Fld := ⟨0x2200090, 32, 3⟩
def TSY_OFFSET_STATION : Fld := ⟨0x2200090, 35, 3⟩
def TSY_OFFSET_BACKUP : Fld := ⟨0x2200090, 38, 1⟩
def TSY_OFFSET_SPARSE : Fld := ⟨0x2200090, 39, 1⟩
def TSY_OFFSET_WAKE_EVERY : Fld := ⟨0x2200090, 40, 7⟩
def TSY_CNT_MISSES : Fld := ⟨0x22000a0, 0, 16⟩
def TSY_CNT_DRIFTS : Fld := ⟨0x22000a0, 16, 16⟩
def TSY_CNT_DISAGREE : Fld := ⟨0x22000a0, 32, 16⟩
def TSY_CNT_STEPS : Fld := ⟨0x22000a0, 48, 16⟩
def TSY_FIX_JOB : Fld := ⟨0x22000a8, 0, 16⟩
def TSY_FIX_COUNT : Fld := ⟨0x22000a8, 32, 16⟩
def GRP_CAP_NSTATION : Fld := ⟨0x2300008, 0, 4⟩
def GRP_STAT_ROLE : Fld := ⟨0x2300018, 0, 2⟩
def GRP_STAT_MAJORITY : Fld := ⟨0x2300018, 2, 1⟩
def GRP_STAT_LEADER : Fld := ⟨0x2300018, 4, 3⟩
def GRP_STAT_PRESENT : Fld := ⟨0x2300018, 8, 8⟩
def GRP_STAT_AGREE : Fld := ⟨0x2300018, 16, 8⟩
def GRP_EVT_DISAGREE : Fld := ⟨0x2300020, 0, 1⟩
def GRP_EVT_NOMAJ : Fld := ⟨0x2300020, 1, 1⟩
def GRP_EVT_PRESENCE : Fld := ⟨0x2300020, 2, 1⟩
def GRP_EVT_LEADER : Fld := ⟨0x2300020, 3, 1⟩
def GRP_EVT_ASSIGN : Fld := ⟨0x2300020, 4, 1⟩
def GRP_EVT_TWICE : Fld := ⟨0x2300020, 5, 1⟩
def GRP_EVT_LOST : Fld := ⟨0x2300020, 6, 1⟩
def GRP_CFG_EN : Fld := ⟨0x2300080, 0, 1⟩
def GRP_CFG_STATION : Fld := ⟨0x2300080, 1, 3⟩
def GRP_CFG_MEMBERS : Fld := ⟨0x2300080, 8, 8⟩
def GRP_CFG_IDBASE : Fld := ⟨0x2300080, 16, 11⟩
def GRP_CFG_AUTO_REJOIN : Fld := ⟨0x2300080, 27, 1⟩
def GRP_CFGDIG_DIGEST (i : Nat) : Fld := ⟨0x23000a0 + i * 0x8, 0, 64⟩
def GRP_FSECT_LANDINGS (i : Nat) : Fld := ⟨0x2300100 + i * 0x8, 0, 64⟩
def GRP_PEER_PRESENT (i : Nat) : Fld := ⟨0x2300400 + i * 0x40, 0, 1⟩
def GRP_PEER_AGREE (i : Nat) : Fld := ⟨0x2300400 + i * 0x40, 1, 1⟩
def GRP_PEER_ROLE (i : Nat) : Fld := ⟨0x2300400 + i * 0x40, 2, 2⟩
def GRP_PEER_TIME (i : Nat) : Fld := ⟨0x2300400 + i * 0x40, 4, 2⟩
def GRP_PEER_RANK (i : Nat) : Fld := ⟨0x2300400 + i * 0x40, 6, 3⟩
def GRP_PEER_SYNC (i : Nat) : Fld := ⟨0x2300400 + i * 0x40, 9, 1⟩
def GRP_PEER_LIFT (i : Nat) : Fld := ⟨0x2300400 + i * 0x40, 10, 4⟩
def GRP_PEER_KEYS_ABSENT (i : Nat) : Fld := ⟨0x2300400 + i * 0x40, 14, 1⟩
def GRP_PEER_KEEPER (i : Nat) : Fld := ⟨0x2300400 + i * 0x40, 16, 16⟩
def GRP_PEER_AGE (i : Nat) : Fld := ⟨0x2300400 + i * 0x40, 32, 16⟩
def GRP_PEER_DIFF (i : Nat) : Fld := ⟨0x2300400 + i * 0x40, 48, 4⟩
def GRP_PCOUNT_COUNT (i : Nat) : Fld := ⟨0x2300408 + i * 0x40, 0, 32⟩
def GRP_PCOUNT_ASSIGNED (i : Nat) : Fld := ⟨0x2300408 + i * 0x40, 32, 16⟩
def KPX_CAP_NREG : Fld := ⟨0x3000008, 0, 8⟩
def KPX_CAP_NSLOT : Fld := ⟨0x3000008, 8, 8⟩
def KPX_CAP_KCLK_MHZ : Fld := ⟨0x3000008, 16, 16⟩
def KPX_CTL_ROMOFF : Fld := ⟨0x3000010, 0, 1⟩
def KPX_STAT_LOCKUP : Fld := ⟨0x3000018, 0, 1⟩
def KPX_STAT_ROMOFF : Fld := ⟨0x3000018, 1, 1⟩
def KPX_STAT_HALTED : Fld := ⟨0x3000018, 2, 1⟩
def KPX_EVT_NVM_DONE : Fld := ⟨0x3000020, 0, 1⟩
def KPX_STATUS_INTEN : Fld := ⟨0x3000080, 0, 1⟩
def KPX_STATUS_INTRAP : Fld := ⟨0x3000080, 1, 1⟩
def KPX_STATUS_RETPRIV : Fld := ⟨0x3000080, 2, 1⟩
def KPX_STATUS_PRIV : Fld := ⟨0x3000080, 3, 1⟩
def KPX_TRAPVEC_ADDR : Fld := ⟨0x3000088, 0, 64⟩
def KPX_TRAPPC_PC : Fld := ⟨0x3000090, 0, 64⟩
def KPX_TRAPCAUSE_CAUSE : Fld := ⟨0x3000098, 0, 5⟩
def KPX_TRAPADDR_ADDR : Fld := ⟨0x30000a0, 0, 64⟩
def KPX_TRAPWORD_WORD : Fld := ⟨0x30000a8, 0, 32⟩
def KPX_ASLOT_SLOT : Fld := ⟨0x30000b0, 0, 3⟩
def KPX_ASLOT_MAPPED : Fld := ⟨0x30000b0, 8, 1⟩
def KPX_SCRATCH_DATA (i : Nat) : Fld := ⟨0x30000c0 + i * 0x8, 0, 64⟩
def KPX_CYCLE_COUNT : Fld := ⟨0x30000e0, 0, 64⟩
def KPX_INSTRET_COUNT : Fld := ⟨0x30000e8, 0, 64⟩
def KPX_NVMADDR_ADDR : Fld := ⟨0x3000100, 3, 17⟩
def KPX_NVMDATA_DATA : Fld := ⟨0x3000108, 0, 64⟩
def KPX_NVMCMD_CMD : Fld := ⟨0x3000110, 0, 2⟩
def KPX_NVMCMD_GO : Fld := ⟨0x3000110, 8, 1⟩
def KPX_NVMSTAT_BUSY : Fld := ⟨0x3000118, 0, 1⟩
def KPX_NVMSTAT_FAIL : Fld := ⟨0x3000118, 1, 1⟩
def LVA_CAP_NSLOT : Fld := ⟨0x3600008, 0, 4⟩
def LVA_CAP_CODE_KIB : Fld := ⟨0x3600008, 8, 8⟩
def LVA_CAP_DATA_KIB : Fld := ⟨0x3600008, 16, 8⟩
def LVA_STAT_RESIDENT : Fld := ⟨0x3600018, 0, 8⟩
def LVA_STAT_FAULTED : Fld := ⟨0x3600018, 8, 8⟩
def LVA_STAT_RUNNING : Fld := ⟨0x3600018, 16, 3⟩
def LVA_STAT_BUSY : Fld := ⟨0x3600018, 19, 1⟩
def LVA_STAT_QUEUED : Fld := ⟨0x3600018, 20, 6⟩
def LVA_EVT_LOAD_DONE : Fld := ⟨0x3600020, 0, 1⟩
def LVA_EVT_FAULT : Fld := ⟨0x3600020, 1, 1⟩
def LVA_EVT_EVENT : Fld := ⟨0x3600020, 2, 1⟩
def LVA_RESV_SLOTS : Fld := ⟨0x3600080, 0, 8⟩
def LVA_LOADADDR_ADDR : Fld := ⟨0x3600088, 0, 32⟩
def LVA_LOAD_SLOT : Fld := ⟨0x3600090, 0, 3⟩
def LVA_LOAD_GO : Fld := ⟨0x3600090, 8, 1⟩
def LVA_LOADSTAT_STATE : Fld := ⟨0x3600098, 0, 3⟩
def LVA_LOADSTAT_CAUSE : Fld := ⟨0x3600098, 8, 8⟩
def LVA_SLOT_STATE (i : Nat) : Fld := ⟨0x3600400 + i * 0x40, 0, 3⟩
def LVA_SLOT_TENANT (i : Nat) : Fld := ⟨0x3600400 + i * 0x40, 3, 1⟩
def LVA_SLOT_VERSION (i : Nat) : Fld := ⟨0x3600400 + i * 0x40, 32, 32⟩
def LVA_SIZE_CODE_LEN (i : Nat) : Fld := ⟨0x3600408 + i * 0x40, 0, 16⟩
def LVA_SIZE_DATA_LEN (i : Nat) : Fld := ⟨0x3600408 + i * 0x40, 16, 16⟩
def LVA_SIZE_BSS_LEN (i : Nat) : Fld := ⟨0x3600408 + i * 0x40, 32, 16⟩
def LVA_FAULT_CAUSE (i : Nat) : Fld := ⟨0x3600410 + i * 0x40, 0, 5⟩
def LVA_FAULT_COUNT (i : Nat) : Fld := ⟨0x3600410 + i * 0x40, 16, 16⟩
def LVA_FAULT_TRAPPC (i : Nat) : Fld := ⟨0x3600410 + i * 0x40, 32, 32⟩
def LVA_RUN_ENTRIES (i : Nat) : Fld := ⟨0x3600418 + i * 0x40, 0, 32⟩
def LVA_LOG_CODE (i : Nat) : Fld := ⟨0x3600420 + i * 0x40, 0, 16⟩
def LVA_LOG_COUNT (i : Nat) : Fld := ⟨0x3600420 + i * 0x40, 32, 32⟩
def KEY_CAP_NBB : Fld := ⟨0x3100008, 0, 8⟩
def KEY_CAP_NNVM : Fld := ⟨0x3100008, 8, 8⟩
def KEY_CAP_NEPH : Fld := ⟨0x3100008, 16, 8⟩
def KEY_CAP_NHANDLE : Fld := ⟨0x3100008, 24, 8⟩
def KEY_STAT_OPROOT : Fld := ⟨0x3100018, 0, 1⟩
def KEY_STAT_SUSPENDED : Fld := ⟨0x3100018, 1, 1⟩
def KEY_STAT_BAD_ANY : Fld := ⟨0x3100018, 2, 1⟩
def KEY_STAT_BUSY : Fld := ⟨0x3100018, 3, 1⟩
def KEY_EVT_BAD : Fld := ⟨0x3100020, 0, 1⟩
def KEY_EVT_DONE : Fld := ⟨0x3100020, 1, 1⟩
def KEY_EVT_DELIVERED : Fld := ⟨0x3100020, 2, 1⟩
def KEY_EVT_CLEARED : Fld := ⟨0x3100020, 3, 1⟩
def KEY_CMD_CMD : Fld := ⟨0x3100080, 0, 4⟩
def KEY_CMD_SLOT : Fld := ⟨0x3100080, 8, 8⟩
def KEY_CMD_ARG : Fld := ⟨0x3100080, 16, 16⟩
def KEY_SRC_ADDR : Fld := ⟨0x3100088, 0, 32⟩
def KEY_POLICY_RAW : Fld := ⟨0x3100090, 0, 64⟩
def KEY_CMDSTAT_STATE : Fld := ⟨0x3100098, 0, 2⟩
def KEY_CMDSTAT_CAUSE : Fld := ⟨0x3100098, 8, 8⟩
def KEY_CMDSTAT_SLOT : Fld := ⟨0x3100098, 16, 8⟩
def KEY_ROOT_PRESENT : Fld := ⟨0x31000a0, 0, 1⟩
def KEY_ROOT_EPOCH : Fld := ⟨0x31000a0, 32, 32⟩
def KEY_BAD_BAD (i : Nat) : Fld := ⟨0x31000c0 + i * 0x8, 0, 64⟩
def KEY_SWIN_J : Fld := ⟨0x31000e0, 0, 8⟩
def KEY_POL_CLASS (i : Nat) : Fld := ⟨0x3100400 + i * 0x40, 0, 3⟩
def KEY_POL_VALID (i : Nat) : Fld := ⟨0x3100400 + i * 0x40, 3, 1⟩
def KEY_POL_BAD (i : Nat) : Fld := ⟨0x3100400 + i * 0x40, 4, 1⟩
def KEY_POL_APPLET (i : Nat) : Fld := ⟨0x3100400 + i * 0x40, 5, 1⟩
def KEY_POL_TYPE (i : Nat) : Fld := ⟨0x3100400 + i * 0x40, 6, 2⟩
def KEY_POL_USES (i : Nat) : Fld := ⟨0x3100400 + i * 0x40, 16, 10⟩
def KEY_INFO_CHECKS (i : Nat) : Fld := ⟨0x3100408 + i * 0x40, 0, 16⟩
def KEY_INFO_TRANSIENTS (i : Nat) : Fld := ⟨0x3100408 + i * 0x40, 16, 16⟩
def KEY_INFO_OPENS (i : Nat) : Fld := ⟨0x3100408 + i * 0x40, 32, 32⟩
def CTR_CAP_NCTR : Fld := ⟨0x3200008, 0, 8⟩
def CTR_CAP_WIDTH : Fld := ⟨0x3200008, 8, 8⟩
def CTR_STAT_BUSY : Fld := ⟨0x3200018, 0, 1⟩
def CTR_EVT_DONE : Fld := ⟨0x3200020, 0, 1⟩
def CTR_EVT_SATURATED : Fld := ⟨0x3200020, 1, 1⟩
def CTR_CMD_INDEX : Fld := ⟨0x3200080, 0, 5⟩
def CTR_CMD_OP : Fld := ⟨0x3200080, 8, 2⟩
def CTR_CMD_VALUE : Fld := ⟨0x3200080, 32, 32⟩
def CTR_CMDSTAT_STATE : Fld := ⟨0x3200088, 0, 2⟩
def CTR_CMDSTAT_CAUSE : Fld := ⟨0x3200088, 8, 8⟩
def CTR_VAL_VALUE (i : Nat) : Fld := ⟨0x3200100 + i * 0x8, 0, 32⟩
def TMP_CAP_NSENSOR : Fld := ⟨0x3300008, 0, 4⟩
def TMP_STAT_LOCK : Fld := ⟨0x3300018, 0, 1⟩
def TMP_STAT_ZEROIZED : Fld := ⟨0x3300018, 1, 1⟩
def TMP_STAT_MESH_OK : Fld := ⟨0x3300018, 2, 1⟩
def TMP_STAT_LATCHED : Fld := ⟨0x3300018, 3, 1⟩
def TMP_STAT_LIGHT : Fld := ⟨0x3300018, 4, 4⟩
def TMP_STAT_TEMP : Fld := ⟨0x3300018, 8, 8⟩
def TMP_STAT_ACTIVE : Fld := ⟨0x3300018, 16, 11⟩
def TMP_EVT_SENSOR : Fld := ⟨0x3300020, 0, 11⟩
def TMP_EVT_LOCK_LIFTED : Fld := ⟨0x3300020, 16, 1⟩
def TMP_EVT_ALARM : Fld := ⟨0x3300020, 17, 1⟩
def TMP_EVT_LOCK : Fld := ⟨0x3300020, 18, 1⟩
def TMP_EVT_ZEROIZED : Fld := ⟨0x3300020, 19, 1⟩
def TMP_LEVEL_LEVEL : Fld := ⟨0x3300080, 0, 22⟩
def TMP_FLOOR_FLOOR : Fld := ⟨0x3300088, 0, 22⟩
def TMP_EFF_EFF : Fld := ⟨0x3300090, 0, 22⟩
def TMP_LATCH_SEEN : Fld := ⟨0x3300098, 0, 11⟩
def TMP_LATCH_FIRST : Fld := ⟨0x3300098, 16, 4⟩
def TMP_LATCH_VALID : Fld := ⟨0x3300098, 20, 1⟩
def TMP_LATCH_IN_HOLD : Fld := ⟨0x3300098, 21, 1⟩
def TMP_LATCH_BTIME : Fld := ⟨0x3300098, 32, 32⟩
def TMP_CLR_LATCH : Fld := ⟨0x33000a0, 0, 1⟩
def TMP_CLR_LOCK_LIFT : Fld := ⟨0x33000a0, 1, 1⟩
def TMP_CLR_COUNTS : Fld := ⟨0x33000a0, 2, 1⟩
def TMP_CFG_LID0_EN : Fld := ⟨0x33000a8, 0, 1⟩
def TMP_CFG_LID1_EN : Fld := ⟨0x33000a8, 1, 1⟩
def TMP_CNT_ALARM (i : Nat) : Fld := ⟨0x3300100 + i * 0x8, 0, 16⟩
def TMP_CNT_LOCK (i : Nat) : Fld := ⟨0x3300100 + i * 0x8, 16, 16⟩
def TMP_CNT_ZEROIZE (i : Nat) : Fld := ⟨0x3300100 + i * 0x8, 32, 16⟩
def TEN_CAP_NTENANT : Fld := ⟨0x3400008, 0, 2⟩
def TEN_STAT_TENANCY : Fld := ⟨0x3400018, 0, 2⟩
def TEN_STAT_TARGET : Fld := ⟨0x3400018, 2, 1⟩
def TEN_STAT_STEP : Fld := ⟨0x3400018, 3, 4⟩
def TEN_STAT_PAUSED : Fld := ⟨0x3400018, 7, 1⟩
def TEN_STAT_CAUSE : Fld := ⟨0x3400018, 8, 8⟩
def TEN_EVT_MOLT_BEGIN : Fld := ⟨0x3400020, 0, 1⟩
def TEN_EVT_MOLT_DONE : Fld := ⟨0x3400020, 1, 1⟩
def TEN_EVT_REFUSED : Fld := ⟨0x3400020, 2, 1⟩
def TEN_EVT_CONFIG : Fld := ⟨0x3400020, 3, 1⟩
def TEN_ORDERADDR_ADDR : Fld := ⟨0x3400080, 0, 32⟩
def TEN_MOLT_GO : Fld := ⟨0x3400088, 0, 1⟩
def TEN_CFGADDR_ADDR : Fld := ⟨0x3400090, 0, 32⟩
def TEN_CFGLOAD_GO : Fld := ⟨0x3400098, 0, 1⟩
def TEN_CFGSTAT_STATE : Fld := ⟨0x34000a0, 0, 2⟩
def TEN_CFGSTAT_CAUSE : Fld := ⟨0x34000a0, 8, 8⟩
def TEN_CFGVER0_VERSION : Fld := ⟨0x34000b0, 0, 32⟩
def TEN_CFGVER0_PRESENT : Fld := ⟨0x34000b0, 32, 1⟩
def TEN_CFGVER1_VERSION : Fld := ⟨0x34000b8, 0, 32⟩
def TEN_CFGVER1_PRESENT : Fld := ⟨0x34000b8, 32, 1⟩
def TEN_LAST_MOLTS : Fld := ⟨0x34000c0, 0, 32⟩
def TEN_LAST_BTIME : Fld := ⟨0x34000c0, 32, 32⟩
def ATT_CAP_NMEAS : Fld := ⟨0x3500008, 0, 8⟩
def ATT_STAT_BUSY : Fld := ⟨0x3500018, 0, 1⟩
def ATT_STAT_SEALED : Fld := ⟨0x3500018, 1, 1⟩
def ATT_STAT_MSEQ : Fld := ⟨0x3500018, 32, 32⟩
def ATT_EVT_REPORT : Fld := ⟨0x3500020, 0, 1⟩
def ATT_EVT_RELEASED : Fld := ⟨0x3500020, 1, 1⟩
def ATT_EVT_RELEASE_FAIL : Fld := ⟨0x3500020, 2, 1⟩
def ATT_SRC_ADDR : Fld := ⟨0x3500080, 0, 64⟩
def ATT_LEN_LEN : Fld := ⟨0x3500088, 0, 32⟩
def ATT_MEAS_INDEX : Fld := ⟨0x3500090, 0, 4⟩
def ATT_MEAS_MODE : Fld := ⟨0x3500090, 4, 2⟩
def ATT_MEAS_VERSION : Fld := ⟨0x3500090, 32, 32⟩
def ATT_RELSTAT_STATE : Fld := ⟨0x3500098, 0, 2⟩
def ATT_RELSTAT_CAUSE : Fld := ⟨0x3500098, 8, 8⟩
def ATT_RECENT_COUNT (i : Nat) : Fld := ⟨0x35000a0 + i * 0x8, 0, 32⟩
def ATT_RECENT_MSEQ (i : Nat) : Fld := ⟨0x35000a0 + i * 0x8, 32, 32⟩
def ATT_INFO_VERSION (i : Nat) : Fld := ⟨0x3500430 + i * 0x40, 0, 32⟩
def ATT_INFO_PRESENT (i : Nat) : Fld := ⟨0x3500430 + i * 0x40, 32, 1⟩
def EMC_CAP_UNIT : Fld := ⟨0x2b00008, 0, 8⟩
def EMC_CAP_NPART : Fld := ⟨0x2b00008, 8, 4⟩
def EMC_STAT_TRAINED : Fld := ⟨0x2b00018, 0, 1⟩
def EMC_STAT_STOPPED : Fld := ⟨0x2b00018, 1, 1⟩
def EMC_STAT_SELFREF : Fld := ⟨0x2b00018, 2, 1⟩
def EMC_STAT_SCRUBBING : Fld := ⟨0x2b00018, 3, 1⟩
def EMC_STAT_KEYED : Fld := ⟨0x2b00018, 4, 1⟩
def EMC_EVT_LASTING : Fld := ⟨0x2b00020, 0, 1⟩
def EMC_EVT_SCRUB_DONE : Fld := ⟨0x2b00020, 1, 1⟩
def EMC_EVT_TRAIN : Fld := ⟨0x2b00020, 2, 1⟩
def EMC_EVT_STOPPED : Fld := ⟨0x2b00020, 3, 1⟩
def EMC_CFG_DENSITY : Fld := ⟨0x2b00080, 0, 3⟩
def EMC_CFG_LP4X : Fld := ⟨0x2b00080, 3, 1⟩
def EMC_SIZE_DATA_MIB : Fld := ⟨0x2b00088, 0, 32⟩
def EMC_SIZE_DEVICE_MIB : Fld := ⟨0x2b00088, 32, 32⟩
def EMC_PART_BASE (i : Nat) : Fld := ⟨0x2b000a0 + i * 0x8, 0, 16⟩
def EMC_PART_SIZE (i : Nat) : Fld := ⟨0x2b000a0 + i * 0x8, 16, 16⟩
def EMC_PART_KR (i : Nat) : Fld := ⟨0x2b000a0 + i * 0x8, 32, 1⟩
def EMC_PART_KW (i : Nat) : Fld := ⟨0x2b000a0 + i * 0x8, 33, 1⟩
def EMC_PART_PR (i : Nat) : Fld := ⟨0x2b000a0 + i * 0x8, 34, 1⟩
def EMC_SCRUB_DONE_MIB : Fld := ⟨0x2b000c0, 0, 32⟩
def EMC_SCRUB_RUNNING : Fld := ⟨0x2b000c0, 32, 1⟩
def EMC_ECC_CORRECTED : Fld := ⟨0x2b000c8, 0, 32⟩
def EMC_ECC_UNCORR : Fld := ⟨0x2b000c8, 32, 32⟩
def EMC_ERRADDR_ADDR : Fld := ⟨0x2b000d0, 0, 64⟩
def EMC_KEYCTL_LOAD : Fld := ⟨0x2b000d8, 0, 1⟩
def EMC_KEYCTL_CLEAR : Fld := ⟨0x2b000d8, 1, 1⟩
def EMC_KEYCTL_SCRUB : Fld := ⟨0x2b000d8, 2, 1⟩
def EMC_TRAIN_STEP : Fld := ⟨0x2b000e0, 0, 4⟩
def EMC_TRAIN_FAIL : Fld := ⟨0x2b000e0, 4, 4⟩
def HBX_EVT_D2H : Fld := ⟨0x2800020, 0, 1⟩
def HBX_EVT_H2D : Fld := ⟨0x2800020, 1, 1⟩
def HBX_EVT_SESSION : Fld := ⟨0x2800020, 2, 1⟩
def HBX_EVT_LOST : Fld := ⟨0x2800020, 3, 1⟩
def HBX_STATE_STATE : Fld := ⟨0x2800080, 0, 2⟩
def HBX_H2D_TAIL_INDEX : Fld := ⟨0x2800088, 0, 16⟩
def HBX_H2D_HEAD_INDEX : Fld := ⟨0x2800090, 0, 16⟩
def HBX_D2H_TAIL_INDEX : Fld := ⟨0x2800098, 0, 16⟩
def HBX_D2H_HEAD_INDEX : Fld := ⟨0x28000a0, 0, 16⟩
def HBX_CLAIM_SRC : Fld := ⟨0x28000a8, 0, 9⟩
def HBX_COMPLETE_SRC : Fld := ⟨0x28000b0, 0, 9⟩
def HBX_CNT_ACCEPTED : Fld := ⟨0x28000b8, 0, 32⟩
def HBX_CNT_REJECTED : Fld := ⟨0x28000b8, 32, 16⟩
def HBX_CNT_DISCARDED : Fld := ⟨0x28000b8, 48, 16⟩
def HBX_H2D_BASE_ADDR : Fld := ⟨0x28000c0, 0, 64⟩
def HBX_D2H_BASE_ADDR : Fld := ⟨0x28000c8, 0, 64⟩
def HBX_RINGCFG_H2D_LOG2 : Fld := ⟨0x28000d0, 0, 4⟩
def HBX_RINGCFG_D2H_LOG2 : Fld := ⟨0x28000d0, 8, 4⟩
def PCI_EVT_LINK : Fld := ⟨0x2900020, 0, 1⟩
def PCI_EVT_RESET : Fld := ⟨0x2900020, 1, 1⟩
def PCI_EVT_DOE : Fld := ⟨0x2900020, 2, 1⟩
def PCI_EVT_LASTING : Fld := ⟨0x2900020, 3, 1⟩
def PCI_EVT_SESSION : Fld := ⟨0x2900020, 4, 1⟩
def PCI_IDS_VENDOR : Fld := ⟨0x2900080, 0, 16⟩
def PCI_IDS_DEVICE : Fld := ⟨0x2900080, 16, 16⟩
def PCI_LINK_UP : Fld := ⟨0x2900088, 0, 1⟩
def PCI_LINK_SPEED : Fld := ⟨0x2900088, 1, 3⟩
def PCI_LINK_BME : Fld := ⟨0x2900088, 4, 1⟩
def PCI_LINK_DSTATE : Fld := ⟨0x2900088, 5, 2⟩
def PCI_SPDM_SESSION : Fld := ⟨0x2900090, 0, 2⟩
def PCI_SPDM_ID : Fld := ⟨0x2900090, 16, 16⟩
def PCI_DOECNT_OBJECTS : Fld := ⟨0x2900098, 0, 32⟩
def PCI_CFG_MAXSPEED : Fld := ⟨0x29000a0, 0, 2⟩
def MGT_STAT_LINK : Fld := ⟨0x2a00018, 0, 1⟩
def MGT_STAT_SESSIONS : Fld := ⟨0x2a00018, 1, 3⟩
def MGT_EVT_LINK : Fld := ⟨0x2a00020, 0, 1⟩
def MGT_EVT_SESSION : Fld := ⟨0x2a00020, 1, 1⟩
def MGT_EVT_REFUSED : Fld := ⟨0x2a00020, 2, 1⟩
def MGT_MAC_ADDR : Fld := ⟨0x2a00080, 0, 48⟩
def MGT_CFG_PORT : Fld := ⟨0x2a00088, 0, 16⟩
def MGT_CFG_PREFIX : Fld := ⟨0x2a00088, 16, 8⟩
def MGT_CFG_GLOBAL : Fld := ⟨0x2a00088, 24, 1⟩
def MGT_ADDR0_ADDR : Fld := ⟨0x2a00090, 0, 64⟩
def MGT_ADDR1_ADDR : Fld := ⟨0x2a00098, 0, 64⟩
def MGT_GW0_ADDR : Fld := ⟨0x2a000a0, 0, 64⟩
def MGT_GW1_ADDR : Fld := ⟨0x2a000a8, 0, 64⟩
def MGT_CNT_DROPPED : Fld := ⟨0x2a000b0, 0, 32⟩
def MGT_CNT_REFUSED : Fld := ⟨0x2a000b0, 32, 16⟩
def MGT_SESS_STATE (i : Nat) : Fld := ⟨0x2a00400 + i * 0x40, 0, 2⟩
def MGT_SESS_PSK (i : Nat) : Fld := ⟨0x2a00400 + i * 0x40, 2, 1⟩
def MGT_SESS_SLOT (i : Nat) : Fld := ⟨0x2a00400 + i * 0x40, 8, 8⟩
def MGT_SESS_IDLE (i : Nat) : Fld := ⟨0x2a00400 + i * 0x40, 32, 16⟩
def DBG_CAP_NBP : Fld := ⟨0x700008, 0, 4⟩
def DBG_STAT_HALTED : Fld := ⟨0x700018, 0, 1⟩
def DBG_STAT_PENDING : Fld := ⟨0x700018, 1, 1⟩
def DBG_STAT_NONCE : Fld := ⟨0x700018, 2, 1⟩
def DBG_EVT_CONSENT : Fld := ⟨0x700020, 0, 1⟩
def DBG_EVT_ENDED : Fld := ⟨0x700020, 1, 1⟩
def DBG_EVT_HALT : Fld := ⟨0x700020, 2, 1⟩
def DBG_EVT_REFUSED : Fld := ⟨0x700020, 3, 1⟩
def DBG_CONSENT_EXPIRY : Fld := ⟨0x700080, 0, 32⟩
def DBG_CONSENT_SCOPE : Fld := ⟨0x700080, 32, 2⟩
def DBG_CONSENT_TENANT : Fld := ⟨0x700080, 40, 1⟩
def DBG_COUNT_ACCEPTED : Fld := ⟨0x700088, 0, 16⟩
def DBG_COUNT_REFUSED : Fld := ⟨0x700088, 16, 16⟩
def DBG_COUNT_HALTS : Fld := ⟨0x700088, 32, 16⟩
def DBG_LAST_CAUSE : Fld := ⟨0x700090, 0, 8⟩
def DBG_TDIGEST_DIGEST (i : Nat) : Fld := ⟨0x7000a0 + i * 0x8, 0, 64⟩
def MOD_CAP_NAXIS : Fld := ⟨0x800008, 0, 4⟩
def MOD_STAT_DEFERRED : Fld := ⟨0x800018, 0, 11⟩
def MOD_EVT_CHANGE : Fld := ⟨0x800020, 0, 1⟩
def MOD_EVT_DECIDED : Fld := ⟨0x800020, 1, 1⟩
def MOD_EVT_LASTING : Fld := ⟨0x800020, 2, 1⟩
def MOD_CUR_POWER : Fld := ⟨0x800080, 0, 3⟩
def MOD_CUR_LIFECYCLE : Fld := ⟨0x800080, 4, 2⟩
def MOD_CUR_ZEROIZED : Fld := ⟨0x800080, 6, 1⟩
def MOD_CUR_TENANCY : Fld := ⟨0x800080, 8, 2⟩
def MOD_CUR_LIFT : Fld := ⟨0x800080, 12, 4⟩
def MOD_CUR_INSP_SRC : Fld := ⟨0x800080, 16, 2⟩
def MOD_CUR_GROUP : Fld := ⟨0x800080, 18, 2⟩
def MOD_CUR_CB0 : Fld := ⟨0x800080, 20, 3⟩
def MOD_CUR_CB1 : Fld := ⟨0x800080, 24, 3⟩
def MOD_CUR_TIME : Fld := ⟨0x800080, 28, 2⟩
def MOD_CUR_HOST : Fld := ⟨0x800080, 32, 2⟩
def MOD_CUR_DEBUG : Fld := ⟨0x800080, 36, 2⟩
def MOD_CUR_SPEC : Fld := ⟨0x800080, 40, 2⟩
def MOD_CUR_SPEC_STOPS : Fld := ⟨0x800080, 42, 3⟩
def MOD_SEQ_SEQ : Fld := ⟨0x800088, 0, 64⟩
def MOD_CFG_RECALL_LANDING : Fld := ⟨0x800090, 0, 6⟩
def MOD_CFG_EVAC_LANDING : Fld := ⟨0x800090, 8, 6⟩
def MOD_CFG_OOS_DOORS : Fld := ⟨0x800090, 16, 1⟩
def MOD_CFG_PL_EXIT : Fld := ⟨0x800090, 17, 1⟩
def MOD_CFG_IN_STABLE : Fld := ⟨0x800090, 24, 8⟩
def MOD_CFG_PLAIN_ALLOWED : Fld := ⟨0x800090, 40, 1⟩
def MOD_INSEL_SEL : Fld := ⟨0x800098, 0, 64⟩
def MOD_REQ_VALUE (i : Nat) : Fld := ⟨0x800100 + i * 0x8, 0, 8⟩
def MOD_REQ_ARG (i : Nat) : Fld := ⟨0x800100 + i * 0x8, 8, 8⟩
def MOD_REQ_STATE (i : Nat) : Fld := ⟨0x800100 + i * 0x8, 16, 3⟩
def MOD_REQ_CAUSE (i : Nat) : Fld := ⟨0x800100 + i * 0x8, 24, 8⟩
def MOD_REQ_SEQ (i : Nat) : Fld := ⟨0x800100 + i * 0x8, 32, 32⟩
def MOD_CAUSE_VALUE (i : Nat) : Fld := ⟨0x800180 + i * 0x8, 0, 8⟩
def MOD_CAUSE_FROM (i : Nat) : Fld := ⟨0x800180 + i * 0x8, 8, 8⟩
def MOD_CAUSE_CAUSE (i : Nat) : Fld := ⟨0x800180 + i * 0x8, 16, 8⟩
def MOD_CAUSE_WHO (i : Nat) : Fld := ⟨0x800180 + i * 0x8, 24, 8⟩
def MOD_CAUSE_SEQ (i : Nat) : Fld := ⟨0x800180 + i * 0x8, 32, 32⟩
def SYS_SERIAL_SERIAL : Fld := ⟨0x80, 0, 64⟩
def SYS_LIFECYCLE_STATE : Fld := ⟨0x88, 0, 2⟩
def SYS_LIFECYCLE_ZEROIZED : Fld := ⟨0x88, 2, 1⟩
def SYS_LIFECYCLE_BSCAN_FUSE : Fld := ⟨0x88, 8, 1⟩
def SYS_LIFECYCLE_DPROTO_FUSE : Fld := ⟨0x88, 9, 1⟩
def SYS_LIFECYCLE_KEEPER_FLOOR : Fld := ⟨0x88, 16, 16⟩
def SYS_ASSET0_LABEL : Fld := ⟨0x90, 0, 64⟩
def SYS_ASSET1_LABEL : Fld := ⟨0x98, 0, 64⟩
def SYS_PAM_GRANTS (i : Nat) : Fld := ⟨0x100 + i * 0x8, 0, 10⟩
def SYS_PAM_SEQ (i : Nat) : Fld := ⟨0x100 + i * 0x8, 32, 32⟩
def ATT_DIG0_DIGEST (i : Nat) : Fld := ⟨0x3500400 + i * 0x40, 0, 64⟩
def ATT_DIG1_DIGEST (i : Nat) : Fld := ⟨0x3500408 + i * 0x40, 0, 64⟩
def ATT_DIG2_DIGEST (i : Nat) : Fld := ⟨0x3500410 + i * 0x40, 0, 64⟩
def ATT_DIG3_DIGEST (i : Nat) : Fld := ⟨0x3500418 + i * 0x40, 0, 64⟩
def ATT_DIG4_DIGEST (i : Nat) : Fld := ⟨0x3500420 + i * 0x40, 0, 64⟩
def ATT_DIG5_DIGEST (i : Nat) : Fld := ⟨0x3500428 + i * 0x40, 0, 64⟩
end F

end Sys2Proof.Machine
end

