-- ==== Sys2Proof/Machine/Codes.lean ====
section
/-!
DEFINITION. Sys2Proof/Machine/Codes.lean: the values of the mode axes (the table before R46) with their encodings, the
accessors of R113, and the entry causes of R93.
-/
namespace Sys2Proof.Machine

/-- Axis 0. -/
inductive Power where | off | batteryHold | watch | run | halt
  deriving DecidableEq, Repr
/-- Axis 1. -/
inductive LifeCycle where | blank | provisioned | deployed | returned
  deriving DecidableEq, Repr
/-- Axis 2. -/
inductive Tenancy where | owner | contractor | molting
  deriving DecidableEq, Repr
/-- Axis 3. -/
inductive LiftMode where
  | normal | independent | inspection | recall1 | recall2 | evacuation | outOfService | rescue | positionLost
  | secureDegraded
  deriving DecidableEq, Repr
/-- Axis 4. -/
inductive GroupRole where | simplex | leader | member | isolated
  deriving DecidableEq, Repr
/-- Axes 5 and 6. -/
inductive BusMode where | normal | listenOnly | rateSearch | internalLoop | externalLoop | busOff
  deriving DecidableEq, Repr
/-- Axis 7. -/
inductive TimeRole where | master | backup | follower | free
  deriving DecidableEq, Repr
/-- Axis 8. -/
inductive Attach where | absent | plain | confidential
  deriving DecidableEq, Repr
/-- Axis 9. -/
inductive DebugScope where | closed | observe | observeFine | haltPermitted
  deriving DecidableEq, Repr

def Power.code : Power → Nat | .off => 0 | .batteryHold => 1 | .watch => 2 | .run => 3 | .halt => 4
def LifeCycle.code : LifeCycle → Nat | .blank => 0 | .provisioned => 1 | .deployed => 2 | .returned => 3
def Tenancy.code : Tenancy → Nat | .owner => 0 | .contractor => 1 | .molting => 2
def LiftMode.code : LiftMode → Nat
  | .normal => 0 | .independent => 1 | .inspection => 2 | .recall1 => 3 | .recall2 => 4 | .evacuation => 5
  | .outOfService => 6 | .rescue => 7 | .positionLost => 8 | .secureDegraded => 9
def GroupRole.code : GroupRole → Nat | .simplex => 0 | .leader => 1 | .member => 2 | .isolated => 3
def BusMode.code : BusMode → Nat
  | .normal => 0 | .listenOnly => 1 | .rateSearch => 2 | .internalLoop => 3 | .externalLoop => 4 | .busOff => 5
def TimeRole.code : TimeRole → Nat | .master => 0 | .backup => 1 | .follower => 2 | .free => 3
def Attach.code : Attach → Nat | .absent => 0 | .plain => 1 | .confidential => 2
def DebugScope.code : DebugScope → Nat | .closed => 0 | .observe => 1 | .observeFine => 2 | .haltPermitted => 3

/-- The value an encoding of MOD_CUR names. R46 writes only listed encodings; the others are read as the last listed. -/
def Power.ofCode : Nat → Power | 0 => .off | 1 => .batteryHold | 2 => .watch | 3 => .run | _ => .halt
def LifeCycle.ofCode : Nat → LifeCycle | 0 => .blank | 1 => .provisioned | 2 => .deployed | _ => .returned
def Tenancy.ofCode : Nat → Tenancy | 0 => .owner | 1 => .contractor | _ => .molting
def LiftMode.ofCode : Nat → LiftMode
  | 0 => .normal | 1 => .independent | 2 => .inspection | 3 => .recall1 | 4 => .recall2 | 5 => .evacuation
  | 6 => .outOfService | 7 => .rescue | 8 => .positionLost | _ => .secureDegraded
def GroupRole.ofCode : Nat → GroupRole | 0 => .simplex | 1 => .leader | 2 => .member | _ => .isolated
def BusMode.ofCode : Nat → BusMode
  | 0 => .normal | 1 => .listenOnly | 2 => .rateSearch | 3 => .internalLoop | 4 => .externalLoop | _ => .busOff
def TimeRole.ofCode : Nat → TimeRole | 0 => .master | 1 => .backup | 2 => .follower | _ => .free
def Attach.ofCode : Nat → Attach | 0 => .absent | 1 => .plain | _ => .confidential
def DebugScope.ofCode : Nat → DebugScope | 0 => .closed | 1 => .observe | 2 => .observeFine | _ => .haltPermitted

end Sys2Proof.Machine
end

