-- ==== Sys2Proof/Machine/State.lean ====
section
/-!
DEFINITION. Sys2Proof/Machine/State.lean: the state of the 641, all of it plain data: the register file of the 35
pages, the fuse bank, the battery domain, the Keeper store, the two ends of the barrier link, the engines of the logic
die, the Karpex core, the memories, and the queue of commands that wait.
-/
namespace Sys2Proof.Machine
open Sys2Proof

/-- Why the machine stops. No behaviour of the manual stops the 641 outside its own states (Off and lock-up are states), so
no fault is raised; the one constructor is kept so that the type is inhabited. Safe: it is never answered. -/
inductive Fault where
  /-- Raised by nobody. Safe. -/
  | none
  deriving DecidableEq, Repr

/-- Why a command has no meaning. -/
inductive Refusal where
  /-- Raised by an arm of `exec` whose command has no meaning yet. Safe: nothing is proved of it. -/
  | notModelled (mnemonic : String)
  deriving DecidableEq, Repr

/-! ## Fuses, battery domain and secure NVM -/

/-- The factory fuse bank (R147, R148, R545, R565, R573, R646). -/
structure Fuses where
  /-- The life-cycle fuses P, D and Rt (R573). -/
  fuseP : Bool
  fuseD : Bool
  fuseRt : Bool
  serial : Word
  keeperFloor : Nat
  tmpFloor : Nat
  bscan : Bool
  dproto : Bool
  deriving DecidableEq, Repr

/-- One key slot's content (R546, R547) beside its policy in KEY_POLn: the key bytes, and how the coming integrity checks of
the cell go (physical state: each `true` is one failing check). -/
structure KeySlot where
  bytes : List Byte
  failing : List Bool
  deriving DecidableEq, Repr

/-- The battery domain beside its page registers: it keeps its contents through every reset but a battery power-on. -/
structure Battery where
  zeroized : Bool
  tenancy : Nat
  moltTarget : Nat
  /-- A Molt has begun and is not complete; the step it has reached is TEN_STAT.STEP. -/
  molting : Bool
  lock : Bool
  /-- Sensors whose anomaly arose in Battery Hold and waits for boot step 3, as a bit mask (R567, R570). -/
  inHold : Nat
  /-- The Operational Root: absent, or the root drawn with this number (R541). -/
  opRoot : Option Nat
  /-- The last-resort byte (R212). -/
  lastResort : Nat
  /-- The number of the mask the battery domain last drew (R550). -/
  maskNo : Nat
  /-- A failing tag check of the Operational Root, per coming check (R553). -/
  rootFailing : List Bool
  deriving DecidableEq, Repr

/-- What secure NVM holds beside its words (R181, R311, R578, R583, R649): the Keeper store. -/
structure NvmStore where
  /-- The site record: the image of every register under SYS_PAM1 that a granted write has stored (R181). -/
  site : List (Nat × Word)
  /-- The stored interlock table image (R311). -/
  table : Option (List Byte)
  /-- The stored tenant configurations of Owner and Contractor (R578). -/
  config0 : Option (List Byte)
  config1 : Option (List Byte)
  /-- The stored applet images by slot (R532). -/
  applets : List (Nat × List Byte)
  /-- The accepted Molt order of a Molt in progress (R583). -/
  moltOrder : List Byte
  /-- The management configuration (R649). -/
  mgtConfig : List Byte
  /-- The Keeper image is present and valid, and its security version (R179). -/
  keeperVersion : Nat
  keeperValid : Bool
  /-- The Keeper image that recovery has stored; none is the one the module was assembled with (R625). -/
  keeperImage : Option (List Byte)
  /-- The 64-bit words, by number, whose stored bits have an uncorrectable error (R514): physical state that a failed program or erase
  leaves. -/
  badWords : List Nat
  deriving DecidableEq, Repr

/-! ## Barrier link and Carapace -/

/-- A staged command (R318): the stage write as it crosses the barrier and as a slot holds it. -/
structure Stage where
  tag : Nat
  pclass : Nat
  release : Bool
  outMask : Nat
  outValue : Nat
  released : Bool
  deriving DecidableEq, Repr

/-- A gate command of the outbound frame (R318). -/
inductive GateCmd where
  | none | arm (base : Nat) | disarm | tripClear | digestWord (index : Nat) (word : BitVec 128)
  deriving DecidableEq, Repr

/-- A chunk of a table body (R312). -/
structure Chunk where
  first : Bool
  last : Bool
  index : Nat
  data : List Byte
  deriving DecidableEq, Repr

/-- The content of an outbound frame (R259, R318). -/
structure OutFrame where
  seq : Nat
  retry : Bool
  watch : Bool
  offAll : Bool
  setValue : Nat
  setMask : Nat
  uninhibit : Nat
  fcntReset : Nat
  sweepChannel : Nat
  sweepAction : Nat
  sweepAllOff : Bool
  /-- Channels that the sweep has found lasting-failed: they become inhibited (R288). The layout of R259 names no place for them (log
  entry 22). -/
  inhibit : Nat
  /-- Gather item codes by gather slot. -/
  gather : List Nat
  stages : List Stage
  squash : Option Nat
  release : Option Nat
  gate : GateCmd
  chunk : Option Chunk
  deriving DecidableEq, Repr

/-- One gather result of the inbound frame, in the slot of its request (R260). -/
structure GatherResult where
  value : Nat
  valid : Bool
  fault : Bool
  deriving DecidableEq, Repr

/-- The content of an inbound frame (R260, R326). -/
structure InFrame where
  seq : Nat
  retry : Bool
  watching : Bool
  vfldOk : Bool
  fault : Bool
  tsd : Bool
  ilim : Bool
  dropped : Bool
  sweep : Bool
  temp : Nat
  inputs : Nat
  edges : Nat
  applied : Nat
  inhibited : Nat
  vfldMv : Nat
  qerr : Nat
  povf : Nat
  counters : List Nat
  gather : List GatherResult
  waiting : Nat
  committed : Nat
  squashed : Nat
  accepted : Nat
  permit : Nat
  lastTag : Nat
  armed : Bool
  refusing : Bool
  trip : Bool
  tripCause : Nat
  tripRule : Nat
  tableOk : Bool
  loadDone : Bool
  loadFail : Bool
  lostInc : Nat
  armIncomplete : Bool
  deriving DecidableEq, Repr

/-- A counter unit of the Carapace (R275): its value in the frame; the edges and the scans of the gate in progress; SCLK cycles since its
last rising edge, and whether that edge started a period; its flags; the illegal transitions it has met (R297). -/
structure CUnit where
  value : Nat
  gateEdges : Nat
  gateScans : Nat
  since : Nat
  timing : Bool
  povf : Bool
  qerr : Bool
  illegal : Nat
  deriving DecidableEq, Repr

/-- The Carapace die. -/
structure Carapace where
  /-- VISO_IN is present; the barrier transformer drives the die (R30, R168). -/
  viso : Bool
  driven : Bool
  fieldWatch : Bool
  /-- Raw levels at the last sample, filtered states, filter counts, the Carapace's time in µs at the last filtered change. -/
  raw : Nat
  filt : Nat
  filtCount : List Nat
  changedAt : List Nat
  /-- Changes of the filtered states that no frame carries yet, and those that no watch frame has shown yet (R264, R274). -/
  edges : Nat
  watchEdges : Nat
  /-- The fast filters of FI00 to FI03 (R275): raw levels, filtered levels, and for how many cycles the two have differed. -/
  fastRaw : Nat
  fast : Nat
  fastCount : List Nat
  /-- The field configuration: 53 register images in the order of R269. -/
  config : List Word
  units : List CUnit
  cmd : Nat
  applied : Nat
  inhibit : Nat
  tsd : Nat
  ilim : Nat
  lowPads : Nat
  faults : Nat
  vfldOk : Bool
  vfldMv : Nat
  temp : Nat
  tempTenth : Nat
  /-- The active table body, its digest, and whether its CRCs matched in the last scan. -/
  table : Option (List Byte)
  digest : BitVec 384
  tableOk : Bool
  loadBuf : List Byte
  tripCause : Nat
  tripRule : Nat
  armed : Bool
  refusing : Bool
  armIncomplete : Bool
  dropped : Bool
  digestWords : List (Option (BitVec 128))
  slots : List (Option Stage)
  lastTag : Nat
  permit : Nat
  committedPrev : Bool
  scans : Nat
  /-- Time since the Carapace's reset in µs (R297). -/
  micros : Nat
  drops : Nat
  lastOutSeq : Option Nat
  /-- The outbound frame of the slot was valid: the acknowledge word says so (R258 step 6). -/
  heardOut : Bool
  inSeq : Nat
  /-- The sweep's hold (R289): the channel under test, whether it is held off (1) or on (2), and every channel that is held off. -/
  hold : Nat
  holdAction : Nat
  heldOff : Nat
  /-- The report of the last scan, and the frame of the current slot. -/
  report : InFrame
  inFlight : InFrame
  repeatIn : Bool
  /-- The inbound watch frame of the slot (R268): VFLD_OK and the states it carries, and whether the next one repeats it. -/
  watchVfld : Bool
  watchStates : Nat
  watchRepeat : Bool
  deriving DecidableEq, Repr

/-- The state of the isolation sweep (R289) on the logic die. -/
structure Sweep where
  remaining : List Nat
  /-- 0 hold off, 1 hold on. -/
  step : Nat
  attempt : Nat
  faulted : Bool
  firstFault : Bool
  deriving DecidableEq, Repr

/-- One element of a running gather (R293). -/
structure GatherElem where
  code : Nat
  /-- 0 not requested, 1 in flight, 2 to fetch again, 3 in flight again, 4 finished. -/
  phase : Nat
  value : Nat
  lasting : Bool
  retried : Bool
  deriving DecidableEq, Repr

/-- An outbound frame whose covering report has not come (R258): how many reports still come before that one (none while the frame is
not finished), the gather element that each of its slots asked for, the enables of FIN_RISEEN and FIN_FALLEN that went with it (R128),
and its content. -/
structure Due where
  wait : Option Nat
  elems : List Nat
  rise : Option Nat
  fall : Option Nat
  frame : OutFrame
  deriving DecidableEq, Repr

/-- The logic die's end of the watch lanes (R268): the SEQ of the outbound watch frame of the slot, its failures, those of the inbound
lane, and the SEQ last taken. -/
structure WatchLink where
  seq : Nat
  outFails : Nat
  inFails : Nat
  last : Option Nat
  deriving DecidableEq, Repr

/-- The logic die's end of the barrier link. -/
structure Barrier where
  setValue : Nat
  setMask : Nat
  uninhibit : Nat
  fcntReset : Nat
  stages : List Stage
  squash : Option Nat
  release : Option Nat
  gateQ : List GateCmd
  chunks : List Chunk
  offAll : Bool
  watch : Bool
  /-- The outbound frame of the current slot, and how often its content has failed. -/
  out : OutFrame
  outFails : Nat
  inFails : Nat
  /-- Stage writes sent and not yet reported, oldest first, each with the number of reports that still come before the one that
  covers its frame (none while the frame is not finished). -/
  sent : List (Option Nat × Stage)
  /-- The frames whose covering report has not come, oldest first. -/
  due : List Due
  /-- Writes of FIN_RISEEN and FIN_FALLEN that wait for the next frame (R128). -/
  rise : Option Nat
  fall : Option Nat
  /-- The logic die's shadow of the slots, of the channels' commands (R282), and whether it holds the gate armed. -/
  shadow : List (Option Stage)
  cmd : Nat
  shadowArmed : Bool
  disarming : Bool
  gather : List GatherElem
  /-- Counter values of the last valid inbound frame. -/
  counters : List Nat
  /-- Inbound slots since each counter unit was reset or configured anew (R275, RESULT). -/
  unitAge : List Nat
  sweep : Option Sweep
  /-- Sweep steps that wait for a frame (R289): channel and action; the channels found lasting-failed, which the next frame carries. -/
  sweepQ : List (Nat × Nat)
  inhibit : Nat
  /-- FAULT of the channel under test, as the last valid frame reports it (R286, R289). -/
  testFault : Bool
  /-- VFLD in mV as the last valid frame carries it (R187). -/
  vfldMv : Nat
  lastInSeq : Option Nat
  /-- A table load in progress: the body. -/
  load : Option (List Byte)
  watchGap : Bool
  watchLink : WatchLink
  deriving DecidableEq, Repr

/-! ## Interrupts, wake and modes -/

/-- The ICU beside its page registers (R220 to R231). A set of sources is a bit vector indexed by source number. -/
structure Icu where
  queue : List Nat
  /-- Doorbells raised by the command in progress, not yet at the queue (R220). -/
  arriving : List Nat
  pend0 : BitVec 512
  pend1 : BitVec 512
  insv0 : BitVec 512
  insv1 : BitVec 512
  rel0 : BitVec 512
  rel1 : BitVec 512
  /-- The T1 request line as it last stood, and the MSI-X vector 0 of the host (R241). -/
  line1 : Bool
  msixEnabled : Bool
  msixMasked : Bool
  msixPending : Bool
  msixSent : Nat
  deriving DecidableEq, Repr

/-- A hardware cause that the next evaluation takes in on axes 4 to 9 (R47): value, entry cause, requester. -/
structure AxisCall where
  axis : Nat
  value : Nat
  cause : Nat
  who : Nat
  deriving DecidableEq, Repr

/-- One mode input's filter (R57): the level seen, how many frames it has stood, and whether the input counts as active. -/
structure ModeInput where
  level : Bool
  frames : Nat
  active : Bool
  deriving DecidableEq, Repr

/-- MOD beside its page registers. -/
structure ModState where
  base : LiftMode
  baseCause : Nat
  baseWho : Nat
  inputs : List ModeInput
  positionLost : Bool
  lostCause : Nat
  /-- Parking of Secure-degraded is complete (R99, ranks 1 and 9). -/
  parked : Bool
  keysAbsent : Bool
  /-- Lock has called for rank 1, and the job keys have not been delivered again since (R99). -/
  lockKeys : Bool
  /-- The requester of each index's request, for MOD_CAUSEn.WHO. -/
  who : List Nat
  /-- The requests made since the last evaluation or deferred, by index. -/
  held : List Nat
  fresh : List Nat
  calls : List AxisCall
  /-- The requested speculation depth in stops (R76). -/
  spec : Nat
  /-- The causes of R99 that called for a value in the last evaluation, as a bit mask by rank; bit 12 is the RECALL2 input. -/
  rank : Nat
  groupMajority : Bool
  deriving DecidableEq, Repr

/-- Firefly and the wake (R163, R245). -/
structure Wake where
  /-- The 641 is in Watch: MOD does not evaluate and the ICU is clock-gated. -/
  watch : Bool
  recorded : List Nat
  /-- A wake has begun and waits for PLL lock. -/
  waking : Bool
  /-- The source that started the wake (R163); none where no watched source did. -/
  starter : Option Nat
  /-- A boot waits for PLL lock. -/
  bootPending : Bool
  /-- The Keeper branch of the boot chain runs: signature checks of the applet images, by slot, for its step 5 (R178). -/
  applets : Option (List Bool)
  pllStarted : Bool
  timerArmed : Bool
  /-- In power-on reset (R165). -/
  inReset : Bool
  mgtUp : Bool
  ddrResetN : Bool
  rstoutN : Bool
  deriving DecidableEq, Repr

/-! ## Position and doors -/

/-- CAR beside its page registers (R335 to R352). -/
structure CarState where
  /-- Inbound frame slots since reset, and the extended counts of the valid ones among the last 50, newest first. -/
  frame : Nat
  history : List (Nat × Int)
  /-- The last inbound frame was lasting-failed. -/
  afterLasting : Bool
  /-- The filtered inputs of the last valid frame, whose edges CAR takes (R342). -/
  inputs : Nat
  /-- In phase 3 of a relearn: the car has stopped at the terminal and travels away from it (R349; log entry 166). -/
  away : Bool
  deriving DecidableEq, Repr

/-- A door engine beside its page registers (R353 to R367). -/
structure DoorState where
  /-- The dwell of R359: its value in 10 ms units, whether it runs, whether a curtain holds it. -/
  dwell : Nat
  dwellRunning : Bool
  dwellHeld : Bool
  hallServed : Bool
  afterReopen : Bool
  /-- What the engine has asked DSE for: 0 nothing, 1 open, 2 close, 3 nudge. -/
  ask : Nat
  /-- Lock confirmation runs since the report of closed (R363). -/
  confirming : Bool
  /-- An open command has been sent since the lock was confirmed (R365). -/
  openSent : Bool
  /-- Byte 2 of the current command (R354). -/
  flags : Nat
  /-- Levels of OPEN_BTN, CLOSE_BTN, CURTAIN and HOLD in the last valid frame, and the operator's curtain report. -/
  openBtn : Bool
  closeBtn : Bool
  curtainIn : Bool
  holdIn : Bool
  opCurtain : Bool
  /-- SEQ of the last command that the operator has acted on (R355). -/
  opSeq : Nat
  /-- LOCKMISS has reached its limit: the engine enters HELD when the door is open (R364). -/
  heldDue : Bool
  deriving DecidableEq, Repr

/-! ## CAN controllers, time, group, dispatch -/

/-- What a frame of the 641 is: a software frame (R429), a job engine's frame (R442), a heartbeat (R448), a key-epoch frame
(R562), a park frame (R451), a reference (R461), a group frame (R480). -/
inductive FrameKind where
  | software | job | heartbeat | epoch | park | reference | group
  deriving DecidableEq, Repr

/-- A frame that waits to be sent. `data` is the payload: the data field of a software or park frame, the 8 payload bytes of a
secured frame, the 56 of a group frame; freshness and MAC are set at each attempt (R444). -/
structure TxFrame where
  kind : FrameKind
  id : Nat
  ide : Bool
  fdf : Bool
  brs : Bool
  dlc : Nat
  job : Nat
  data : List Byte
  /-- Attempts that have failed. -/
  failed : Nat
  /-- In transmission; an ABORT_HEAD, FLUSH or BUFABORT came meanwhile. -/
  tx : Bool
  abort : Bool
  deriving DecidableEq, Repr

/-- A frame in the receive FIFO: its header image (CBn_RXH) and its data. -/
structure RxFrame where
  header : Word
  data : List Byte
  deriving DecidableEq, Repr

/-- A delivered job key and its announcement key (R542, R561, R562). -/
structure JobKey where
  job : Nat
  key : List Byte
  announce : List Byte
  /-- The key-epoch frame is still sent in place of the heartbeat. -/
  announcing : Bool
  epoch : Nat
  deriving DecidableEq, Repr

/-- Rate search (R439). -/
structure RateSearch where
  /-- The data stage runs. -/
  dataStage : Bool
  /-- Candidates still to try, the current one first; codes of CBn_RSSTAT. -/
  candidates : List Nat
  good : Nat
  fdSeen : Bool
  found : Bool
  deriving DecidableEq, Repr

/-- A CAN controller beside its page registers (R417 to R456). -/
structure CanState where
  bufs : List (Option TxFrame)
  queue : List TxFrame
  /-- The pending reference and the pending group frames (R463). -/
  refs : List TxFrame
  group : List TxFrame
  fifo : List RxFrame
  /-- Keeper's staging registers; the host's are CBn_TXH and CBn_TXDk of the register file (R429). -/
  stageHead : Word
  stageData : List Word
  keys : List JobKey
  timeKey : Option (List Byte)
  groupKey : Option (List Byte)
  /-- The accepted frames of each job: freshness and data field (R445, last check). -/
  recent : List (Nat × Nat × List Byte)
  /-- The current payload of jobs whose heartbeat no other engine supplies. -/
  payloads : List (Nat × List Byte)
  /-- Bit timing that waits for the end of the frame in progress (R423). -/
  nbtNext : Option Word
  dbtNext : Option Word
  search : Option RateSearch
  /-- A request for Normal has started recovery from Bus-off (R437). -/
  recovering : Bool
  /-- Frames of an engine that wait, by buffer, for the end of the attempt in its buffer. -/
  later : List (Nat × TxFrame)
  /-- The frame of the latest attempt as it stands on the bus: identifier image, data field. -/
  onBus : Option (Nat × List Byte)
  /-- The count of the last reference accepted on this bus (R464). -/
  lastRef : Option Nat
  deriving DecidableEq, Repr

/-- TSY beside its page registers (R457 to R478). -/
structure TsyState where
  /-- A reference has been accepted since entry to Follower. -/
  accepted : Bool
  /-- Boundaries since entry without an accepted reference. -/
  bare : Nat
  /-- The expected reference of the last boundary has been hit. -/
  hit : Bool
  /-- The count to step to at the next boundary, and whether this boundary stepped (R467). -/
  stepTo : Option Nat
  stepped : Bool
  /-- CLK_UPTIME, COUNT and PHASE at Watch entry (R460). -/
  sleptAt : Nat
  /-- Expected references since a wake: none yet accepted, and how many were missed (R476); none outside that time. -/
  wakeMisses : Option Nat
  /-- Boundaries since the wake-rule search began. -/
  searchCycles : Nat
  /-- The wake was caused by FFY_TIMER alone (R475). -/
  timerWake : Bool
  floorAt : Nat
  deriving DecidableEq, Repr

/-- A bid of a station for a call (R487). -/
structure Bid where
  station : Nat
  kind : Nat
  orig : Nat
  dest : Nat
  bid : Nat
  deriving DecidableEq, Repr

/-- GRP beside its page registers (R479 to R491): the payload of the latest digest of each station, and the bids held. -/
structure GrpState where
  digests : List (Option (List Byte))
  bids : List Bid
  /-- Bids for every entry are due in the next pass (R487). -/
  rebid : Bool
  deriving DecidableEq, Repr

/-- What a stage that DSE has written stands for (R388), by the row of the table: 0 DOOR_CLOSE, 1 BRAKE_LIFT, 2 RUN_ON,
3 PREOPEN, 4 RUN_OFF, 5 BRAKE_DROP, 6 DOOR_OPEN; 7 and 9 the compensating RUN_OFF and BRAKE_DROP (R400). -/
structure Planned where
  tag : Nat
  /-- 0 DOOR_CLOSE or a nudge, 1 BRAKE_LIFT, 2 RUN_ON, 3 PREOPEN, 4 RUN_OFF, 5 BRAKE_DROP, 6 DOOR_OPEN, 7 and 9 the two stages of R400, 8 the
  companion of a nudge (R357, R388). -/
  what : Nat
  /-- The side of a door stage: 0 front, 1 rear. -/
  side : Nat
  /-- 0 the leg in progress, 1 the next. -/
  leg : Nat
  landing : Nat
  pclass : Nat
  release : Bool
  outMask : Nat
  outValue : Nat
  committed : Bool
  /-- The report of its frame has shown it accepted; a release has been issued for it. -/
  accepted : Bool
  released : Bool
  deriving DecidableEq, Repr

/-- A call or commit work that waits in the intake queue while DSE is frozen (R378). -/
inductive Intake where
  | call (bus job : Nat) (payload : List Byte)
  | cancel (bus job : Nat) (payload : List Byte)
  | drive (payload : List Byte)
  | report (committed : List Nat) (permit : Nat)
  deriving DecidableEq, Repr

/-- DSE beside its page registers (R373 to R413). -/
structure DseState where
  intake : List Intake
  /-- The microcode is valid (R373). -/
  microcode : Bool
  /-- A pass is due (R375). -/
  due : Bool
  /-- Squash causes that have occurred and wait for the next pass or evaluation (R397). -/
  causes : List Nat
  planned : List Planned
  /-- Stages that DSE has squashed and that no report has shown gone (R327). -/
  gone : List Planned
  /-- The landing whose leg is in progress. -/
  target : Option Nat
  /-- The door stage of the leg is owed as a DOOR_OPEN (R395, R396). -/
  doorOwed : Bool
  /-- The committed RUN and BRAKE commands. -/
  runOn : Bool
  brakeOn : Bool
  /-- Acknowledges not yet sent: the entry (or none), and the payload (R405). -/
  acks : List (Option Nat × Nat × List Byte)
  /-- The SEQ of the frame that registered each entry. -/
  seqs : List (Nat × Nat)
  upward : Bool
  /-- The permits of the previous report (R397, code 5). -/
  permitPrev : Nat
  /-- Compensation is owed once R102 and R103 stop applying (R400). -/
  owe : Bool
  /-- The effective depth of the last pass. -/
  depth : Nat
  passes : Nat
  staged : Nat
  squashed : Nat
  discarded : Nat
  modelRuns : Nat
  /-- Valid banks, and their plaintext by address in the model memory. -/
  valid0 : Bool
  valid1 : Bool
  /-- The PKG key register (R408), and a load in progress: its image has been taken. -/
  pkgKey : Option (List Byte)
  pkgDigest : BitVec 384
  deriving DecidableEq, Repr



/-! ## Keys, applets, the core, tenancy, memory, the host, management and debug -/

/-- What a handle names: a key slot, or an ephemeral register (R527, R558). -/
inductive KeyRef where
  | slot (n : Nat)
  | eph (r : Nat)
  deriving DecidableEq, Repr

/-- An open handle of an applet slot (R527). -/
structure Handle where
  applet : Nat
  number : Nat
  key : KeyRef
  deriving DecidableEq, Repr

/-- An ephemeral register in use: an ECDH result, which HKDF alone may use, or an AES key that HKDF derived (R558). -/
structure Ephemeral where
  derived : Bool
  bytes : List Byte
  deriving DecidableEq, Repr

/-- KEY beside its page registers: the contents of the slots in use, the handles, the 32 ephemeral registers. -/
structure KeyState where
  slots : List (Nat × KeySlot)
  handles : List Handle
  eph : List (Option Ephemeral)
  deriving DecidableEq, Repr

/-- An invocation of an applet (R520): kind, channel and TAG of its sender, the message. -/
structure Invocation where
  slot : Nat
  kind : Nat
  channel : Nat
  tag : Nat
  data : List Byte
  deriving DecidableEq, Repr

/-- LVA beside its page registers: the queue of 32 invocations, the entry that runs, and for each slot the ticks since its last
completed tick entry and those that the running entry was given. -/
structure LvaState where
  queue : List Invocation
  running : Option Invocation
  ticks : List Nat
  given : Nat
  /-- Frames that the command in progress has accepted for applets (R642): job number and payload; none between commands. -/
  mail : List (Nat × List Byte)
  deriving DecidableEq, Repr

/-- The Karpex core beside its page registers (R495, R513, R668 to R673): registers, pc, waiting in IDLE, waiting at an instruction
for the end of a deferral; a breakpoint that a match has passed. -/
structure CoreState where
  x : List Word
  pc : Word
  idle : Bool
  held : Bool
  /-- An NVM command that runs: 1 program, 2 erase; its address and data (R537). -/
  nvm : Option (Nat × Nat × Word)
  /-- The match of a DP_BP at this instruction has been dealt with (R673). -/
  passed : Bool
  deriving DecidableEq, Repr

/-- A message of a channel to be sent (R635, R637): the channel, CMD, STATUS, DETAIL, TAG and body. -/
structure Message where
  channel : Nat
  cmd : Nat
  status : Nat
  detail : Nat
  tag : Nat
  body : List Byte
  deriving DecidableEq, Repr

/-- A command that Keeper has started and not answered (R640). -/
inductive Waiting where
  | table (channel tag : Nat)
  | package (channel tag : Nat)
  | molt (channel tag : Nat)
  | modReq (channel tag index : Nat)
  deriving DecidableEq, Repr

/-- TEN and ATT beside their page registers: the order that waits (R582), the digests of the last four full reports (R606), the
channel and TAG of the order. -/
structure TenState where
  deferred : Option (List Byte)
  /-- Who presented the order that waits or was taken last, as MOD_CAUSE2 names requesters (R93). -/
  orderWho : Nat
  reports : List (BitVec 384)
  /-- The Molt report (R608), empty where none is kept. -/
  moltReport : List Byte
  /-- The last report issued, as its route returned it. -/
  issued : List Byte
  /-- The tenant configuration that is applied (R578). -/
  applied : Option (List Byte)
  deriving DecidableEq, Repr

/-- EMC beside its page registers: the loaded key by what it depends on (R542: tenant, CTR_VAL5, CTR_VAL6 and the root), the key
under which the data region was written, and the key delivered over the fence link. -/
structure EmcState where
  key : Option (Nat × Nat × Nat × Nat)
  written : Option (Nat × Nat × Nat × Nat)
  delivered : Option (Nat × Nat × Nat × Nat)
  /-- The last training found a device whose density is one of the four. -/
  present : Bool
  /-- A scrub that VDDQ loss stopped starts again after retraining (R598). -/
  scrubOwed : Bool
  /-- MR4 reads and refreshes issued. -/
  refreshes : Nat
  deriving DecidableEq, Repr

/-- The answer of the last DOE object (R621 to R627). -/
inductive DoeReply where
  | none
  | error
  | discovery (vendor type next : Nat)
  | spdmError (code : Nat)
  | measurements (blocks : List (Nat × List Byte)) (nonce : List Byte)
  | keyExchange (id : Nat)
  | keyUpdate
  | endSession
  | certificate (chain : List (List Byte))
  | challenge (signature : List Byte)
  | vendor (code cause : Nat)
  | recovery (status code : Nat)
  deriving DecidableEq, Repr

/-- PCI and HBX beside their page registers (R616 to R644). -/
structure HostState where
  /-- The SPDM session's number, from which its secrets come, and whether the DOE Error bit is set. -/
  session : Nat
  doeError : Bool
  reply : DoeReply
  /-- The HBX keys are held (R627): K_H2D, IV_H2D, K_D2H, IV_D2H. -/
  hbxKeys : Option (List (List Byte))
  /-- An accepted set-up waits for the evaluation that enters Confidential Host. -/
  setUp : Bool
  expect : Nat
  next : Nat
  /-- Commands that wait on the host channel (R640): CMD, and the command. -/
  inbox : List (Nat × Cmd)
  /-- Messages that wait for a D2H buffer (R634). -/
  outbox : List Message
  /-- The last D2H write: the buffer's address, the ring entry and the ciphertext. -/
  wrote : Option (Word × List Byte × List Byte)
  /-- Commands started and not answered. -/
  waiting : List Waiting
  /-- The Keeper image that recovery has placed so far (R625). -/
  image : List Byte
  deriving DecidableEq, Repr

/-- A management session beside MGT_SESSn (R650, R652): its staging bytes up to the highest written, the last response, the
messages sent to it unasked. -/
structure MgtSession where
  staging : List Byte
  last : Option Message
  unasked : Option Message
  /-- The number of the session's traffic keys. -/
  keyNo : Nat
  deriving DecidableEq, Repr

/-- The four management sessions. -/
structure MgtSessions where
  s0 : MgtSession
  s1 : MgtSession
  s2 : MgtSession
  s3 : MgtSession
  deriving DecidableEq, Repr

/-- What MGT last put on the wire outside its sessions (R647, R648). -/
inductive MgtReply where
  | none | cookie | alert | advertisement | echo (data : List Byte)
  deriving DecidableEq, Repr

/-- The debug port (R654 to R674): the TAP's instruction, the result that the next Capture-DR loads, and the DP_ registers. -/
structure DebugState where
  ir : Nat
  result : Word
  nonce : Option (List Byte)
  token : List Word
  bps : List Word
  cstate : Nat
  cause : Nat
  deriving DecidableEq, Repr

/-- The window indexes of R135, one for each of the host, Keeper and the debug port. -/
structure Window where
  host : Nat
  keeper : Nat
  debug : Nat
  deriving DecidableEq, Repr

/-- The state of the 641. -/
structure State where
  /-- The commands that wait, first in, first out. -/
  pending : List Instr
  /-- The register file of the pages: the registers that differ from their reset image, by rising key. -/
  regs : List (Nat × Word)
  fuse : Fuses
  bat : Battery
  nvm : NvmStore
  wake : Wake
  icu : Icu
  mod : ModState
  /-- Holding copies of armed locked sequences (R138): page, and the writes made, in order. -/
  holds : List (Nat × List (Nat × Word))
  /-- Window indexes of CAR, CB1, DSE and KEY (R135). -/
  carWin : Window
  jobWin : Window
  callWin : Window
  keyWin : Window
  /-- LOG entries whose parity is upset: class, and whether the second read fails too (R210). -/
  logUpsets : List (Nat × Bool)
  bar : Barrier
  cpc : Carapace
  car : CarState
  dor0 : DoorState
  dor1 : DoorState
  cb0 : CanState
  cb1 : CanState
  tsy : TsyState
  grp : GrpState
  dse : DseState
  key : KeyState
  lva : LvaState
  core : CoreState
  ten : TenState
  emc : EmcState
  host : HostState
  /-- The four management sessions, and what MGT last sent outside them. -/
  mgt : MgtSessions
  mgtReply : MgtReply
  dbg : DebugState
  /-- The memories of R42 and R501 by address: the bytes that differ from what an unlisted address reads as (`memDefault`). -/
  mem : List (Nat × Byte)
  /-- What an unlisted byte of external memory reads as: 0 after a scrub, else the fill of this number (log entry 5). -/
  memFill : Nat
  /-- The data that the last read carried by a command returned to its reader (RXPOP, ICU_CLAIM, HBX_CLAIM, REG_READ). -/
  readOut : Word
  /-- How many free values have been drawn (the model's own counter, log entry 2). -/
  freeCount : Nat
  /-- Microseconds of idle time within the current second (the model's own counter, log entry 1). -/
  tick : Nat
  deriving DecidableEq, Repr

def InFrame.zero : InFrame :=
  { seq := 0, retry := false, watching := false, vfldOk := false, fault := false, tsd := false, ilim := false,
    dropped := false, sweep := false, temp := 0, inputs := 0, edges := 0, applied := 0, inhibited := 0, vfldMv := 0,
    qerr := 0, povf := 0, counters := [0, 0, 0, 0], gather := [], waiting := 0,
    committed := 0, squashed := 0, accepted := 0, permit := 0, lastTag := 0, armed := false, refusing := false,
    trip := false, tripCause := 0, tripRule := 0, tableOk := false, loadDone := false, loadFail := false,
    lostInc := 0, armIncomplete := false }

def OutFrame.zero : OutFrame :=
  { seq := 0, retry := false, watch := false, offAll := false, setValue := 0, setMask := 0, uninhibit := 0,
    fcntReset := 0, sweepChannel := 0, sweepAction := 0, sweepAllOff := false, inhibit := 0, gather := [], stages := [],
    squash := none, release := none, gate := .none, chunk := none }

def Fuses.factory : Fuses :=
  { fuseP := false, fuseD := false, fuseRt := false, serial := 0, keeperFloor := 0, tmpFloor := 0x245100,
    bscan := false, dproto := false }

/-! ## What a power-on reset leaves in each block (R170) -/

/-- The battery domain as shipped: no root, no Lock. -/
def Battery.fresh : Battery :=
  { zeroized := false, tenancy := 0, moltTarget := 0, molting := false, lock := false, inHold := 0, opRoot := none, lastResort := 0,
    maskNo := 0, rootFailing := [] }

def NvmStore.empty : NvmStore :=
  { site := [], table := none, config0 := none, config1 := none, applets := [], moltOrder := [],
    mgtConfig := [], keeperVersion := 0, keeperValid := true, keeperImage := none, badWords := [] }

/-- In power-on reset (R165). -/
def Wake.held : Wake :=
  { watch := false, recorded := [], waking := false, starter := none, bootPending := false, applets := none, pllStarted := false,
    timerArmed := false, inReset := true, mgtUp := false, ddrResetN := false, rstoutN := false }

def Icu.fresh : Icu :=
  { queue := [], arriving := [], pend0 := 0, pend1 := 0, insv0 := 0, insv1 := 0, rel0 := 0, rel1 := 0, line1 := false,
    msixEnabled := false, msixMasked := false, msixPending := false, msixSent := 0 }

/-- Position Lost, base mode Out of Service, no key delivered, depth Off (R86, R101, R176). -/
def ModState.initial : ModState :=
  { base := .outOfService, baseCause := 0, baseWho := 0, inputs := List.replicate 8 ⟨false, 0, false⟩, positionLost := true,
    lostCause := 0x19, parked := false, keysAbsent := true, lockKeys := false, who := List.replicate 11 0, held := [], fresh := [], calls := [],
    spec := 0, rank := 0, groupMajority := false }

def Barrier.fresh : Barrier :=
  { setValue := 0, setMask := 0, uninhibit := 0, fcntReset := 0, stages := [], squash := none, release := none, gateQ := [],
    chunks := [], offAll := false, watch := false, out := OutFrame.zero, outFails := 0, inFails := 0, sent := [],
    due := [], rise := none, fall := none, shadow := List.replicate 8 none, cmd := 0, shadowArmed := false, disarming := false,
    gather := [], counters := [0, 0, 0, 0], unitAge := [0, 0, 0, 0], sweep := none, sweepQ := [], inhibit := 0, testFault := false, vfldMv := 0,
    lastInSeq := none, load := none, watchGap := false, watchLink := ⟨0, 0, 0, none⟩ }

/-- The reset images of the 53 field configuration registers, in the order of R269. -/
def fieldConfigReset : List Word :=
  (0x28 : Word) :: (List.replicate 32 (0x200 : Word) ++ List.replicate 4 (0x3e80000 : Word) ++ List.replicate 16 (0 : Word))

/-- A counter unit after a Carapace reset (R280). -/
def CUnit.fresh : CUnit := { value := 0, gateEdges := 0, gateScans := 0, since := 0, timing := false, povf := false, qerr := false, illegal := 0 }

/-- A Carapace without power. -/
def Carapace.dark : Carapace :=
  { viso := false, driven := false, fieldWatch := false, raw := 0, filt := 0, filtCount := List.replicate 32 0
    changedAt := List.replicate 32 0, edges := 0, watchEdges := 0, fastRaw := 0, fast := 0, fastCount := List.replicate 4 0
    config := fieldConfigReset, units := List.replicate 4 CUnit.fresh
    cmd := 0, applied := 0, inhibit := 0, tsd := 0, ilim := 0, lowPads := 0, faults := 0, vfldOk := false, vfldMv := 0
    temp := 0, tempTenth := 0, table := none, digest := 0, tableOk := false, loadBuf := [], tripCause := 0, tripRule := 0
    armed := false, refusing := false, armIncomplete := false, dropped := false, digestWords := [none, none, none]
    slots := List.replicate 8 none, lastTag := 0, permit := 0, committedPrev := false, scans := 0, micros := 0, drops := 0
    lastOutSeq := none, heardOut := false, inSeq := 0, hold := 0, holdAction := 0, heldOff := 0, report := InFrame.zero
    inFlight := InFrame.zero, repeatIn := false, watchVfld := false, watchStates := 0
    watchRepeat := false }

def CarState.fresh : CarState := { frame := 0, history := [], afterLasting := false, inputs := 0, away := false }

def DoorState.fresh : DoorState :=
  { dwell := 0, dwellRunning := false, dwellHeld := false, hallServed := false, afterReopen := false, ask := 0
    confirming := false, openSent := false, flags := 0, openBtn := false, closeBtn := false, curtainIn := false
    holdIn := false, opCurtain := false, opSeq := 0, heldDue := false }

def CanState.fresh : CanState :=
  { bufs := List.replicate 8 none, queue := [], refs := [], group := [], fifo := [], stageHead := 0
    stageData := List.replicate 8 0, keys := [], timeKey := none, groupKey := none, recent := [], payloads := []
    nbtNext := none, dbtNext := none, search := none, recovering := false, later := [], onBus := none, lastRef := none }

def TsyState.fresh : TsyState :=
  { accepted := false, bare := 0, hit := false, stepTo := none, stepped := false, sleptAt := 0, wakeMisses := none
    searchCycles := 0, timerWake := false, floorAt := 0 }

def GrpState.fresh : GrpState := { digests := List.replicate 16 none, bids := [], rebid := false }

def DseState.fresh : DseState :=
  { intake := [], microcode := false, due := false, causes := [], planned := [], gone := [], target := none
    doorOwed := false, runOn := false, brakeOn := false, acks := [], seqs := [], upward := false, permitPrev := 0
    owe := false, depth := 0, passes := 0, staged := 0, squashed := 0, discarded := 0, modelRuns := 0, valid0 := false
    valid1 := false, pkgKey := none, pkgDigest := 0 }

def LvaState.fresh : LvaState := { queue := [], running := none, ticks := List.replicate 8 0, given := 0, mail := [] }

/-- The core at the ROM's first instruction (R497); the x registers have no stated reset value (log entry 7). -/
def CoreState.fresh : CoreState :=
  { x := List.replicate 16 0, pc := 0x30000000, idle := false, held := false, nvm := none, passed := false }

def TenState.fresh : TenState := { deferred := none, orderWho := 5, reports := [], moltReport := [], issued := [], applied := none }

def EmcState.fresh : EmcState :=
  { key := none, written := none, delivered := none, present := false, scrubOwed := false, refreshes := 0 }

def HostState.fresh : HostState :=
  { session := 0, doeError := false, reply := .none, hbxKeys := none, setUp := false, expect := 0, next := 0, inbox := []
    outbox := [], wrote := none, waiting := [], image := [] }

def MgtSession.fresh : MgtSession := { staging := [], last := none, unasked := none, keyNo := 0 }

def DebugState.fresh : DebugState :=
  { ir := 1, result := 0, nonce := none, token := List.replicate 20 0, bps := List.replicate 4 0, cstate := 0, cause := 0 }

def Window.zero : Window := { host := 0, keeper := 0, debug := 0 }

/-- The 641 in the power-on reset that its first supply ramp starts (R165, R170): a factory module in life-cycle Blank, every
register at its Reset value, RST_CAUSE showing power-on with source ramp, TMP_LEVEL at the floors (log entry 7). -/
def State.reset : State :=
  { pending := [], regs := [(0x300080, 0x101), (0x3300080, 0x245100)], fuse := Fuses.factory, bat := Battery.fresh
    nvm := NvmStore.empty, wake := Wake.held, icu := Icu.fresh, mod := ModState.initial, holds := [], carWin := Window.zero
    jobWin := Window.zero, callWin := Window.zero, keyWin := Window.zero, logUpsets := [], bar := Barrier.fresh
    cpc := Carapace.dark, car := CarState.fresh, dor0 := DoorState.fresh, dor1 := DoorState.fresh, cb0 := CanState.fresh
    cb1 := CanState.fresh, tsy := TsyState.fresh, grp := GrpState.fresh, dse := DseState.fresh
    key := { slots := [], handles := [], eph := List.replicate 32 none }, lva := LvaState.fresh, core := CoreState.fresh
    ten := TenState.fresh, emc := EmcState.fresh, host := HostState.fresh, mgt := ⟨.fresh, .fresh, .fresh, .fresh⟩
    mgtReply := .none, dbg := DebugState.fresh, mem := [], memFill := 1, readOut := 0, freeCount := 0, tick := 0 }

end Sys2Proof.Machine
end

