-- ==== Sys2Proof/Machine/Ops.lean ====
section
/-!
DEFINITION. Sys2Proof/Machine/Ops.lean: the named operations over the register file that every meaning uses: reading and
writing a field, counting with saturation, drawing a free value.
-/
namespace Sys2Proof.Machine
open Sys2Proof

/-- The image of a register. -/
def State.word (s : State) (key : Nat) : Word := cellGet resetWord s.regs key

/-- Sets the image of a register. -/
def State.setWord (s : State) (key : Nat) (v : Word) : State := { s with regs := cellPut resetWord key v s.regs }

/-- Reads a field. -/
def State.g (s : State) (f : Fld) : Nat := fld (s.word f.key).toNat f.lo f.w

/-- Whether a field is not zero. -/
def State.b (s : State) (f : Fld) : Bool := s.g f != 0

/-- Writes a field with the low bits of a number; every other bit of the register keeps its value. -/
def State.p (s : State) (f : Fld) (v : Nat) : State := s.setWord f.key (setBits (s.word f.key) f.lo f.w v)

/-- Writes a one-bit field. -/
def State.pb (s : State) (f : Fld) (v : Bool) : State := s.p f (b2n v)

/-- Adds to a field, which stops at all ones (R131, R206). -/
def State.addSat (s : State) (f : Fld) (n : Nat) : State := s.p f (satTo f.w (s.g f + n))

/-- Adds one to a field, which stops at all ones. -/
def State.bump (s : State) (f : Fld) : State := s.addSat f 1

/-- Adds one to a field, which wraps. -/
def State.wrapInc (s : State) (f : Fld) : State := s.p f (s.g f + 1)

/-- Draws a value the manual leaves open: a fresh one each time (log entry 2). -/
def State.draw (s : State) : Word × State := (Config.freeValue s.freeCount, { s with freeCount := s.freeCount + 1 })

/-- The lift mode of MOD_CUR. -/
def State.lift (s : State) : LiftMode := .ofCode (s.g F.MOD_CUR_LIFT)
def State.power (s : State) : Power := .ofCode (s.g F.MOD_CUR_POWER)
def State.life (s : State) : LifeCycle := .ofCode (s.g F.MOD_CUR_LIFECYCLE)
def State.tenancy (s : State) : Tenancy := .ofCode (s.g F.MOD_CUR_TENANCY)
def State.group (s : State) : GroupRole := .ofCode (s.g F.MOD_CUR_GROUP)
/-- The mode of controller CB0 or CB1. -/
def State.bus (s : State) (n : Nat) : BusMode := .ofCode (s.g (if n = 0 then F.MOD_CUR_CB0 else F.MOD_CUR_CB1))
def State.timeRole (s : State) : TimeRole := .ofCode (s.g F.MOD_CUR_TIME)
def State.attach (s : State) : Attach := .ofCode (s.g F.MOD_CUR_HOST)
def State.debug (s : State) : DebugScope := .ofCode (s.g F.MOD_CUR_DEBUG)
def State.zeroized (s : State) : Bool := s.b F.MOD_CUR_ZEROIZED

end Sys2Proof.Machine
end

