-- ==== Sys2Proof/Machine/Flags.lean ====
section
/-!
DEFINITION. Sys2Proof/Machine/Flags.lean: what an occurrence leaves behind: the EVT bit and its doorbell (R130, R220 to
R222), the TROUBLE fields (R131), the LOG classes with their parity and self-failure record (R205 to R213).
-/
namespace Sys2Proof.Machine
open Sys2Proof

/-- The life-cycle as the fuses read (R545), and whether it fixes the lift (R97). -/
def Fuses.life (f : Fuses) : LifeCycle :=
  if f.fuseRt then .returned else if f.fuseP && f.fuseD then .deployed else if f.fuseP then .provisioned else .blank
def LifeCycle.dead (l : LifeCycle) : Bool := l == .blank || l == .returned

/-- The interrupt source that an EVT bit posts; 0 where the chapters assign none (R223, R224 and the EVT tables). -/
def evtSource (page bit : Nat) : Nat :=
  match page with
  | 0x00 => if bit = 0 then 8 else 0
  | 0x01 => if bit = 0 then 12 else 0
  | 0x02 => if bit < 3 then 13 + bit else 0
  | 0x03 => if bit < 2 then 16 + bit else 0
  | 0x04 => if bit = 0 then 19 else if bit = 1 then 18 else 0
  | 0x05 => if bit = 0 then 1 else 0
  | 0x06 => if bit = 0 then 2 else 0
  | 0x07 => if bit < 4 then 20 + bit else 0
  | 0x08 => if bit = 0 then 11 else if bit = 1 then 10 else if bit = 2 then 9 else 0
  | 0x10 => if bit < 3 then 128 + bit else 0
  | 0x11 => if bit < 4 then 144 + bit else 0
  | 0x12 => if bit < 5 then 160 + bit else 0
  | 0x13 => if bit < 8 then 176 + bit else 0
  | 0x14 => if bit = 0 then 511 else if bit < 4 then 447 + bit else 0
  | 0x15 => if bit < 5 then 480 + bit else 0
  | 0x18 => if bit < 8 then 192 + bit else 0
  | 0x19 => if bit < 8 then 224 + bit else 0
  | 0x1a => if bit < 8 then 240 + bit else 0
  | 0x1b => if bit < 6 then 256 + bit else 0
  | 0x1c => if bit < 2 then 304 + bit else 0
  | 0x20 => if bit < 18 then 32 + bit else 0
  | 0x21 => if bit < 18 then 64 + bit else 0
  | 0x22 => if bit < 7 then 96 + bit else 0
  | 0x23 => if bit < 7 then 112 + bit else 0
  | 0x28 => if bit < 4 then 320 + bit else 0
  | 0x29 => if bit < 5 then 336 + bit else 0
  | 0x2a => if bit < 3 then 352 + bit else 0
  | 0x2b => if bit < 4 then 368 + bit else 0
  | 0x30 => if bit = 0 then 384 else 0
  | 0x31 => if bit < 4 then 400 + bit else 0
  | 0x32 => if bit < 2 then 416 + bit else 0
  | 0x33 => if bit < 11 then 500 + bit else if 16 ≤ bit && bit < 20 then 480 + bit else 0
  | 0x34 => if bit < 4 then 424 + bit else 0
  | 0x35 => if bit < 3 then 432 + bit else 0
  | 0x36 => if bit < 3 then 440 + bit else 0
  | _ => 0

/-- The source numbers that some chapter assigns (R223); every other number is reserved (R225). -/
def sourceAssigned (n : Nat) : Bool :=
  n == 1 || n == 2 || n == 3 || (8 ≤ n && n ≤ 23) || (32 ≤ n && n ≤ 49) || (64 ≤ n && n ≤ 81) ||
  (96 ≤ n && n ≤ 102) || (112 ≤ n && n ≤ 118) || (128 ≤ n && n ≤ 130) || (144 ≤ n && n ≤ 147) ||
  (160 ≤ n && n ≤ 164) || (176 ≤ n && n ≤ 183) || (192 ≤ n && n ≤ 199) || (224 ≤ n && n ≤ 231) ||
  (240 ≤ n && n ≤ 247) || (256 ≤ n && n ≤ 261) || n == 304 || n == 305 || (320 ≤ n && n ≤ 323) ||
  (336 ≤ n && n ≤ 340) || (352 ≤ n && n ≤ 354) || (368 ≤ n && n ≤ 371) || n == 384 || (400 ≤ n && n ≤ 403) ||
  n == 416 || n == 417 || (424 ≤ n && n ≤ 427) || (432 ≤ n && n ≤ 434) || (440 ≤ n && n ≤ 442) ||
  (448 ≤ n && n ≤ 450) || (480 ≤ n && n ≤ 484) || (496 ≤ n && n ≤ 511)

/-- Raises a doorbell; it reaches the intake queue when the command's effect is complete (R219, R220). -/
def State.post (s : State) (src : Nat) : State :=
  if src = 0 then s else { s with icu := { s.icu with arriving := src :: s.icu.arriving } }

/-- Sets an EVT bit, and posts its doorbell when the bit rises while its EVTEN bit is 1 (R130). -/
def State.evt (s : State) (page bit : Nat) : State :=
  let f := (hdrEvt page).bit bit
  if s.b f then s
  else
    let s' := s.p f 1
    if s.b ((hdrEvten page).bit bit) then s'.post (evtSource page bit) else s'

/-- Sets an EVT bit when a condition holds. -/
def State.evtIf (s : State) (c : Bool) (page bit : Nat) : State := if c then s.evt page bit else s

/-- Adds one to LOG_SELF.COUNT, latches SELF_FAIL and sends one to the last-resort byte, or holds it in PENDING while the
fence link is down (R212, R213). A 256th held increment is dropped and counted in LOG_TROUBLE.LOST. -/
def State.selfFail (s : State) : State :=
  let s1 := (s.bump F.LOG_SELF_COUNT)
  let s2 := if s1.b F.LOG_STAT_SELF_FAIL then s1 else (s1.p F.LOG_STAT_SELF_FAIL 1).evt 4 0
  if s2.b F.SYS_STAT_FENCE_UP then
    let n := satTo 8 (s2.bat.lastResort + 1)
    { s2 with bat := { s2.bat with lastResort := n } }.p F.LOG_SELF_BBRAM n
  else if s2.g F.LOG_SELF_PENDING < 255 then s2.p F.LOG_SELF_PENDING (s2.g F.LOG_SELF_PENDING + 1)
  else s2.bump (hdrTrouble 4 3)

/-- Marks a LOG class bad after a lasting parity failure (R211). -/
def State.classBad (s : State) (c : Nat) : State :=
  (((s.p ((⟨F.LOG_BAD_BAD.key, c, 1⟩ : Fld)) 1).p (F.LOG_CLASS_COUNT c) 0xffffffff).bump (hdrTrouble 4 1)).selfFail

/-- The parity check of one read of a class entry (R210): whether the entry can be used, and what the check leaves. -/
def State.classRead (s : State) (c : Nat) : Bool × State :=
  match s.logUpsets.find? (fun u => u.1 == c) with
  | none => (true, s)
  | some u =>
    let s1 := { s with logUpsets := s.logUpsets.filter (fun v => v.1 != c) }
    if u.2 then (false, s1.classBad c) else (true, s1.bump (hdrTrouble 4 0))

/-- Whether a class is marked bad. -/
def State.isBadClass (s : State) (c : Nat) : Bool := s.b ⟨F.LOG_BAD_BAD.key, c, 1⟩

/-- Adds to one class entry that is readable and not bad (R206, R208). -/
def State.classAdd (s : State) (c n : Nat) : State :=
  let old := s.g (F.LOG_CLASS_COUNT c)
  let s1 := s.addSat (F.LOG_CLASS_COUNT c) n
  if old < 0xffffffff && 0xffffffff ≤ old + n then ((s1.p ⟨F.LOG_SAT_SAT.key, c, 1⟩ 1).evt 4 1) else s1

/-- An increment that its class cannot take is counted in LOG_TROUBLE.LOST (R211). -/
def State.logLost (s : State) : State := s.bump (hdrTrouble 4 3)

/-- How many LOST increments of LOG a failing class entry makes now by itself: one where PENDING cannot take its last-resort
increment (R213). -/
def State.selfDrops (s : State) : Nat := b2n (!s.b F.SYS_STAT_FENCE_UP && decide (255 ≤ s.g F.LOG_SELF_PENDING))

/-- One increment of a class, with the number of LOST increments of LOG that it makes. -/
def State.classIncRaw (s : State) (c : Nat) : Nat × State :=
  if s.isBadClass c then (1, s.logLost)
  else
    let r := s.classRead c
    if r.1 then (0, r.2.classAdd c 1) else (1 + s.selfDrops, r.2.logLost)

/-- Class 63 counts LOST increments of the LOG page, which no class names (R206). -/
def State.class63 (s : State) (n : Nat) : State := (List.range n).foldl (fun (x : State) _ => (x.classIncRaw 63).2) s

/-- A counted occurrence adds one to its LOG class (R206). An increment that is lost is a LOST increment of the LOG page, which
no class names, so class 63 counts it; a lost increment of class 63 itself is not counted again (log entry 6). -/
def State.classInc (s : State) (c : Nat) : State :=
  let r := s.classIncRaw c
  if c = 63 then r.2 else r.2.class63 r.1

/-- A read of a class entry that is no increment: an accessor's, or the read half of a clear (R210). -/
def State.classCheck (s : State) (c : Nat) : Bool × State :=
  let r := s.classRead c
  (r.1, if r.1 then r.2 else r.2.class63 s.selfDrops)

/-- Counts a LOST of a page, and the LOG class that names it (63 where none does, R206). ICU_TROUBLE.LOST counts lost doorbells only
(R253), so any other drop on that page is counted in a class of its own or not at all (log entry 160). -/
def State.lost (s : State) (page cls : Nat) : State :=
  if page = 5 then (if cls = 63 then s else s.classInc cls) else (s.bump (hdrTrouble page 3)).classInc cls

/-- Counts a transient outcome of a page's operation, and its class (R192, R195). -/
def State.transient (s : State) (page cls : Nat) : State := (s.bump (hdrTrouble page 0)).classInc cls

/-- Counts a lasting outcome of a page's operation, and its class (R192, R195). -/
def State.lasting (s : State) (page cls : Nat) : State := (s.bump (hdrTrouble page 1)).classInc cls

/-- A landing entry takes part (R339). -/
def State.landValid (s : State) (i : Nat) : Bool := s.b (F.CAR_LFLAGS_VALID i)

/-- The landing that the current lift mode names does not count (R89): what DSE_STAT.NOLAND reads. -/
def State.noLand (s : State) : Bool :=
  match s.lift with
  | .recall1 => !s.landValid (s.g F.MOD_CFG_RECALL_LANDING)
  | .evacuation => !s.landValid (s.g F.MOD_CFG_EVAC_LANDING)
  | _ => false

/-- Counts an access that the map withholds (R143): nothing else records it. -/
def State.violation (s : State) (page : Nat) : State := s.bump (hdrTrouble page 2)

end Sys2Proof.Machine
end

