-- ==== Sys2Proof/Machine/Icu.lean ====
section
/-!
DEFINITION. Sys2Proof/Machine/Icu.lean: doorbells, routing, coalescing groups, claims and completes, the T1 gate and the MSI-X
message, and what Firefly notices in Watch (R218 to R250).
-/
namespace Sys2Proof.Machine
open Sys2Proof

/-- The routing byte of a source (R226). -/
def State.route (s : State) (src : Nat) : Nat := fld (s.word (F.ICU_SRCCFG_BYTES (src / 8)).key).toNat (8 * (src % 8)) 8

/-- The coalescing group of a source at a target: groups 0 to 7 serve T0, 8 to 15 serve T1 (R226). -/
def State.groupOf (s : State) (t1 : Bool) (src : Nat) : Nat :=
  if t1 then 8 + fld (s.route src) 4 3 else fld (s.route src) 0 3

/-- Whether a source is enabled at a target (R226). -/
def State.enabledAt (s : State) (t1 : Bool) (src : Nat) : Bool := (s.route src).testBit (if t1 then 7 else 3)

/-- A set of sources with one added, removed. -/
def srcAdd (x : BitVec 512) (n : Nat) : BitVec 512 := x ||| BitVec.ofNat 512 (2 ^ n)
def srcDel (x : BitVec 512) (n : Nat) : BitVec 512 := x &&& ~~~(BitVec.ofNat 512 (2 ^ n))
def srcHas (x : BitVec 512) (n : Nat) : Bool := x.toNat.testBit n

/-- Pending, released and in-service sets of a target. -/
def Icu.pend (i : Icu) (t1 : Bool) : BitVec 512 := if t1 then i.pend1 else i.pend0
def Icu.rel (i : Icu) (t1 : Bool) : BitVec 512 := if t1 then i.rel1 else i.rel0
def Icu.insv (i : Icu) (t1 : Bool) : BitVec 512 := if t1 then i.insv1 else i.insv0
def Icu.setPend (i : Icu) (t1 : Bool) (x : BitVec 512) : Icu := if t1 then { i with pend1 := x } else { i with pend0 := x }
def Icu.setRel (i : Icu) (t1 : Bool) (x : BitVec 512) : Icu := if t1 then { i with rel1 := x } else { i with rel0 := x }
def Icu.setInsv (i : Icu) (t1 : Bool) (x : BitVec 512) : Icu := if t1 then { i with insv1 := x } else { i with insv0 := x }

/-- The sources that the T1 gate delivers (R237): none, all, or 320 to 335. -/
def gateMask (gate : Nat) : BitVec 512 :=
  if gate = 1 then BitVec.allOnes 512 else if gate = 2 then BitVec.ofNat 512 (0xffff * 2 ^ 320) else 0

/-- The sources pending, released and not in service that count for a target's request line (R230, R237). -/
def State.claimable (s : State) (t1 : Bool) : BitVec 512 :=
  let x := s.icu.pend t1 &&& s.icu.rel t1 &&& ~~~(s.icu.insv t1)
  if t1 then x &&& gateMask (s.g F.ICU_STAT_T1GATE) else x

/-- A target's request line (R230). -/
def State.requestLine (s : State) (t1 : Bool) : Bool := s.claimable t1 != 0

/-- The highest source of a set, 0 when it is empty. -/
def highest (x : BitVec 512) : Nat := if x = 0 then 0 else Nat.log2 x.toNat

/-- The number a claim at a target would return (R231, R232). -/
def State.claimPeek (s : State) (t1 : Bool) : Nat := highest (s.claimable t1)

/-- The number a claim on the HBX page would return: the highest of sources 320 to 335, whatever the gate (R653, HBX_CLAIM). -/
def State.hbxPeek (s : State) : Nat := highest (s.claimable true &&& gateMask 2)

/-- A claim of one source at a target (R231). -/
def State.claimSrc (s : State) (t1 : Bool) (n : Nat) : State :=
  if n = 0 then s
  else
    let i1 := (s.icu.setPend t1 (srcDel (s.icu.pend t1) n)).setRel t1 (srcDel (s.icu.rel t1) n)
    { s with icu := i1.setInsv t1 (srcAdd (s.icu.insv t1) n) }

/-- The ICU sends the message of vector 0, unless MSI-X is disabled or the vector is masked (R241). -/
def State.msixSend (s : State) : State :=
  if !s.icu.msixEnabled then s
  else if s.icu.msixMasked then { s with icu := { s.icu with msixPending := true } }
  else { s with icu := { s.icu with msixSent := s.icu.msixSent + 1 } }

/-- A complete at a target (R233); a T1 complete that leaves the line asserted sends another message (R241). -/
def State.completeSrc (s : State) (t1 : Bool) (n : Nat) : State :=
  if srcHas (s.icu.insv t1) n then
    let s1 := { s with icu := s.icu.setInsv t1 (srcDel (s.icu.insv t1) n) }
    if t1 && s.icu.line1 && s1.requestLine true then s1.msixSend else s1
  else s

/-- A group fires: every source held in it becomes released, the count returns to 0 and the timer stops (R228). -/
def State.fireGroup (s : State) (grp : Nat) : State :=
  let t1 := decide (8 ≤ grp)
  let held := s.icu.pend t1 &&& ~~~(s.icu.rel t1)
  let mine := (bitsBelow 512 held.toNat).filter (fun n => s.groupOf t1 n == grp)
  let s1 := { s with icu := s.icu.setRel t1 (mine.foldl srcAdd (s.icu.rel t1)) }
  (((s1.p (F.ICU_GSTAT_COUNT grp) 0).p (F.ICU_GSTAT_ELAPSED grp) 0).p (F.ICU_GSTAT_RUNNING grp) 0).bump
    (F.ICU_GSTAT_FIRES grp)

/-- The thresholds of a group, where 0 acts as 1 (R252). -/
def State.groupCount (s : State) (grp : Nat) : Nat := max 1 (s.g (F.ICU_GCFG_COUNT grp))
def State.groupTime (s : State) (grp : Nat) : Nat := max 1 (s.g (F.ICU_GCFG_TIME grp))

/-- A source becomes held in its group: the count rises, the timer starts when it rises from 0, and the group fires when
the count reaches its threshold (R227, R228). -/
def State.holdIn (s : State) (grp : Nat) : State :=
  let c := s.g (F.ICU_GSTAT_COUNT grp)
  let s1 := if c = 0 then ((s.p (F.ICU_GSTAT_RUNNING grp) 1).p (F.ICU_GSTAT_ELAPSED grp) 0) else s
  let s2 := s1.addSat (F.ICU_GSTAT_COUNT grp) 1
  if s.groupCount grp ≤ c + 1 then s2.fireGroup grp else s2

/-- A doorbell takes effect at one target (R222, R227, R229). -/
def State.pendAt (s : State) (t1 : Bool) (n : Nat) : State :=
  if s.enabledAt t1 n && !srcHas (s.icu.pend t1) n then
    let s1 := { s with icu := s.icu.setPend t1 (srcAdd (s.icu.pend t1) n) }
    if 496 ≤ n then { s1 with icu := s1.icu.setRel t1 (srcAdd (s1.icu.rel t1) n) }
    else
      let s2 := { s1 with icu := s1.icu.setRel t1 (srcDel (s1.icu.rel t1) n) }
      s2.holdIn (s2.groupOf t1 n)
  else s

/-- A doorbell sets the source's pending bits; a reserved number is never pending (R225, R227). -/
def State.setPending (s : State) (n : Nat) : State := if sourceAssigned n then (s.pendAt false n).pendAt true n else s

/-- Whether a source can wake the 641 (R245), with PWR_WATCH taken into account. -/
def State.wakeable (s : State) (n : Nat) : Bool :=
  n == 3 || n == 13 || n == 14 || (n == 32 && s.b F.PWR_WATCH_CB0_WUP) || (n == 64 && s.b F.PWR_WATCH_CB1_WUP) ||
  (144 ≤ n && n ≤ 159)

/-- Whether an enabled Firefly slot names a wakeable source (R245, R246). -/
def State.watched (s : State) (n : Nat) : Bool :=
  s.wakeable n && (List.range 16).any (fun i => s.b (F.FFY_SLOT_EN i) && s.g (F.FFY_SLOT_SRC i) == n)

/-- FFY_STAT.ARMED: at least one slot can wake the 641 (R245). -/
def State.ffyArmed (s : State) : Bool :=
  (List.range 16).any (fun i => s.b (F.FFY_SLOT_EN i) && s.wakeable (s.g (F.FFY_SLOT_SRC i)))

/-- A source becomes pending in Watch: a watched one is recorded and, where none has yet, starts the wake; any other is discarded without
count (R163, R246, R247). -/
def State.ffyNotice (s : State) (n : Nat) : State :=
  if s.watched n then
    { s with wake := { s.wake with
        recorded := if s.wake.recorded.contains n then s.wake.recorded else s.wake.recorded ++ [n]
        starter := if s.wake.waking then s.wake.starter else some n
        waking := true, pllStarted := true } }
  else s

/-- A doorbell would change nothing: its source is pending already at every target that enables it (R222). -/
def State.idleDoorbell (s : State) (n : Nat) : Bool :=
  (!s.enabledAt false n || srcHas s.icu.pend0 n) && (!s.enabledAt true n || srcHas s.icu.pend1 n)

/-- One doorbell reaches the ICU: the sources of R221 set their pending bits at once, any other enters the intake queue or is
lost (R220), unless it would change nothing, which nothing counts (R222); in Watch the ICU is clock-gated and Firefly alone sees
it (R247). -/
def State.enqueue (s : State) (n : Nat) : State :=
  if s.wake.watch then s.ffyNotice n
  else if n ≤ 3 || 496 ≤ n then s.setPending n
  else if s.icu.queue.length < 32 then { s with icu := { s.icu with queue := s.icu.queue ++ [n] } }
  else if s.idleDoorbell n then s
  else (((s.bump (hdrTrouble 5 3)).classInc 45).p F.ICU_LOSTSRC_SRC n).evt 5 0

/-- Inserts a number into a descending list. -/
def insertDesc (n : Nat) : List Nat → List Nat
  | [] => [n]
  | a :: t => if a < n then n :: a :: t else a :: insertDesc n t

/-- The doorbells of one command enter in descending source number (R220). A lost doorbell raises sources of its own (ICU_LOST, LOG's),
which the next round delivers; each of their EVT bits rises once, so no round after the third has any. -/
def State.flush : Nat → State → State
  | 0, s => { s with icu := { s.icu with arriving := [] } }
  | fuel + 1, s =>
    match s.icu.arriving with
    | [] => s
    | l => State.flush fuel ((l.foldr insertDesc []).foldl State.enqueue { s with icu := { s.icu with arriving := [] } })

/-- The T1 request line follows the pending sources, and its rise sends the MSI-X message (R230, R241). -/
def State.followLine (s : State) : State :=
  let up := s.requestLine true
  let s1 := { s with icu := { s.icu with line1 := up } }
  if up && !s.icu.line1 then s1.msixSend else s1

/-- Number of the T1 gate for the host attachment, tenancy and PLAIN_ALLOWED (R237). -/
def State.gateFor (s : State) : Nat :=
  if s.attach = .confidential && s.tenancy ≠ .molting then 2
  else if s.attach = .plain && s.b F.MOD_CFG_PLAIN_ALLOWED && s.tenancy ≠ .molting then 1
  else 0

/-- The T1 gate changes, and sources it no longer delivers lose their T1 in-service bits (R239). -/
def State.regate (s : State) : State :=
  let gate := s.gateFor
  let s1 := s.p F.ICU_STAT_T1GATE gate
  if gate = s.g F.ICU_STAT_T1GATE then s1
  else { s1 with icu := { s1.icu with insv1 := s1.icu.insv1 &&& gateMask gate } }

/-- MOD_CFG.PLAIN_ALLOWED takes a value, and the T1 gate follows (R237). -/
def State.plainAllow (s : State) (v : Nat) : State := (s.p F.MOD_CFG_PLAIN_ALLOWED v).regate

/-- What closes every command: its doorbells reach the ICU after the state that caused them is readable (R219), and the T1 request
line follows. -/
def State.settle (s : State) : State := (State.flush 3 s).followLine

/-! ## The commands -/

/-- The oldest doorbell of the intake queue takes effect (R220). -/
def effDoorbellDrain (s : State) : State :=
  if s.wake.watch then s
  else
    match s.icu.queue with
    | [] => s
    | n :: rest => ({ s with icu := { s.icu with queue := rest } }.setPending n)

/-- A group's timer reaches TIME (R228); 0 acts as 1. -/
def effGroupTimerExpiry (grp : Nat) (s : State) : State :=
  if s.wake.watch then s
  else if s.b (F.ICU_GSTAT_RUNNING grp) && decide (s.groupTime grp ≤ s.g (F.ICU_GSTAT_ELAPSED grp)) then s.fireGroup grp
  else s

/-- The host changes MSI-X Enable and the Mask bit of vector 0, which lie in its configuration space and in BAR2 (R241, R616; log
entry 60): a withheld message is sent on unmask if the line is still asserted; while the vector stays masked it stays pending. -/
def effMsixUnmask (enabled masked : Bool) (s : State) : State :=
  let s1 := { s with icu := { s.icu with
      msixMasked := masked, msixEnabled := enabled, msixPending := s.icu.msixPending && masked } }
  if s.icu.msixPending && !masked && s1.requestLine true then s1.msixSend else s1

/-- A granted write of the routing bytes of eight sources: `t0` says whether the writer is Keeper, who writes the T0 fields
(R225, R235, R240). -/
def State.writeSrccfg (s : State) (k : Nat) (t0 : Bool) (v : Nat) : State :=
  (List.range 8).foldl (fun st j =>
    let n := 8 * k + j
    if !sourceAssigned n then st
    else
      let old := st.route n
      let new8 := fld v (8 * j) 8
      let hi := if (384 ≤ n && n ≤ 447) || (496 ≤ n && n ≤ 510) then fld new8 4 3 else fld new8 4 4
      let new := hi * 16 + (if t0 then fld new8 0 4 else fld old 0 4)
      let st1 := st.p ⟨(F.ICU_SRCCFG_BYTES k).key, 8 * j, 8⟩ new
      let drop := fun (x : State) (t1 : Bool) =>
        let en := new.testBit (if t1 then 7 else 3)
        let gOld := if t1 then fld old 4 3 else fld old 0 3
        let gNew := if t1 then fld new 4 3 else fld new 0 3
        if !en then { x with icu := (x.icu.setPend t1 (srcDel (x.icu.pend t1) n)).setRel t1 (srcDel (x.icu.rel t1) n) }
        else if gOld != gNew && srcHas (x.icu.pend t1) n then
          { x with icu := x.icu.setRel t1 (srcAdd (x.icu.rel t1) n) }
        else x
      drop (drop st1 false) true) s

/-- A granted write of a group's thresholds, which fires the group when they are already met (R236). -/
def State.writeGcfg (s : State) (grp v : Nat) : State :=
  let s1 := s.p ⟨(F.ICU_GCFG_COUNT grp).key, 0, 24⟩ v
  if s1.groupCount grp ≤ s1.g (F.ICU_GSTAT_COUNT grp) || s1.groupTime grp ≤ s1.g (F.ICU_GSTAT_ELAPSED grp) then
    s1.fireGroup grp
  else s1

end Sys2Proof.Machine
end

