-- ==== Sys2Proof/Machine/Mem.lean ====
section
/-!
DEFINITION. Sys2Proof/Machine/Mem.lean: the memories, by the addresses of R42, R501 and R502: on-chip SRAM, model memory,
secure SRAM, secure NVM, boot ROM and external memory, in one canonical list of bytes.
-/
namespace Sys2Proof.Machine
open Sys2Proof

/-- The regions of R501 that hold memory. -/
inductive Region where
  | sram | model | secure | nvm | rom | ext | none
  deriving DecidableEq, Repr

/-- The region of an address; `size` is the fitted size of external memory (R42, R501). -/
def regionOf (size a : Nat) : Region :=
  if a < 0x600000 then .sram
  else if 0x800000 ≤ a && a < 0x880000 then .model
  else if 0x20000000 ≤ a && a < 0x20040000 then .secure
  else if 0x28000000 ≤ a && a < 0x28100000 then .nvm
  else if 0x30000000 ≤ a && a < 0x30010000 then .rom
  else if 0x80000000 ≤ a && a < 0x80000000 + size then .ext
  else .none

/-- What an unlisted address reads as: the ROM's bytes, the bytes secure NVM left assembly with, the fill of external memory,
and 0 in the SRAMs and model memory, which a power-on reset clears (R170; log entry 5). -/
def memDefault (fill : Nat) (a : Nat) : Byte :=
  if 0x28000000 ≤ a && a < 0x28100000 then Config.nvmByte (a - 0x28000000)
  else if 0x30000000 ≤ a && a < 0x30010000 then Config.romByte (a - 0x30000000)
  else if 0x80000000 ≤ a then (if fill = 0 then 0 else Config.extByte fill (a - 0x80000000))
  else 0

/-- One byte of memory. -/
def State.byte (s : State) (a : Nat) : Byte := cellGet (memDefault s.memFill) s.mem a

/-- Stores one byte. -/
def State.putByte (s : State) (a : Nat) (v : Byte) : State := { s with mem := cellPut (memDefault s.memFill) a v s.mem }

/-- `n` bytes from an address. -/
def State.bytes (s : State) (a n : Nat) : List Byte := (List.range n).map (fun i => s.byte (a + i))

/-- Stores bytes from an address upward. -/
def State.putBytes (s : State) (a : Nat) : List Byte → State
  | [] => s
  | b :: t => (s.putByte a b).putBytes (a + 1) t

/-- A little-endian number of `n` bytes at an address, and its store. -/
def State.loadLe (s : State) (a n : Nat) : Nat := ofLe (s.bytes a n)
def State.storeLe (s : State) (a n v : Nat) : State := s.putBytes a (leBytes n v)

/-- Drops the listed bytes of a range, which then reads as an unlisted range does. -/
def State.dropRange (s : State) (lo hi : Nat) : State :=
  { s with mem := s.mem.filter (fun c => !(decide (lo ≤ c.1) && decide (c.1 < hi))) }

/-- Drops every listed byte of external memory. -/
def State.dropExt (s : State) : State := { s with mem := s.mem.filter (fun c => decide (c.1 < 0x80000000)) }

/-- The canonical form of memory: keys rise strictly and no entry equals what an unlisted address reads as. -/
def State.memWf (s : State) : Bool := cellsFrom (memDefault s.memFill) 0 s.mem

/-- The canonical form of the register file. -/
def State.regsWf (s : State) : Bool := cellsFrom resetWord 0 s.regs

end Sys2Proof.Machine
end

