-- ==== Sys2Proof/Machine/Can.lean ====
section
/-!
DEFINITION. Sys2Proof/Machine/Can.lean: the transmit side of the two CAN FD controllers (R429 to R437, R440 to R444, R447, R448,
R451, R452, R461 to R463): software frames, secured frames, references, the choice of the next frame, retry and Bus-off.
-/
namespace Sys2Proof.Machine
open Sys2Proof

/-- Controller n's state beside its page. -/
def State.can (s : State) (n : Nat) : CanState := if n = 0 then s.cb0 else s.cb1
def State.setCan (s : State) (n : Nat) (c : CanState) : State := if n = 0 then { s with cb0 := c } else { s with cb1 := c }

/-- The page of a controller, and the number of its jobs (R441). -/
def cbPage (n : Nat) : Nat := 0x20 + n
def jobCount (n : Nat) : Nat := if n = 0 then 16 else 64

/-- The key a job holds. -/
def State.jobKey (s : State) (n j : Nat) : Option JobKey := (s.can n).keys.find? (fun k => k.job == j)
def State.jobKeyed (s : State) (n j : Nat) : Bool := (s.jobKey n j).isSome

/-- Job keys are absent: no key at all is held for the jobs of CB0 and CB1 (R23, R108). -/
def State.keysGone (s : State) : Bool := s.mod.keysAbsent

/-- An FD frame is one bus frame of a job's identifier (R442). -/
def State.jobFrame (s : State) (n j : Nat) (kind : FrameKind) (payload : List Byte) : TxFrame :=
  { kind := kind, id := s.g (F.CB_JOB_ID_TXID n j), ide := s.b (F.CB_JOB_CFG_IDE n j), fdf := true
    brs := s.b (F.CB_JOB_CFG_BRS n j), dlc := 10, job := j, data := payload, failed := 0, tx := false, abort := false }

/-- The job that owns a buffer: the lowest-numbered enabled job that names it (R440). -/
def State.bufOwner (s : State) (n b : Nat) : Option Nat :=
  (List.range (jobCount n)).find? (fun j => s.b (F.CB_JOB_CFG_EN n j) && s.g (F.CB_JOB_CFG_BUF n j) == b)

/-- The buffer that a job sends through; none where it sends through the queue (R440, R455: 9 to 15 act as 8). -/
def State.jobBuf (s : State) (n j : Nat) : Option Nat :=
  let b := s.g (F.CB_JOB_CFG_BUF n j)
  if b < 8 && s.bufOwner n b == some j then some b else none

/-- The queue's length as its register shows it; TXQ_EMPTY is set when the last entry leaves. -/
def State.queueShown (s : State) (n : Nat) : State :=
  let l := (s.can n).queue.length
  let s1 := ((s.p (F.CB_TXQ_STAT_LEVEL n) l).pb (F.CB_TXQ_STAT_FULL n) (decide (32 ≤ l))).pb (F.CB_TXQ_STAT_EMPTY n) (l == 0)
  if l = 0 && !s.b (F.CB_TXQ_STAT_EMPTY n) then s1.evt (cbPage n) 3 else s1

/-- Replaces the queue. -/
def State.setQueue (s : State) (n : Nat) (q : List TxFrame) : State :=
  (s.setCan n { s.can n with queue := q }).queueShown n

/-- A buffer's register for a frame that becomes pending in it. -/
def State.bufShown (s : State) (n b : Nat) (f : TxFrame) (owner : Option Nat) : State :=
  (((((s.p (F.CB_BUF_ID n b) f.id).pb (F.CB_BUF_IDE n b) f.ide).p (F.CB_BUF_PENDING n b) 1).p (F.CB_BUF_ATTEMPTS n b) 0).pb
    (F.CB_BUF_OWNER n b) owner.isSome).p (F.CB_BUF_JOB n b) (owner.getD 0)

/-- Puts a frame into a buffer, in place of the one that waits there. -/
def State.toBuf (s : State) (n b : Nat) (f : TxFrame) (owner : Option Nat) : State :=
  (s.setCan n { s.can n with bufs := (s.can n).bufs.set b (some f) }).bufShown n b f owner

/-- A TXGO write or an engine's frame is rejected (R430). -/
def State.txReject (s : State) (n cause : Nat) : State :=
  ((s.p (F.CB_TXQ_STAT_LAST_REJ n) cause).bump (F.CB_TXQ_STAT_REJECTS n)).lost (cbPage n)
    (if cause = 1 then 40 + n else 63)

/-- Appends a frame to the queue, and says whether there was room (R430, row 1). -/
def State.toQueue (s : State) (n : Nat) (f : TxFrame) : Bool × State :=
  if (s.can n).queue.length < 32 then (true, s.setQueue n ((s.can n).queue ++ [f])) else (false, s.txReject n 1)

/-- An engine's frame comes to its buffer, in place of one that still waits there; while one is in transmission it waits for the end of
that attempt (R440, R448). -/
def State.bufGive (s : State) (n b : Nat) (f : TxFrame) : State :=
  match (s.can n).bufs.getD b none with
  | some old =>
    if old.tx then s.setCan n { s.can n with later := (b, f) :: (s.can n).later.filter (fun p => p.1 != b) }
    else s.toBuf n b f (some f.job)
  | none => s.toBuf n b f (some f.job)

/-- A frame that waited for the end of the attempt in its buffer takes the buffer, in place of a retry that is pending there. -/
def State.laterIn (s : State) (n b : Nat) : State :=
  match (s.can n).later.find? (fun p => p.1 == b) with
  | some p => (s.setCan n { s.can n with later := (s.can n).later.filter (fun q => q.1 != b) }).toBuf n b p.2 (some p.2.job)
  | none => s

/-- A job engine gives a frame to its buffer, or to the queue (R440, R447). -/
def State.submit (s : State) (n j : Nat) (kind : FrameKind) (payload : List Byte) : Bool × State :=
  let f := s.jobFrame n j kind payload
  match s.jobBuf n j with
  | some b => (true, s.bufGive n b f)
  | none => s.toQueue n f

/-- A job sends its frame only with a key, in Normal and while enabled (R424, R425, R448). -/
def State.jobSend (s : State) (n j : Nat) (payload : List Byte) : State :=
  let c := s.can n
  let s1 := s.setCan n { c with payloads := (j, payload) :: c.payloads.filter (fun p => p.1 != j) }
  if s.b (F.CB_JOB_CFG_EN n j) && s.jobKeyed n j then (s1.submit n j .job payload).2 else s1

/-! ## Attempts -/

/-- CAN priority as a number: a lower one wins; a base frame stands ahead of an extended one of equal leading bits (R431). -/
def TxFrame.prio (f : TxFrame) : Nat :=
  if f.ide then (f.id / 2 ^ 18) * 2 ^ 20 + 2 ^ 19 + f.id % 2 ^ 18 else (f.id % 2 ^ 11) * 2 ^ 20

/-- Where a candidate stands (R431, R463). -/
inductive TxPlace where
  | buf (i : Nat) | ref | group | queue
  deriving DecidableEq, Repr

/-- Frames a mode may send: every frame in Normal, unsecured software frames in the loop-back modes, none else (R424, R425). -/
def sendable (mode : Nat) (f : TxFrame) : Bool :=
  mode == 0 || ((mode == 3 || mode == 4) && f.kind == .software)

/-- The candidates of an arbitration, in the order that decides between equal identifiers (R431, R463). -/
def CanState.candidates (c : CanState) (mode : Nat) : List (TxPlace × TxFrame) :=
  let bufs := (List.range 8).filterMap (fun i => (c.bufs.getD i none).map (fun f => (TxPlace.buf i, f)))
  let one := fun (p : TxPlace) (l : List TxFrame) => (l.head?.map (fun f => (p, f))).toList
  (bufs ++ one .ref c.refs ++ one .group c.group ++ one .queue c.queue).filter (fun x => sendable mode x.2)

/-- The candidate of the highest priority, the first of equals. -/
def bestFrame : List (TxPlace × TxFrame) → Option (TxPlace × TxFrame)
  | [] => none
  | x :: t => match bestFrame t with | some y => if y.2.prio < x.2.prio then some y else some x | none => some x

/-- The frame in transmission. -/
def CanState.inTx (c : CanState) : Option (TxPlace × TxFrame) :=
  ((List.range 8).filterMap (fun i => (c.bufs.getD i none).map (fun f => (TxPlace.buf i, f))) ++
    c.refs.map (fun f => (TxPlace.ref, f)) ++ c.group.map (fun f => (TxPlace.group, f)) ++
    c.queue.map (fun f => (TxPlace.queue, f))).find? (fun x => x.2.tx)

/-- Replaces or removes the frame at a place (the head, where the place is a list). -/
def CanState.putAt (c : CanState) (p : TxPlace) (f : Option TxFrame) : CanState :=
  match p with
  | .buf i => { c with bufs := c.bufs.set i f }
  | .ref => { c with refs := f.toList ++ c.refs.drop 1 }
  | .group => { c with group := f.toList ++ c.group.drop 1 }
  | .queue => { c with queue := f.toList ++ c.queue.drop 1 }

def State.putAt (s : State) (n : Nat) (p : TxPlace) (f : Option TxFrame) : State :=
  let s1 := (s.setCan n ((s.can n).putAt p f)).queueShown n
  match p with
  | .buf i => (s1.pb (F.CB_BUF_PENDING n i) f.isSome).pb (F.CB_BUF_TX n i) (match f with | some x => x.tx | none => false)
  | _ => s1

/-- The low 24 bits of the count (R444). -/
def State.freshNow (s : State) : Nat := s.g F.TSY_COUNT_COUNT % 2 ^ 24

/-- The 16 bytes that the MAC of a secured frame covers (R443). -/
def macMessage (id : Nat) (ide : Bool) (dir fresh : Nat) (payload : List Byte) : List Byte :=
  leBytes 4 (id + 2 ^ 29 * b2n ide + 2 ^ 30) ++ [BitVec.ofNat 8 dir] ++ leBytes 3 fresh ++ slice payload 0 8

/-- The data field of a secured frame (R442). -/
def securedData (key : List Byte) (id : Nat) (ide : Bool) (fresh : Nat) (payload : List Byte) : List Byte :=
  slice payload 0 8 ++ leBytes 3 fresh ++
    (List.range 5).map (fun i => Config.cmacByte key (macMessage id ide 0 fresh payload) i)

/-- The data field of a group frame (R480). -/
def groupData (key : List Byte) (id fresh : Nat) (payload : List Byte) : List Byte :=
  let msg := leBytes 4 (id + 2 ^ 30) ++ [0] ++ leBytes 3 fresh ++ slice payload 0 56
  slice payload 0 56 ++ leBytes 3 fresh ++ (List.range 5).map (fun i => Config.cmacByte key msg i)

/-- Cycles to the next wake-window boundary, 0 on one (R461, R472). -/
def wakeIn (every count : Nat) : Nat := if every = 0 then 0 else (every - count % every) % every

/-- The basic cycle in ms, and GUARD and LATE, with the limits of TSY_CFG. -/
def State.cycleMs (s : State) : Nat := min 100 (max 5 (s.g F.TSY_CFG_CYCLE_MS))
def State.guardUs (s : State) : Nat := 25 * max 1 (s.g F.TSY_CFG_GUARD)
def State.lateUs (s : State) : Nat := 500 * max 1 (s.g F.TSY_CFG_LATE)

/-- The payload of a reference at the start of an attempt (R461, R463). -/
def State.refPayload (s : State) : List Byte :=
  let count := s.g F.TSY_COUNT_COUNT
  let every := s.g F.TSY_CFG_WAKE_EVERY
  [BitVec.ofNat 8 (count / 2 ^ 24),
   BitVec.ofNat 8 (s.g F.TSY_CFG_RANK + 8 * b2n (s.timeRole == .backup) + 16 * s.g F.GRP_CFG_STATION + 128 * b2n s.tsy.stepped)] ++
  leBytes 2 (s.g F.TSY_COUNT_PHASE) ++
  [BitVec.ofNat 8 (every + 128 * s.g F.TSY_CFG_SPARSE), BitVec.ofNat 8 (wakeIn every count),
   BitVec.ofNat 8 s.cycleMs, BitVec.ofNat 8 (max 1 (s.g F.TSY_CFG_GUARD) + 16 * max 1 (s.g F.TSY_CFG_LATE))]

/-- The key under which a frame is sent; none where it needs one that is not held. An unsecured frame needs none. -/
def State.frameKey (s : State) (n : Nat) (f : TxFrame) : Option (List Byte) :=
  match f.kind with
  | .software | .park => some []
  | .job | .heartbeat => (s.jobKey n f.job).map JobKey.key
  | .epoch => (s.jobKey n f.job).map JobKey.announce
  | .reference => (s.can n).timeKey
  | .group => (s.can n).groupKey

/-- The data field of an attempt: freshness and MAC are those of this attempt (R444, R463). -/
def State.attemptData (s : State) (f : TxFrame) (key : List Byte) : List Byte :=
  match f.kind with
  | .software | .park => f.data
  | .job | .heartbeat | .epoch => securedData key f.id f.ide s.freshNow f.data
  | .reference => securedData key f.id f.ide s.freshNow s.refPayload
  | .group => groupData key f.id s.freshNow f.data

/-- The controller is live: its clock runs and the 641 is neither in Watch nor in reset. -/
def State.canLive (s : State) : Bool := s.b F.CLK_STAT_PLL_LOCK && !s.wake.watch && !s.wake.inReset

/-- The start of an attempt: the best candidate takes the bus (R431). A secured frame whose key is gone is removed without
count; a reference past LATE is not started (R463). -/
def State.txStart (s : State) (n : Nat) : State :=
  if !s.canLive then s
  else
    match (s.can n).inTx with
    | some _ => s
    | none =>
      match bestFrame ((s.can n).candidates (s.g (F.CB_STAT_MODE n))) with
      | none => s
      | some (p, f) =>
        match s.frameKey n f with
        | none => s.putAt n p none
        | some key =>
          if f.kind == .reference && decide (s.lateUs < s.g F.TSY_COUNT_PHASE) then s
          else
            let s1 := s.putAt n p (some { f with tx := true })
            s1.setCan n { s1.can n with onBus := some (f.id + 2 ^ 29 * b2n f.ide + 2 ^ 30 * b2n f.fdf + 2 ^ 31 * b2n f.brs, s.attemptData f key) }

/-- What a buffer's LAST shows when its frame leaves, with its event (R434, R453). -/
def State.bufDone (s : State) (n : Nat) (p : TxPlace) (last attempts : Nat) : State :=
  match p with
  | .buf i => ((s.p (F.CB_BUF_LAST n i) last).p (F.CB_BUF_ATTEMPTS n i) (satTo 4 attempts)).evt (cbPage n) (8 + i)
  | _ => s

/-- Limited retry applies to a frame: not to references and group frames (R463). -/
def State.limited (s : State) (n : Nat) (f : TxFrame) : Bool :=
  s.b (F.CB_CFG_LIMITED n) && f.kind != .reference && f.kind != .group

/-- The nominal rates of R422 by the code of CBn_RSSTAT.NRATE, and the data rates by DRATE: PCLK cycles of a bit, and the image of
the timing register. -/
def nominalCycles : Nat → Nat | 0 => 1600 | 1 => 800 | 2 => 400 | _ => 200
def nominalImage : Nat → Word | 0 => 0x3f3ffe04 | 1 => 0x1f1f7e04 | 2 => 0x0f0f3e04 | _ => 0x07071e04
def dataCycles : Nat → Nat | 0 => 100 | 1 => 50 | _ => 40
def dataImage : Nat → Word | 0 => 0x4b0104040d04 | 1 => 0x280101010604 | _ => 0x1e0101010404

/-- The order in which candidates are tried: the current rate first if it is one of them, then the others upward (R439). -/
def State.nominalOrder (s : State) (n : Nat) : List Nat :=
  let now := (s.g (F.CB_NBT_NBRP_M1 n) + 1) * (1 + (s.g (F.CB_NBT_NTSEG1_M1 n) + 1) + (s.g (F.CB_NBT_NTSEG2_M1 n) + 1))
  let cur := (List.range 4).filter (fun k => nominalCycles k == now)
  cur ++ (List.range 4).filter (fun k => !cur.contains k)
def State.dataOrder (s : State) (n : Nat) : List Nat :=
  let now := (s.g (F.CB_DBT_DBRP_M1 n) + 1) * (1 + (s.g (F.CB_DBT_DTSEG1_M1 n) + 1) + (s.g (F.CB_DBT_DTSEG2_M1 n) + 1))
  let cur := (List.range 3).filter (fun k => dataCycles k == now)
  cur ++ (List.range 3).filter (fun k => !cur.contains k)

/-- Rate search begins with the mode (R439), and ends with it. -/
def State.searchStart (s : State) (n : Nat) : State :=
  let c := s.nominalOrder n
  let s1 := s.setCan n { s.can n with
    search := some { dataStage := false, candidates := c, good := 0, fdSeen := false, found := false } }
  ((((s1.p (F.CB_RSSTAT_RUNNING n) 1).p (F.CB_RSSTAT_FOUND n) 0).p (F.CB_RSSTAT_NRATE n) (c.headD 0)).p
    (F.CB_RSSTAT_DRATE n) 3).p (F.CB_RSSTAT_CYCLES n) 0
def State.searchEnd (s : State) (n : Nat) : State :=
  (s.setCan n { s.can n with search := none }).p (F.CB_RSSTAT_RUNNING n) 0

/-- The mode of the MOD axis and a waiting bit timing reach the controller when no frame is in progress (R423, R424). -/
def State.canSync (s : State) (n : Nat) : State :=
  match (s.can n).inTx with
  | some _ => s
  | none =>
    let m := (s.bus n).code
    let c := s.can n
    let s1 := (s.p (F.CB_STAT_MODE n) m).pb (F.CB_STAT_STB n) (m == 3)
    let s2 := match c.nbtNext with | some v => s1.setWord (F.CB_NBT_NBRP_M1 n).key v | none => s1
    let s3 := match c.dbtNext with | some v => s2.setWord (F.CB_DBT_DBRP_M1 n).key v | none => s2
    let s4 := s3.setCan n { s3.can n with nbtNext := none, dbtNext := none }
    if m = 2 && s.g (F.CB_STAT_MODE n) ≠ 2 then s4.searchStart n
    else if m ≠ 2 && s.g (F.CB_STAT_MODE n) = 2 then s4.searchEnd n
    else s4

/-- A frame has been sent (R433 with R192, R198, R199). -/
def State.txSent (s : State) (n : Nat) (p : TxPlace) (f : TxFrame) : State :=
  let s1 := (s.putAt n p none).bufDone n p 1 (f.failed + 1)
  let s2 := if f.failed = 0 then s1
    else if s.limited n f then s1.transient (cbPage n) (10 + 2 * n) else s1.bump (hdrTrouble (cbPage n) 0)
  let s3 := match p with | .queue => s2.bump (F.CB_TXQ_STAT_SENT n) | _ => s2
  let s4 := match f.kind with
    | .job | .heartbeat | .epoch => s3.bump (F.CB_JOB_CNT0_SENT n f.job)
    | _ => s3
  s4.p (F.CB_ERR_TEC n) (s4.g (F.CB_ERR_TEC n) - 1)

/-- A lasting transmission (R434). -/
def State.txLasting (s : State) (n : Nat) (p : TxPlace) (attempts : Nat) : State :=
  let s1 := ((s.putAt n p none).bufDone n p 2 attempts).lasting (cbPage n) (11 + 2 * n)
  match p with | .queue => s1.evt (cbPage n) 4 | _ => s1

/-- Entry to error-passive, and its end (R435). -/
def State.passiveCheck (s : State) (n : Nat) : State :=
  if s.g (F.CB_ERR_STATE n) = 2 then s
  else
    let passive := decide (127 < s.g (F.CB_ERR_TEC n)) || s.b (F.CB_ERR_REC_P n)
    let s1 := s.pb (F.CB_ERR_STATE n) passive
    if passive && s.g (F.CB_ERR_STATE n) = 0 then s1.evt (cbPage n) 7 else s1

/-- Entry to Bus-off (R436): the queue empties, each software entry is lost; a frame in transmission is lasting in limited mode. -/
def State.busOffEntry (s : State) (n : Nat) : State :=
  let s1 := match (s.can n).inTx with
    | some (p, f) =>
      if s.limited n f then s.txLasting n p (f.failed + 1)
      else s.putAt n p (some { f with tx := false })
    | none => s
  let gone := (s1.can n).queue.filter (fun f => f.kind == .software)
  let s2 := gone.foldl (fun (x : State) _ => x.lost (cbPage n) 63) (s1.setQueue n [])
  let s3 := (((s2.p (F.CB_ERR_STATE n) 2).bump (F.CB_ERR_BUSOFFS n)).classInc (34 + n)).evt (cbPage n) 17
  let call : AxisCall := { axis := 5 + n, value := BusMode.busOff.code, cause := 0x0e, who := 7 }
  { s3.setCan n { s3.can n with recovering := false } with mod := { s3.mod with calls := s3.mod.calls ++ [call] } }

/-- An attempt fails (R433, R434, R435): the counters of ISO 11898-1, retry by mode, an abort that waited (R440). `hold` marks
the error cases in which ISO 11898-1 leaves the transmit counter unchanged. -/
def State.txFailed (s : State) (n : Nat) (p : TxPlace) (f : TxFrame) (lec : Nat) (dataPhase hold : Bool) : State :=
  let tec := s.g (F.CB_ERR_TEC n) + (if hold then 0 else 8)
  let s1 := ((s.p (F.CB_ERR_TEC n) (min 511 tec)).p (F.CB_ERR_LEC n) lec).pb (F.CB_ERR_DPHASE n) dataPhase
  if 255 < tec then s1.busOffEntry n
  else
    let k := f.failed + 1
    let s2 :=
      if f.abort then (s1.putAt n p none).bufDone n p 3 k
      else if s.limited n f && decide (max 1 (s.g (F.CB_CFG_N n)) ≤ k) then s1.txLasting n p k
      else s1.putAt n p (some { f with tx := false, failed := k })
    s2.passiveCheck n

/-! ## Writes of the transmit registers -/

/-- The staging content of a writer as a frame (R429). -/
def stagedFrame (h : Word) (d : List Word) : TxFrame :=
  let fdf := bitAt h.toNat 30
  let dlc := fld h.toNat 32 4
  let len := if dlc ≤ 8 then dlc else if !fdf then 8 else
    (match dlc with | 9 => 12 | 10 => 16 | 11 => 20 | 12 => 24 | 13 => 32 | 14 => 48 | _ => 64)
  let ide := bitAt h.toNat 29
  { kind := .software, id := if ide then fld h.toNat 0 29 else fld h.toNat 0 11, ide := ide, fdf := fdf
    brs := bitAt h.toNat 31, dlc := dlc, job := 0
    data := (d.flatMap (fun w => leBytes 8 w.toNat)).take len, failed := 0, tx := false, abort := false }

/-- Identifiers that software may not send (R430, row 2): the TX identifier of an enabled job, the park identifier, and the
reference and group identifiers (R463). -/
def State.reservedId (s : State) (n : Nat) (f : TxFrame) : Bool :=
  (List.range (jobCount n)).any (fun j => s.b (F.CB_JOB_CFG_EN n j) && s.g (F.CB_JOB_ID_TXID n j) == f.id &&
    s.b (F.CB_JOB_CFG_IDE n j) == f.ide) ||
  (!f.ide && ((n == 0 && f.id == s.g (F.CB_PARKID_ID 0)) ||
    (decide (s.g F.TSY_CFG_REFID ≤ f.id) && decide (f.id < s.g F.TSY_CFG_REFID + 8)) ||
    (decide (s.g F.GRP_CFG_IDBASE ≤ f.id) && decide (f.id < s.g F.GRP_CFG_IDBASE + 24))))

/-- A granted TXGO write with GO (R429, R430). -/
def State.txGo (s : State) (n dest : Nat) (f : TxFrame) : State :=
  if dest ≥ 8 && decide (32 ≤ (s.can n).queue.length) then s.txReject n 1
  else if s.reservedId n f then s.txReject n 2
  else if dest < 8 && ((s.can n).bufs.getD dest none).isSome then s.txReject n 3
  else if dest < 8 && (s.bufOwner n dest).isSome then s.txReject n 4
  else if !f.fdf && f.brs then s.txReject n 5
  else if dest < 8 then s.toBuf n dest f none
  else (s.toQueue n f).2

/-- ABORT_HEAD: the head is discarded; in transmission, it is discarded if its attempt fails. -/
def State.abortHead (s : State) (n : Nat) : State :=
  match (s.can n).queue with
  | [] => s
  | f :: t => if f.tx then s.setQueue n ({ f with abort := true } :: t) else s.setQueue n t

/-- FLUSH: every entry not in transmission is discarded. -/
def State.flushQueue (s : State) (n : Nat) : State := s.setQueue n ((s.can n).queue.filter (fun f => f.tx))

/-- BUFABORT: a buffer's pending frame is discarded unless it is in transmission (R440). -/
def State.bufAbort (s : State) (n mask : Nat) : State :=
  (bitsBelow 8 mask).foldl (fun (x : State) b =>
    match (x.can n).bufs.getD b none with
    | some f => if f.tx then x else (x.putAt n (.buf b) none).bufDone n (.buf b) 3 f.failed
    | none => x) s

/-- The head is the frame being offered or in transmission (CBn_TXQ_STAT.HEAD_ARB). -/
def State.headArb (s : State) (n : Nat) : Bool :=
  match (s.can n).inTx with
  | some (p, _) => p == .queue
  | none =>
    match bestFrame ((s.can n).candidates (s.g (F.CB_STAT_MODE n))) with
    | some (p, _) => p == .queue
    | none => false

/-- Every secured queue frame loses its key when keys are cleared; the frames leave at their next attempt (R444). -/
def State.clearJobKeys (s : State) (n : Nat) : State :=
  let s1 := s.setCan n { s.can n with keys := [], timeKey := none, groupKey := none }
  (List.range (jobCount n)).foldl (fun (x : State) j => x.p (F.CB_JOB_STAT_KEYED n j) 0) s1

/-- The park frame of a job (R451). -/
def State.parkFrame (s : State) (target cmd landing : Nat) (up : Bool) : TxFrame :=
  { kind := .park, id := s.g (F.CB_PARKID_ID 0), ide := false, fdf := false, brs := false, dlc := 8, job := target - 1
    data := [BitVec.ofNat 8 target, BitVec.ofNat 8 cmd, BitVec.ofNat 8 landing, BitVec.ofNat 8 (b2n up), 0, 0, 0, 0]
    failed := 0, tx := false, abort := false }

end Sys2Proof.Machine
end

