-- ==== Sys2Proof/Machine/Fast.lean ====
section
/-!
DEFINITION. Sys2Proof/Machine/Fast.lean: the fast path of FI00 to FI03: the fast filters, and what one scan's samples do to a counter
unit (R275 to R277).
-/
namespace Sys2Proof.Machine
open Sys2Proof

/-! ## The fast filters -/

/-- The samples of one slot as runs that fill what is left of its 1000 SCLK cycles; the last levels stand to its end (R258). -/
def clipRuns : Nat → BitVec 4 → List FastRun → List FastRun
  | left, last, [] => if left = 0 then [] else [⟨left, last⟩]
  | left, last, r :: t =>
    let n := min left r.cycles
    if n = 0 then clipRuns left last t else ⟨n, r.levels⟩ :: clipRuns (left - n) r.levels t

/-- One fast input through a slot: cycles sampled, the filtered level, for how many cycles the raw level has differed, and the filtered
changes so far by cycle, oldest first. -/
structure FastTrace where
  cycle : Nat
  level : Bool
  count : Nat
  moves : List (Nat × Bool)
  deriving DecidableEq, Repr

/-- A run on input `i`: its filtered level follows once the raw level has differed for FAST_FILT + 1 samples (log entry 165). -/
def fastStep (filter i : Nat) (x : FastTrace) (r : FastRun) : FastTrace :=
  let lvl := r.levels.getLsbD i
  let next := x.cycle + r.cycles
  if lvl = x.level then { x with cycle := next, count := 0 }
  else if filter + 1 ≤ x.count + r.cycles then
    { cycle := next, level := lvl, count := 0, moves := x.moves ++ [(x.cycle + (filter - x.count), lvl)] }
  else { x with cycle := next, count := x.count + r.cycles }

/-- Input `i` through a slot's runs. -/
def fastTrace (filter i : Nat) (level : Bool) (count : Nat) (runs : List FastRun) : FastTrace :=
  runs.foldl (fastStep filter i) { cycle := 0, level := level, count := count, moves := [] }

/-- The cycles of the rising edges. -/
def risesOf (moves : List (Nat × Bool)) : List Nat := (moves.filter (·.2)).map (·.1)

/-! ## Quadrature -/

/-- The changes of A and B in their order; changes in one sample stand together (R276). -/
def mergeMoves : Nat → List (Nat × Bool) → List (Nat × Bool) → List (Option Bool × Option Bool)
  | 0, _, _ => []
  | _ + 1, [], [] => []
  | n + 1, a :: s, [] => (some a.2, none) :: mergeMoves n s []
  | n + 1, [], b :: t => (none, some b.2) :: mergeMoves n [] t
  | n + 1, a :: s, b :: t =>
    if a.1 < b.1 then (some a.2, none) :: mergeMoves n s (b :: t)
    else if b.1 < a.1 then (none, some b.2) :: mergeMoves n (a :: s) t
    else (some a.2, some b.2) :: mergeMoves n s t

/-- A quadrature pair: its levels, the steps taken, the illegal samples. -/
structure Quad where
  a : Bool
  b : Bool
  steps : Int
  illegal : Nat
  deriving DecidableEq, Repr

/-- A change of the pair (R275, R276): A before B counts up; ×4 takes every change, ×2 those of A, ×1 those of A while B is low (log entry
165). A sample in which both change is illegal and counts nothing. -/
def quadMove (mode : Nat) (q : Quad) (m : Option Bool × Option Bool) : Quad :=
  match m with
  | (some a, some b) => { q with a := a, b := b, illegal := q.illegal + 1 }
  | (some a, none) =>
    let d : Int := if a != q.b then 1 else -1
    { q with a := a, steps := q.steps + (if mode = 2 && q.b then 0 else d) }
  | (none, some b) =>
    let d : Int := if b = q.a then 1 else -1
    { q with b := b, steps := q.steps + (if mode = 4 then d else 0) }
  | (none, none) => q

/-! ## A counter unit -/

/-- The periods that a slot's rising edges end (R275): where the last edge lies before the slot's first cycle, whether it started a period,
and the last period completed. -/
structure Timing where
  mark : Int
  timing : Bool
  period : Option Nat
  deriving DecidableEq, Repr

def timeEdge (x : Timing) (t : Nat) : Timing :=
  { mark := t, timing := true, period := if x.timing then some ((t : Int) - x.mark).toNat else x.period }

/-- One slot's samples move unit `u` in a mode (R275, R276); DIR inverts the quadrature direction. `before` holds the filtered levels at the
slot's start, `moves` the changes of each fast input. -/
def stepUnit (mode dir u before : Nat) (moves : Nat → List (Nat × Bool)) (x : CUnit) : CUnit :=
  let x0 := { x with qerr := false }
  let rises := risesOf (moves u)
  if mode = 1 then { x0 with value := (x.value + rises.length) % 2 ^ 32 }
  else if 2 ≤ mode && mode ≤ 4 then
    let a := moves u
    let b := moves (u + 1)
    let q := (mergeMoves (a.length + b.length) a b).foldl (quadMove mode) ⟨before.testBit u, before.testBit (u + 1), 0, 0⟩
    { x0 with
      value := unsgn 32 ((x.value : Int) + (if dir = 1 then - q.steps else q.steps))
      qerr := q.illegal != 0, illegal := satTo 24 (x.illegal + q.illegal) }
  else if mode = 5 then
    let t := rises.foldl timeEdge ⟨- (x.since : Int), x.timing, none⟩
    let x1 := { x0 with since := (1000 - t.mark).toNat, timing := t.timing }
    match t.period with
    | some p => if p < 2 ^ 32 then { x1 with value := p, povf := false } else { x1 with value := 0, povf := true }
    | none => x1
  else if mode = 6 then { x0 with gateEdges := x.gateEdges + rises.length, gateScans := x.gateScans + 1 }
  else { x0 with value := 0 }

end Sys2Proof.Machine
end

