-- ==== Sys2Proof/Machine/Carapace.lean ====
section
/-!
DEFINITION. Sys2Proof/Machine/Carapace.lean: the Carapace die: its scan (R258), inputs and counters (R271 to R280), outputs
(R281 to R288), the interlock table (R299 to R309, R312), stage slots and the commit gate (R316 to R331).
-/
namespace Sys2Proof.Machine
open Sys2Proof

/-- Tag `a` is at or above tag `b` (R317). -/
def tagGe (a b : Nat) : Bool := decide ((a + 65536 - b % 65536) % 65536 < 0x8000)
/-- Tag `a` is above tag `b` (R317). -/
def tagGt (a b : Nat) : Bool := tagGe a b && decide (a % 65536 ≠ b % 65536)

/-- A field of configuration image `i` (R269). -/
def Carapace.cfg (c : Carapace) (i lo w : Nat) : Nat := fld (c.config.getD i 0).toNat lo w
def Carapace.finMode (c : Carapace) (i : Nat) : Nat := c.cfg (1 + i) 1 1
def Carapace.finFilter (c : Carapace) (i : Nat) : Nat := c.cfg (1 + i) 8 8

/-- The mode a counter unit works in (R275): 7 acts as 0, and quadrature on units 1 and 3 acts as Off. -/
def Carapace.unitMode (c : Carapace) (u : Nat) : Nat :=
  let m := c.cfg (33 + u) 0 3
  if m = 7 then 0 else if 2 ≤ m && m ≤ 4 && u % 2 = 1 then 0 else m

/-- Fast filter of input `i`, in SCLK cycles (R275). -/
def Carapace.fastFilter (c : Carapace) (i : Nat) : Nat := c.cfg (1 + i) 16 6

/-- Whether two field configurations differ in a bit range of image `i`. -/
def cfgMoved (old new : List Word) (i lo w : Nat) : Bool := fld (old.getD i 0).toNat lo w != fld (new.getD i 0).toNat lo w

/-- Inputs whose TYPE, MODE or FILTER changes take their raw level, units whose MODE or GATE_MS changes restart at 0 (R270). -/
def inputMoved (old new : List Word) (i : Nat) : Bool := cfgMoved old new (1 + i) 0 2 || cfgMoved old new (1 + i) 8 8
def unitMoved (old new : List Word) (u : Nat) : Bool := cfgMoved old new (33 + u) 0 3 || cfgMoved old new (33 + u) 16 10

/-- A counter unit starts again at 0, its flags with it; what it has met since the Carapace's reset stays (R270, R297). -/
def CUnit.restart (u : CUnit) : CUnit := { CUnit.fresh with illegal := u.illegal }

/-- Applies a new configuration block (R270). -/
def Carapace.configure (c : Carapace) (images : List Word) : Carapace :=
  let changed := inputMoved c.config images
  let moved := ofBits 32 (fun i => changed i && (c.raw.testBit i != c.filt.testBit i))
  { c with
    config := images
    filt := ofBits 32 (fun i => if changed i then c.raw.testBit i else c.filt.testBit i)
    filtCount := (List.range 32).map (fun i => if changed i then 0 else c.filtCount.getD i 0)
    changedAt := (List.range 32).map (fun i => if moved.testBit i then c.micros else c.changedAt.getD i 0)
    edges := c.edges ||| moved
    units := c.units.zipIdx.map (fun p => if unitMoved c.config images p.2 then p.1.restart else p.1) }

/-- The sample of one scan or pulse reaches the filters of the selected inputs (R272, R273): a raw level that differs from the
filtered state counts, any other sample clears the count. -/
def Carapace.sampleInputs (c : Carapace) (raw : Nat) (sel : Nat → Bool) : Carapace :=
  { c with
    raw := ofBits 32 (fun i => if sel i then raw.testBit i else c.raw.testBit i)
    filtCount := (List.range 32).map (fun i =>
      if sel i then (if raw.testBit i != c.filt.testBit i then satTo 9 (c.filtCount.getD i 0 + 1) else 0)
      else c.filtCount.getD i 0) }

/-- The filtered state of an input changes once its raw level has differed in FILTER + 1 consecutive samples (R273); a change in
field-watch is kept for the frames after it (R264, R274). -/
def Carapace.filterChange (c : Carapace) (i : Nat) : Carapace :=
  if c.finFilter i + 1 ≤ c.filtCount.getD i 0 then
    { c with
      filt := c.filt ^^^ 2 ^ i
      edges := if c.fieldWatch then c.edges else c.edges ||| 2 ^ i
      watchEdges := if c.fieldWatch then c.watchEdges ||| 2 ^ i else c.watchEdges
      filtCount := c.filtCount.set i 0
      changedAt := c.changedAt.set i c.micros }
  else c

/-- The latch of step 3 of R258: every filter that is met flips (R273). -/
def Carapace.filterLatch (c : Carapace) : Carapace := (List.range 32).foldl Carapace.filterChange c

/-- The fast path through one slot (R275, R276): the samples reach the fast filters, and the changes reach the counter units. -/
def Carapace.fastSlot (c : Carapace) (runs : List FastRun) : Carapace :=
  let clipped := clipRuns 1000 (BitVec.ofNat 4 c.fastRaw) runs
  let traces := (List.range 4).map (fun i => fastTrace (c.fastFilter i) i (c.fast.testBit i) (c.fastCount.getD i 0) clipped)
  { c with
    fastRaw := (clipped.getLast?.map (fun r => r.levels.toNat)).getD c.fastRaw
    fast := ofBits 4 (fun i => (traces.map FastTrace.level).getD i false)
    fastCount := traces.map FastTrace.count
    units := c.units.zipIdx.map (fun (p : CUnit × Nat) =>
      stepUnit (c.unitMode p.2) (c.cfg (33 + p.2) 3 1) p.2 c.fast (fun i => (traces.map FastTrace.moves).getD i []) p.1) }

/-! ## The interlock table -/

/-- Bytes of a table body (R300 to R302). -/
def bodyNrule (b : List Byte) : Nat := min 256 (fld (leAt b 0x8 8) 32 9)
def bodyTripOff (b : List Byte) : Nat := leAt b 0x1c 2
def bodyVersion (b : List Byte) : Nat := leAt b 0x8 4
def bodySerial (b : List Byte) : Nat := leAt b 0x10 8
def bodyCrc (b : List Byte) : Nat := leAt b 0x18 4
def ruleWord (b : List Byte) (r j : Nat) : Nat := leAt b (0x140 + 36 * r + 4 * j) 4
def bodyConfig (b : List Byte) : List Word := (List.range 53).map (fun i => BitVec.ofNat 64 (leAt b (0x2540 + 8 * i) 8))

/-- The state that one scan's rules see (R305). -/
structure RuleView where
  inputs : Nat
  flags : Nat
  commit : Nat
  counters : List Nat
  signed : List Bool
  deriving DecidableEq, Repr

/-- The comparison CMP of a counter term (R303). -/
def cmpHolds (cmp : Nat) (a b : Int) : Bool :=
  match cmp with
  | 0 => a == b
  | 1 => a != b
  | 2 => decide (a < b)
  | 3 => decide (a ≤ b)
  | 4 => decide (b < a)
  | 5 => decide (b ≤ a)
  | _ => false

/-- Whether a term is true before NEG; a term out of its kind's range is false (R303, R304). -/
def termHolds (b : List Byte) (v : RuleView) (t : Nat) : Bool :=
  let ix := fld t 4 8
  let cmp := fld t 12 3
  match fld t 0 3 with
  | 0 => cmp < 6
  | 1 => cmp < 6 && ix < 32 && v.inputs.testBit ix
  | 2 => cmp < 6 && ix < 49 && v.flags.testBit ix
  | 3 =>
    if ix < 4 then
      let k := leAt b (0x40 + 4 * fld t 16 6) 4
      if v.signed.getD ix false then cmpHolds cmp (sgn 32 (v.counters.getD ix 0)) (sgn 32 k)
      else cmpHolds cmp (v.counters.getD ix 0) k
    else false
  | 4 => cmp < 6 && ix < 26 && v.commit.testBit ix
  | _ => false

/-- A rule is true when each of its eight terms is true, NEG inverting a term's result (R302, R303). -/
def ruleHolds (b : List Byte) (v : RuleView) (r : Nat) : Bool :=
  (List.range 8).all (fun j => let t := ruleWord b r (j + 1); termHolds b v t != t.testBit 3)

/-- The rules with an action that are true, by number (R305). -/
def trueRules (b : List Byte) (v : RuleView) (action : Nat) : List Nat :=
  (List.range (bodyNrule b)).filter (fun r => fld (ruleWord b r 0) 5 2 == action && ruleHolds b v r)

/-- The permit classes of one scan: a true grant rule and no true veto rule (R306). -/
def permits (b : List Byte) (v : RuleView) : Nat :=
  let g := (trueRules b v 1).map (fun r => fld (ruleWord b r 0) 0 5)
  let n := (trueRules b v 2).map (fun r => fld (ruleWord b r 0) 0 5)
  ofBits 24 (fun c => g.contains c && !n.contains c)

/-! ## The commit gate -/

/-- The indexes of slots whose stage meets a condition, as a bit mask. -/
def slotMask (l : List (Option Stage)) (p : Stage → Bool) : Nat :=
  ofBits 8 (fun i => match l.getD i none with | some st => p st | none => false)

/-- A squash with tag `s` empties the slots whose tag is at or above it (R321). -/
def squashSlots (s : Nat) (l : List (Option Stage)) : List (Option Stage) :=
  l.map (fun o => match o with | some st => if tagGe st.tag s then none else some st | none => none)

/-- The lowest-numbered free slot (R320). -/
def freeSlot (l : List (Option Stage)) : Option Nat := (List.range 8).find? (fun i => (l.getD i none).isNone)

/-- The gate's slots, LAST_TAG, the slots filled and the writes discarded, as stage writes are taken in order (R320). -/
structure Filling where
  slots : List (Option Stage)
  last : Nat
  accepted : Nat
  discarded : Nat
  deriving DecidableEq, Repr

/-- One stage write (R320). -/
def acceptStage (armed : Bool) (f : Filling) (st : Stage) : Filling :=
  match freeSlot f.slots with
  | some i =>
    if armed && tagGt st.tag f.last then
      { f with slots := f.slots.set i (some { st with released := false }), last := st.tag, accepted := f.accepted ||| 2 ^ i }
    else { f with discarded := f.discarded + 1 }
  | none => { f with discarded := f.discarded + 1 }

/-- A release with tag `r` reaches the waiting stages at or below it; where the frame squashes from a tag at or below `r`, only
those below the squash (R322). -/
def releaseSlots (r : Nat) (sq : Option Nat) (l : List (Option Stage)) : List (Option Stage) :=
  l.map (fun o => match o with
    | some st =>
      let below := match sq with | some s => if tagGe r s then tagGt s st.tag else true | none => true
      if tagGe r st.tag && below then some { st with released := true } else some st
    | none => none)

/-- The slots that hold a waiting stage, in ascending tag order: a stage's place is the number of waiting stages below it. -/
def tagOrder (l : List (Option Stage)) : List Nat :=
  let idx := (List.range 8).filter (fun i => (l.getD i none).isSome)
  let tagOf := fun i => match l.getD i none with | some st => st.tag | none => 0
  (List.range 8).filterMap (fun rank =>
    idx.find? (fun i => (idx.filter (fun j => tagGt (tagOf i) (tagOf j))).length == rank))

/-- The slots, the command mask and the slots committed, as stages commit in tag order (R323, R324). -/
structure Commits where
  slots : List (Option Stage)
  cmd : Nat
  committed : Nat
  stop : Bool
  deriving DecidableEq, Repr

/-- The next waiting stage in tag order commits if its class and the class of every channel it changes are granted and its
release has come; otherwise it waits and so does every stage above it (R323, R324, R288). -/
def commitStage (permit inhibit : Nat) (c : Commits) (i : Nat) : Commits :=
  match c.slots.getD i none with
  | none => c
  | some st =>
    if c.stop then c
    else if permit.testBit st.pclass && (!st.release || st.released) && st.outMask &&& permit == st.outMask then
      let m := st.outMask &&& (st.outMask ^^^ (st.outMask &&& inhibit))
      { c with
        slots := c.slots.set i none
        cmd := (c.cmd ^^^ (c.cmd &&& m)) ||| (st.outValue &&& m)
        committed := c.committed ||| 2 ^ i }
    else { c with stop := true }

/-- Disarming: every slot empty and every command off (R328). -/
def Carapace.disarm (c : Carapace) : Carapace :=
  { c with armed := false, slots := List.replicate 8 none, cmd := 0 }

/-- The gate command of a frame, other than trip clear (R319 step 1, R330, R331). -/
def Carapace.gateCommand (c : Carapace) (g : GateCmd) : Carapace :=
  match g with
  | .none => c
  | .tripClear => c
  | .disarm => c.disarm
  | .digestWord i w => { c with digestWords := c.digestWords.set i (some w) }
  | .arm base =>
    let c0 := { c with digestWords := [none, none, none] }
    match c.digestWords with
    | [some a, some b, some d] =>
      if !c.tableOk then c0
      else if (d ++ b ++ a : BitVec 384) = c.digest then
        { c0 with armed := true, lastTag := base, dropped := false, refusing := false, armIncomplete := false }
      else { c0.disarm with refusing := true }
    | _ => { c0 with armIncomplete := true }

/-- A chunk of a table body; the last one is checked and made active before evaluation (R312 steps 4 and 5). -/
def Carapace.takeChunk (c : Carapace) (k : Option Chunk) (crcOk : Bool) : Carapace × Bool × Bool :=
  match k with
  | none => (c, false, false)
  | some k =>
    let buf := (if k.first then [] else c.loadBuf) ++ k.data
    if !k.last then ({ c with loadBuf := buf }, false, false)
    else if crcOk && buf.length = 10240 then
      (({ c with
          loadBuf := [], table := some buf, digest := Config.sha384 buf, tableOk := true
          tripCause := if c.tripCause = 2 then 0 else c.tripCause }).configure (bodyConfig buf), true, false)
    else ({ c with loadBuf := [] }, false, true)

/-! ## The scan -/

/-- The flags of R304 as they stand at the latch. -/
def Carapace.flags (c : Carapace) : Nat :=
  b2n c.vfldOk + 2 * b2n (c.faults != 0) + 4 * b2n (c.tsd != 0) + 8 * b2n (c.ilim != 0) + 16 * b2n c.dropped +
  32 * b2n c.armed + 64 * b2n (c.holdAction != 0) + 128 * b2n (decide (125 ≤ sgn 8 c.temp)) +
  2 ^ 8 * ofBits 4 (fun u => (c.units.map (·.qerr)).getD u false) +
  2 ^ 12 * ofBits 4 (fun u => (c.units.map (·.povf)).getD u false) +
  2 ^ 16 * (c.applied % 2 ^ 16) + 2 ^ 32 * (c.inhibit % 2 ^ 16) + 2 ^ 48 * b2n (c.tripCause != 0)

/-- The commit-state conditions of R304. -/
def Carapace.commitState (c : Carapace) : Nat :=
  ofBits 24 (fun k => slotMask c.slots (fun st => st.pclass == k) != 0) +
  2 ^ 24 * b2n (slotMask c.slots (fun _ => true) != 0) + 2 ^ 25 * b2n c.committedPrev

/-- The item codes of R297; every other code returns 0 with no fault. -/
def itemListed (code : Nat) : Bool := (1 ≤ code && code ≤ 0x44) || (0x50 ≤ code && code ≤ 0x55)

/-- The value of a gather item (R297). -/
def Carapace.item (c : Carapace) (code : Nat) : Nat :=
  if 1 ≤ code && code ≤ 0x20 then
    b2n (c.raw.testBit (code - 1)) + 2 * b2n (c.filt.testBit (code - 1)) + 4 * min 255 (c.filtCount.getD (code - 1) 0)
  else if 0x21 ≤ code && code ≤ 0x40 then satTo 24 (c.micros - c.changedAt.getD (code - 0x21) 0)
  else if 0x41 ≤ code && code ≤ 0x44 then satTo 24 ((c.units.map (·.illegal)).getD (code - 0x41) 0)
  else if code = 0x50 then c.tempTenth
  else if code = 0x51 then c.vfldMv / 10
  else if code = 0x52 then c.scans % 2 ^ 24
  else if code = 0x53 then satTo 24 c.drops
  else if code = 0x54 then (match c.table with | some b => bodyCrc b % 65536 | none => 0)
  else if code = 0x55 then (match c.table with | some b => bodyCrc b / 65536 | none => 0)
  else 0

/-- The results of a frame's gather slots (R293, R294): a listed item whose read fails its parity comes back as a fault. -/
def Carapace.gatherResults (c : Carapace) (codes : List Nat) (faults : List Bool) : List GatherResult :=
  codes.zipIdx.map (fun p =>
    if itemListed p.1 && faults.getD p.2 false then { value := 0, valid := false, fault := true }
    else { value := c.item p.1, valid := true, fault := false })

/-- A sweep step (R289): 1 holds a channel off, with ALL_OFF beside those held already; 2 holds it on and leaves the others; 3 restores. -/
def Carapace.sweepStep (c : Carapace) (channel action : Nat) (allOff : Bool) : Carapace :=
  match action with
  | 1 => { c with hold := channel, holdAction := 1, heldOff := (if allOff then c.heldOff else 0) ||| 2 ^ channel }
  | 2 => { c with hold := channel, holdAction := 2 }
  | 3 => { c with holdAction := 0, heldOff := 0 }
  | _ => c

/-- What the content of a valid frame did before evaluation. `setArmed` and `setInhibit` are the gate and the inhibited channels as the
frame's FOUT_SET meets them, before the sweep step and the commit-gate area (R258 step 4). -/
structure GateStep where
  die : Carapace
  setArmed : Bool
  setInhibit : Nat
  squashed : Nat
  accepted : Nat
  discarded : Nat
  loadDone : Bool
  loadFail : Bool
  deriving DecidableEq, Repr

/-- OFF_ALL, FCNT resets, FOUT_UNINHIBIT and the sweep step, then steps 1 to 4 of R319 (R258 step 4). -/
def Carapace.applyContent (c : Carapace) (f : OutFrame) (loadCrcOk : Bool) : GateStep :=
  let c1 : Carapace := if f.offAll then c.disarm else c
  let c2 : Carapace := { c1 with
    units := c1.units.zipIdx.map (fun (p : CUnit × Nat) => if f.fcntReset.testBit p.2 then { p.1 with value := 0 } else p.1)
    inhibit := c1.inhibit ^^^ (c1.inhibit &&& f.uninhibit) }
  let swept := c2.sweepStep f.sweepChannel f.sweepAction f.sweepAllOff
  let k := { swept with inhibit := swept.inhibit ||| f.inhibit }.takeChunk f.chunk loadCrcOk
  let c3 : Carapace := k.1.gateCommand f.gate
  let sq := match f.squash with | some t => slotMask c3.slots (fun st => tagGe st.tag t) | none => 0
  let slots1 := match f.squash with | some t => squashSlots t c3.slots | none => c3.slots
  let fl := f.stages.foldl (acceptStage c3.armed) { slots := slots1, last := c3.lastTag, accepted := 0, discarded := 0 }
  let race := match f.release, f.squash with | some r, some t => tagGe r t | _, _ => false
  let slots2 := match f.release with | some r => releaseSlots r f.squash fl.slots | none => fl.slots
  { die := { c3 with slots := slots2, lastTag := fl.last }
    setArmed := c2.armed, setInhibit := c2.inhibit
    squashed := sq, accepted := fl.accepted, discarded := fl.discarded + b2n race
    loadDone := k.2.1, loadFail := k.2.2 }

/-- The pads that a set of commands energises under R281, thermal shutdown left aside: permit, no inhibit, gate armed, no field-watch. -/
def Carapace.gated (c : Carapace) (cmd : Nat) : Nat :=
  let on := cmd &&& (c.permit % 2 ^ 16)
  if c.armed && !c.fieldWatch then on ^^^ (on &&& c.inhibit) else 0

/-- The pads that are driven, thermal shutdown left aside: a sweep hold overrides the commands of the held channels (R289, R291). -/
def Carapace.driven16 (c : Carapace) : Nat :=
  let rest := c.cmd ^^^ (c.cmd &&& c.heldOff)
  c.gated (if c.holdAction = 2 then rest ||| 2 ^ c.hold else rest)

/-- The FAULT bit of the frame: during a sweep hold only the channel under test (R286). -/
def Carapace.faultBit (c : Carapace) : Bool :=
  if c.holdAction = 0 then c.faults != 0 else c.faults.testBit c.hold

/-- VFLD as the frame carries it: in 10 mV steps, 0 below 17.0 V (R260). -/
def Carapace.vfldField (c : Carapace) : Nat := if c.vfldMv < 17000 then 0 else c.vfldMv / 10 * 10

/-- The report of a scan (R260, R326), carrying the slots' bitmaps of scans whose report a repeat has displaced (log entry 21). -/
def Carapace.composeReport (c : Carapace) (old : Option InFrame) (sq acc com lost : Nat) (done fail : Bool)
    (gather : List GatherResult) : InFrame :=
  let o := old.getD InFrame.zero
  { seq := (c.inSeq + 1) % 65536, retry := false, watching := c.fieldWatch, vfldOk := c.vfldOk, fault := c.faultBit
    tsd := c.tsd != 0, ilim := c.ilim != 0, dropped := c.dropped, sweep := c.holdAction != 0, temp := c.temp
    inputs := c.filt, edges := c.edges ||| o.edges, applied := c.applied, inhibited := c.inhibit, vfldMv := c.vfldField
    qerr := ofBits 4 (fun u => (c.units.map (·.qerr)).getD u false)
    povf := ofBits 4 (fun u => (c.units.map (·.povf)).getD u false)
    counters := c.units.map (·.value), gather := gather
    waiting := slotMask c.slots (fun _ => true), committed := com ||| o.committed, squashed := sq ||| o.squashed
    accepted := acc ||| o.accepted, permit := c.permit, lastTag := c.lastTag, armed := c.armed, refusing := c.refusing
    trip := c.tripCause != 0, tripCause := c.tripCause, tripRule := c.tripRule, tableOk := c.tableOk
    loadDone := done || o.loadDone, loadFail := fail || o.loadFail, lostInc := min 15 (lost + o.lostInc)
    armIncomplete := c.armIncomplete }

/-- One scan (R258 steps 3 and 4, R319): the latch, the content of the frame if it is valid and not a repeat already applied,
evaluation, trips, commits and pads. -/
def Carapace.scan (c : Carapace) (f : OutFrame) (env : ScanEnv) : Carapace :=
  let flags0 := c.flags
  let take := env.frameOk && !(f.retry && c.lastOutSeq == some f.seq)
  let c1 : Carapace := (({ c with micros := c.micros + 20 }.sampleInputs env.raw.toNat (fun i => c.finMode i == 0)).filterLatch).fastSlot
    env.fast
  let c2 : Carapace := { c1 with
    temp := env.temp.toNat, tempTenth := env.tempTenth.toNat, vfldMv := env.vfldMv.toNat, scans := c1.scans + 1 }
  let st : GateStep := if take then c2.applyContent f env.loadCrcOk
    else { die := c2, setArmed := c2.armed, setInhibit := c2.inhibit, squashed := 0, accepted := 0, discarded := 0
           loadDone := false, loadFail := false }
  let d : Carapace := st.die
  let qerr := ofBits 4 (fun u => (d.units.map (·.qerr)).getD u false)
  let povf := ofBits 4 (fun u => (d.units.map (·.povf)).getD u false)
  let view : RuleView :=
    { inputs := d.filt
      flags := (flags0 % 2 ^ 8) + 2 ^ 8 * qerr + 2 ^ 12 * povf + 2 ^ 16 * (flags0 / 2 ^ 16)
      commit := d.commitState, counters := d.units.map (·.value)
      signed := (List.range 4).map (fun u => 2 ≤ d.unitMode u && d.unitMode u ≤ 4) }
  let body := d.table.getD []
  let present := d.table.isSome
  let crcBad := present && !env.tableCrcOk && !st.loadDone
  let cause0 := if crcBad then 2 else d.tripCause
  let trips := if present && cause0 != 2 then trueRules body view 3 else []
  let cause1 := if cause0 = 0 && trips != [] then 1 else cause0
  let permit := if present && cause1 != 2 then permits body view else 0
  let set := if take && st.setArmed && d.armed then f.setMask else 0
  let cmd1 := ofBits 16 (fun ch =>
    if set.testBit ch && permit.testBit ch && !st.setInhibit.testBit ch then f.setValue.testBit ch else d.cmd.testBit ch)
  let newTrip := cause1 = 1 && d.tripCause = 0
  let cmd2 := if newTrip then cmd1 ^^^ (cmd1 &&& bodyTripOff body) else cmd1
  let cleared := take && f.gate == .tripClear && cause1 = 1 && trips == []
  let com := if d.armed && !d.refusing && cause1 = 0 && c.tripCause = 0 then
      (tagOrder d.slots).foldl (commitStage permit d.inhibit) { slots := d.slots, cmd := cmd2, committed := 0, stop := false }
    else { slots := d.slots, cmd := cmd2, committed := 0, stop := true }
  let e : Carapace := { d with
    permit := permit, slots := com.slots, cmd := com.cmd, tripCause := if cleared then 0 else cause1
    tripRule := if newTrip then trips.headD 0 else d.tripRule
    tableOk := present && !crcBad, committedPrev := com.committed != 0
    lastOutSeq := if take then some f.seq else d.lastOutSeq, heardOut := env.frameOk }
  let drive := e.driven16
  let tsd := (e.tsd &&& e.gated e.cmd) ||| (env.hot.toNat &&& (drive ||| c.applied))
  let pads := drive ^^^ (drive &&& tsd)
  let low := env.padsLow.toNat &&& pads
  let high := env.padsHigh.toNat &&& (0xffff ^^^ pads)
  let e1 : Carapace := { e with
    tsd := tsd, applied := pads, ilim := env.limit.toNat &&& pads, lowPads := low
    faults := high ||| (if e.vfldOk then low &&& e.lowPads else 0) }
  let results := if take then e1.gatherResults f.gather env.gatherFaults else []
  let rep := e1.composeReport (if c.repeatIn then some c.report else none) st.squashed st.accepted com.committed st.discarded
    st.loadDone st.loadFail results
  let e2 : Carapace := if take && f.watch then { e1.disarm with fieldWatch := true, applied := 0 } else e1
  { e2 with
    report := rep, inSeq := rep.seq, edges := 0
    inFlight := if c.repeatIn then { c.inFlight with retry := true } else c.report }

/-- The first 640-bit frame after a wake ends field-watch (R268): the frame of this slot still shows field-watch, and every change that no
acknowledged frame has carried goes into the reports that follow (R264). -/
def Carapace.leaveWatch (c : Carapace) : Carapace :=
  let live := { c with
    fieldWatch := false, repeatIn := false, watchRepeat := false, watchEdges := 0
    edges := c.edges ||| c.watchEdges ||| c.report.edges ||| c.inFlight.edges }
  let shown := ({ c with edges := 0 } : Carapace).composeReport none 0 0 0 0 false false []
  { live with report := shown, inFlight := shown, inSeq := shown.seq }

/-- A silence drop (R27, R267): every command off, the gate disarmed, DROPPED set; counters, configuration and table are kept. -/
def Carapace.silenceDrop (c : Carapace) : Carapace :=
  if c.fieldWatch then c
  else { c.disarm with applied := 0, dropped := true, drops := c.drops + 1 }

/-- A Carapace reset (R170): slots, table store, configuration and counters; the die's physical inputs and monitors stay. -/
def Carapace.reset (c : Carapace) : Carapace :=
  { Carapace.dark with
    viso := c.viso, driven := c.driven, raw := c.raw, filt := c.raw, fastRaw := c.fastRaw, fast := c.fastRaw
    vfldOk := c.vfldOk, vfldMv := c.vfldMv, temp := c.temp, tempTenth := c.tempTenth }

end Sys2Proof.Machine
end

