-- ==== Sys2Proof/Machine/Barrier.lean ====
section
/-!
DEFINITION. Sys2Proof/Machine/Barrier.lean: the logic die's end of the barrier link: composing outbound frames (R259, R262,
R283, R293), the shadow of the stage slots (R327), the isolation sweep (R289 to R292), FLD_GATHER (R293 to R296).
-/
namespace Sys2Proof.Machine
open Sys2Proof

/-- The logic die sends and takes 640-bit frames: the PLL is locked, the 641 is neither in Watch nor in power-on reset, and boot
step F1 has brought the link up (R154, R161, R178). -/
def State.linkRuns (s : State) : Bool :=
  s.b F.CLK_STAT_PLL_LOCK && !s.wake.watch && !s.wake.inReset && s.b F.RST_BOOT_FSTEP

/-- The Carapace is powered: VISO_IN is present and the barrier transformer drives it (R30, R168). -/
def Carapace.on (c : Carapace) : Bool := c.viso && c.driven

/-- The gather elements that the next frame requests: failed ones first, then those not yet requested, at most eight (R293). -/
def gatherPick (l : List GatherElem) : List Nat :=
  let idx := List.range l.length
  let ph := fun i => (l.map GatherElem.phase).getD i 4
  (idx.filter (fun i => ph i == 2) ++ idx.filter (fun i => ph i == 0)).take 8

/-- Marks picked elements as in flight. -/
def gatherMark (l : List GatherElem) (pick : List Nat) : List GatherElem :=
  l.zipIdx.map (fun (p : GatherElem × Nat) => if pick.contains p.2 then
    { p.1 with phase := if p.1.phase = 2 then 3 else 1, retried := p.1.retried || p.1.phase = 2 } else p.1)

/-- The content of a new outbound frame from what the pages have gathered since the last one (R259, R283, R318). A sweep frame carries the
oldest sweep step that waits (R289). -/
def Barrier.newFrame (b : Barrier) (seq channel : Nat) (allOff : Bool) : OutFrame :=
  let step := b.sweepQ.headD (channel, 0)
  { seq := seq % 65536, retry := false, watch := b.watch, offAll := b.offAll, setValue := b.setValue, setMask := b.setMask
    uninhibit := b.uninhibit, fcntReset := b.fcntReset, sweepChannel := step.1, sweepAction := step.2, sweepAllOff := allOff
    inhibit := b.inhibit, gather := (gatherPick b.gather).map (fun i => (b.gather.map GatherElem.code).getD i 0)
    stages := b.stages.take 4, squash := b.squash, release := b.release, gate := b.gateQ.headD .none
    chunk := match b.gateQ with | [] => b.chunks.head? | _ => none }

/-- What remains at the pages once a new frame has taken its content. -/
def Barrier.afterFrame (b : Barrier) (f : OutFrame) : Barrier :=
  let pick := gatherPick b.gather
  { b with
    setValue := 0, setMask := 0, uninhibit := 0, fcntReset := 0, stages := b.stages.drop 4, squash := none, release := none
    gateQ := b.gateQ.drop 1, chunks := if b.gateQ = [] then b.chunks.drop 1 else b.chunks
    offAll := false, watch := false, sweepQ := b.sweepQ.drop 1, inhibit := 0, rise := none, fall := none, out := f
    gather := gatherMark b.gather pick
    sent := b.sent ++ f.stages.map (fun st => (none, st))
    due := b.due ++ [{ wait := none, elems := pick, rise := b.rise, fall := b.fall, frame := f }] }

/-- The outbound frame of the slot: the repeat of content that failed once (R262), or new content. -/
def State.sendFrame (s : State) : State :=
  if s.bar.outFails = 1 then { s with bar := { s.bar with out := { s.bar.out with retry := true } } }
  else
    let f := s.bar.newFrame (s.g F.FLD_SEQ_OUT + 1) (s.g F.FOUT_SWEEPSTAT_CHANNEL) (s.b F.FOUT_SWEEPSTAT_ALL_OFF)
    { s with bar := s.bar.afterFrame f }.p F.FLD_SEQ_OUT f.seq

/-- One slot on the Carapace (R258). Without a powered Carapace there is no scan; without a running link no valid frame arrives;
in field-watch only a valid frame ends it (R268). -/
def effCarapaceScan (env : ScanEnv) (s : State) : State :=
  let s1 := if s.linkRuns then s.sendFrame else s
  let env1 := { env with frameOk := env.frameOk && s.linkRuns }
  if !s1.cpc.on then s1
  else if s1.cpc.fieldWatch then
    if env1.frameOk then { s1 with cpc := s1.cpc.leaveWatch.scan s1.bar.out env1 }
    else { s1 with cpc := { s1.cpc with heardOut := false } }
  else { s1 with cpc := s1.cpc.scan s1.bar.out env1 }

/-- What a frame that is lost on both attempts asks for again (R195, R262): its gather elements are fetched again, its sweep step and its
inhibits go into the next frame. What accessors wrote is not sent again. -/
def Barrier.frameLost (b : Barrier) (f : OutFrame) : Barrier :=
  { b with
    sweepQ := if f.sweepAction = 0 then b.sweepQ else (f.sweepChannel, f.sweepAction) :: b.sweepQ
    inhibit := b.inhibit ||| f.inhibit }

/-! ## Sweep and gather on the logic die -/

/-- A channel's result register starts again as not tested (R290, and the note under FOUT_SWRc). -/
def State.clearSwr (s : State) (c : Nat) : State := s.setWord (F.FOUT_SWR_RESULT c).key 0

/-- The sweep steps that hold channel `c` off, with ALL_OFF after every other channel in MASK (R289 step 1). -/
def State.holdSteps (s : State) (c : Nat) : List (Nat × Nat) :=
  let others := if s.b F.FOUT_SWEEPSTAT_ALL_OFF then (bitsBelow 16 (s.g F.FOUT_SWEEPSTAT_MASK)).filter (fun m => m != c) else []
  others.map (fun m => (m, 1)) ++ [(c, 1)]

/-- The sweep takes its next channel, or finishes (R289); `restore` holds the restore of the channel before it (step 4). -/
def State.sweepNext (s : State) (restore : List (Nat × Nat)) (rest : List Nat) : State :=
  match rest with
  | [] =>
    (((({ s with bar := { s.bar with sweep := none, sweepQ := restore } }.p F.FOUT_SWEEPSTAT_RUNNING 0).p F.FOUT_SWEEPSTAT_DONE 1).p
      F.FOUT_STAT_SWEEPING 0).evt 0x12 0)
  | c :: t =>
    { s with bar := { s.bar with
        sweepQ := restore ++ s.holdSteps c
        sweep := some { remaining := t, step := 0, attempt := 1, faulted := false, firstFault := false } } }.p
      F.FOUT_SWEEPSTAT_CHANNEL c

/-- The sweep aborts: held channels are restored and unfinished ones read not tested (R292). -/
def State.sweepAbort (s : State) : State :=
  match s.bar.sweep with
  | none => s
  | some sw =>
    let c := s.g F.FOUT_SWEEPSTAT_CHANNEL
    let s1 := (c :: sw.remaining).foldl State.clearSwr s
    (((({ s1 with bar := { s1.bar with sweep := none, sweepQ := [(c, 3)] } }.p F.FOUT_SWEEPSTAT_RUNNING 0).p F.FOUT_SWEEPSTAT_ABORTED 1).p
      F.FOUT_STAT_SWEEPING 0).evt 0x12 0)

/-- A START of the sweep (R289, R292): every SWR in MASK is cleared and the first channel is held off. -/
def State.sweepStart (s : State) (mask : Nat) (onTest allOff : Bool) (settle : Nat) : State :=
  match s.bar.sweep with
  | some _ => s.lost 0x12 63
  | none =>
    let chans := bitsBelow 16 mask
    let s1 := chans.foldl State.clearSwr s
    let s2 := ((((((s1.p F.FOUT_SWEEPSTAT_MASK mask).pb F.FOUT_SWEEPSTAT_ON_TEST onTest).pb F.FOUT_SWEEPSTAT_ALL_OFF allOff).p
      F.FOUT_SWEEPSTAT_RUNNING 1).p F.FOUT_SWEEPSTAT_DONE 0).p F.FOUT_SWEEPSTAT_ABORTED 0).p F.FOUT_SWEEPSTAT_SETTLE
      (max 1 settle)
    (s2.p F.FOUT_STAT_SWEEPING 1).sweepNext s.bar.sweepQ chans

/-- The end of a channel test with a result (R290); a lasting channel becomes inhibited by the next frame (log entry 22). -/
def State.sweepResult (s : State) (sw : Sweep) (c : Nat) : State :=
  let s1 :=
    if !sw.firstFault then s.p (F.FOUT_SWR_RESULT c) 1
    else if !sw.faulted then (s.p (F.FOUT_SWR_RESULT c) 2).transient 0x12 14
    else
      let s2 := ((s.p (F.FOUT_SWR_RESULT c) 3).lasting 0x12 15).evt 0x12 1
      { s2 with bar := { s2.bar with inhibit := s2.bar.inhibit ||| 2 ^ c } }
  s1.sweepNext [(c, 3)] sw.remaining

/-- A hold has lasted SETTLE ms (R289): FAULT is taken from the last valid frame, and the sweep moves to its next step, attempt or
channel. A hold lasts from the frame that carries it. -/
def effSweepSettleExpiry (s : State) : State :=
  match s.bar.sweep with
  | none => s
  | some sw =>
    if s.bar.sweepQ != [] then s
    else
      let c := s.g F.FOUT_SWEEPSTAT_CHANNEL
      let fault := s.bar.testFault
      let s1 := if sw.step = 0 then s.pb (F.FOUT_SWR_OFF_FAULT c) fault else s.pb (F.FOUT_SWR_ON_FAULT c) fault
      let sw1 := { sw with faulted := sw.faulted || fault }
      let onRuns := s.b F.FOUT_SWEEPSTAT_ON_TEST && (s.g F.ITE_PERMIT_GRANT).testBit c && s.b F.PWR_STAT_VFLD_OK
      if sw.step = 0 && onRuns then { s1 with bar := { s1.bar with sweep := some { sw1 with step := 1 }, sweepQ := [(c, 2)] } }
      else
        let s2 := if sw.step = 0 then s1.p (F.FOUT_SWR_ON_SKIPPED c) 1 else s1
        if sw.attempt = 1 && sw1.faulted then
          ({ s2 with bar := { s2.bar with
              sweep := some { sw1 with step := 0, attempt := 2, faulted := false, firstFault := true }, sweepQ := [(c, 1)] } }.p
            (F.FOUT_SWR_ON_FAULT c) 0).p (F.FOUT_SWR_ON_SKIPPED c) 0
        else s2.sweepResult sw1 c

/-- A channel test ends as not tested, and the sweep goes on with the next channel (R291). -/
def State.sweepSkip (s : State) : State :=
  match s.bar.sweep with
  | none => s
  | some sw =>
    let c := s.g F.FOUT_SWEEPSTAT_CHANNEL
    (s.clearSwr c).sweepNext [(c, 3)] sw.remaining

/-- A START of a gather (R293, R296). -/
def State.gatherStart (s : State) (count : Nat) : State :=
  if s.b F.FLD_GSTAT_RUNNING then s.lost 0x10 63
  else
    let n := if count = 0 || 16 < count then 16 else count
    let code := fun (i : Nat) => fld (s.word (F.FLD_GCODE0_CODE.key + 8 * (i / 8))).toNat (8 * (i % 8)) 8
    let s1 := (List.range 16).foldl (fun (x : State) i => x.setWord (F.FLD_GRES_VALUE i).key 0) s
    let s2 := s1.setWord F.FLD_GSTAT_RUNNING.key 1
    { s2 with bar := { s2.bar with
        gather := (List.range n).map (fun i => { code := code i, phase := 0, value := 0, lasting := false, retried := false }) } }

/-- A running gather aborts (R296). -/
def State.gatherAbort (s : State) : State :=
  if s.b F.FLD_GSTAT_RUNNING then
    ((({ s with bar := { s.bar with gather := [] } }.p F.FLD_GSTAT_RUNNING 0).p
      F.FLD_GSTAT_ABORTED 1).lost 0x10 63)
  else s

/-- Elements whose request or result was lost with its frame are asked for again (log entry 24). -/
def Barrier.gatherAgain (b : Barrier) (l : List Nat) : Barrier :=
  { b with gather := b.gather.zipIdx.map (fun (p : GatherElem × Nat) =>
      if l.contains p.2 then { p.1 with phase := if p.1.phase = 1 then 0 else if p.1.phase = 3 then 2 else p.1.phase } else p.1) }

/-- What the link ends with the 641's operation or the Carapace's reset (R161, R197): frames in flight, and every second attempt that is
pending, uncounted; a running gather starts its unfinished elements anew, and the enables of FIN_RISEEN and FIN_FALLEN that have not
been reported go again. -/
def Barrier.linkEnds (b : Barrier) : Barrier :=
  { b with
    rise := (b.due.filterMap Due.rise ++ b.rise.toList).getLast?, fall := (b.due.filterMap Due.fall ++ b.fall.toList).getLast?
    outFails := 0, inFails := 0, sent := [], due := [], watchLink := { b.watchLink with outFails := 0, inFails := 0 }
    gather := b.gather.map (fun e => if e.phase = 4 then e else { e with phase := 0, retried := false }) }

/-- One gather result reaches its element (R294): a fault is fetched again once, a second fault makes the element lasting. A slot without a
result says nothing. -/
def State.gatherResult (s : State) (i : Nat) (r : GatherResult) : State :=
  match s.bar.gather[i]? with
  | none => s
  | some e =>
    if e.phase != 1 && e.phase != 3 then s else
    let put := fun (x : State) (e' : GatherElem) => { x with bar := { x.bar with gather := x.bar.gather.set i e' } }
    if r.valid then
      let s1 := if e.phase = 3 then s.transient 0x10 16 else s
      put s1 { e with phase := 4, value := r.value }
    else if e.phase = 3 then put ((s.lasting 0x10 17).evt 0x10 2) { e with phase := 4, lasting := true, value := 0 }
    else put s { e with phase := 2 }

/-- Elements are delivered in index order, and the gather is done when every one has been (R295). -/
def State.gatherDeliver (s : State) : State :=
  if !s.b F.FLD_GSTAT_RUNNING then s
  else
    let l := s.bar.gather
    let ready := (l.takeWhile (fun e => e.phase == 4)).length
    let s1 := (List.range ready).foldl (fun (x : State) i =>
      match l[i]? with
      | none => x
      | some e =>
        let y := ((((x.p (F.FLD_GRES_VALUE i) e.value).pb (F.FLD_GRES_VALID i) true).pb (F.FLD_GRES_LASTING i) e.lasting).pb
          (F.FLD_GRES_RETRIED i) e.retried).p (F.FLD_GRES_CODE i) e.code
        (y.pb (F.FLD_GSTAT_LASTING.bit i) e.lasting).pb (F.FLD_GSTAT_RETRIED.bit i) e.retried) s
    let s2 := s1.p F.FLD_GSTAT_DELIVERED ready
    if ready = l.length then
      (({ s2 with bar := { s2.bar with gather := [] } }.p F.FLD_GSTAT_RUNNING 0).p F.FLD_GSTAT_DONE 1).evt 0x10 0
    else s2

end Sys2Proof.Machine
end

