-- ==== Sys2Proof/Machine/Car.lean ====
section
/-!
DEFINITION. Sys2Proof/Machine/Car.lean: the car's position, speed and door zone (R335 to R341), vane readings and corrections
(R342 to R347), the relearn run (R349 to R352).
-/
namespace Sys2Proof.Machine
open Sys2Proof

/-- Whether an input select is enabled and its input active in a mask of filtered states (R90). -/
def selActive (sel inputs : Nat) : Bool := sel.testBit 7 && (inputs.testBit (sel % 32) != sel.testBit 6)
def selEnabled (sel : Nat) : Bool := sel.testBit 7

/-- The edges of a select's filtered input that a frame carries (R264, R342), each as the level it leads to: of an input whose recorded
change has left its state as before, both. -/
def selEdges (sel edges before now : Nat) : List Bool :=
  if !(sel.testBit 7 && edges.testBit (sel % 32)) then []
  else if selActive sel before = selActive sel now then [!selActive sel now, selActive sel now] else [selActive sel now]

/-- A 64-bit two's complement field. -/
def State.gs (s : State) (f : Fld) : Int := sgn f.w (s.g f)
def State.ps (s : State) (f : Fld) (v : Int) : State := s.p f (unsgn f.w v)

/-- The counter unit that CAR follows (R335). -/
def State.carUnit (s : State) : Nat := if s.b F.CAR_CFG_UNIT then 2 else 0

/-- The distance that a count stands for: floor(C × SCALE / 65536). -/
def State.distance (s : State) (c : Int) : Int := (c * (s.g F.CAR_SCALE_SCALE : Int)) / 65536

/-- The position of R335 at a count. -/
def State.posAt (s : State) (c : Int) : Int := sgn 64 (unsgn 64 (s.gs F.CAR_OFFSET_OFFSET + s.distance c))

/-- Door zone, landing and level (R340, R341) by the inputs of the latest valid frame. -/
def State.zoneStep (s : State) : State :=
  let pos := s.gs F.CAR_POS_POS
  let sel := s.g F.CAR_CFG_DZ_IN
  let inOk := selActive sel (s.g F.FIN_STATE_STATE)
  let inZone := fun i => s.landValid i &&
    decide (s.gs (F.CAR_LLEVEL_LEVEL i) - (s.g (F.CAR_LZONE_BELOW i) : Int) ≤ pos ∧
      pos ≤ s.gs (F.CAR_LLEVEL_LEVEL i) + (s.g (F.CAR_LZONE_ABOVE i) : Int))
  let land := (List.range 64).find? inZone
  let valid := s.b F.CAR_STAT_VALID
  let dz := if valid then land.isSome && (!selEnabled sel || inOk) else inOk
  let i := land.getD 0
  let lvl := valid && dz && decide ((pos - s.gs (F.CAR_LLEVEL_LEVEL i)).natAbs ≤ s.g F.CAR_TOL_LEVEL_TOL)
  let s1 := ((s.pb F.CAR_STAT_DZ dz).p F.CAR_STAT_LANDING (if valid && dz then i else 0)).pb F.CAR_STAT_AT_LEVEL lvl
  let s2 := s1.evtIf (dz && !s.b F.CAR_STAT_DZ) 0x18 0
  let s3 := s2.evtIf (!dz && s.b F.CAR_STAT_DZ) 0x18 1
  s3.evtIf (lvl && !s.b F.CAR_STAT_AT_LEVEL) 0x18 2

/-- The relearn takes up a phase (R349). -/
def State.relearnPhase (s : State) (ph : Nat) : State :=
  ({ s with car := { s.car with away := false } }.p F.CAR_RELEARN_PHASE ph).pb F.CAR_STAT_RELEARNING (1 ≤ ph && ph ≤ 3)

/-- The position is no longer trusted: a second attempt that waits clears uncounted, and the door zone follows DZ_IN alone (R341,
R347). -/
def State.distrust (s : State) : State := ((s.p F.CAR_STAT_VALID 0).p F.CAR_STAT_RETRY_PENDING 0).zoneStep

/-- The relearn starts, or starts again, from phase 1; phase 1 is skipped while REF_IN is off (R349, R351). -/
def State.relearnStart (s : State) : State :=
  let ref := selActive (s.g F.CAR_CFG_REF_IN) (s.g F.FIN_STATE_STATE)
  ((s.bump F.CAR_RELEARN_STARTS).distrust).relearnPhase (if ref then 1 else 2)

/-- A position deviation (R347). -/
def State.deviation (s : State) : State :=
  let s1 := (s.distrust.evt 0x18 6).classInc 46
  { s1 with mod := { s1.mod with positionLost := true, lostCause := 0x05 } }

/-- The relearn is complete (R350, R101). -/
def State.relearnDone (s : State) : State :=
  let s1 := ((s.p F.CAR_STAT_VALID 1).relearnPhase 4).evt 0x18 7
  { s1 with mod := { s1.mod with
      positionLost := false, base := if s1.b F.MOD_CFG_PL_EXIT then .outOfService else .normal, baseCause := 0x06
      baseWho := 0 } }

/-- The stored edge of a landing's vane: its lower edge VANE_LO or its upper edge VANE_HI. -/
def State.vaneEdge (s : State) (hi : Bool) (i : Nat) : Int :=
  s.gs (if hi then F.CAR_LVHI_VANE_HI i else F.CAR_LVLO_VANE_LO i)

/-- The valid entry whose edge of a kind lies nearest to a position, the lowest number first. -/
def State.nearestEdge (s : State) (hi : Bool) (e : Int) : Option Nat :=
  (List.range 64).foldl (fun best i =>
    if s.landValid i then
      match best with
      | none => some i
      | some j => if (s.vaneEdge hi i - e).natAbs < (s.vaneEdge hi j - e).natAbs then some i else some j
    else best) none

/-- The valid entries whose edge of a kind lies within CORR_TOL of a position (R343). -/
def State.edgeMatches (s : State) (hi : Bool) (e : Int) : List Nat :=
  (List.range 64).filter (fun i => s.landValid i && decide ((s.vaneEdge hi i - e).natAbs ≤ s.g F.CAR_TOL_CORR_TOL))

/-- Records a vane edge (R343, R352); without any valid entry the nearest entry and the deviation from it are not stated. -/
def State.recordVane (s : State) (e : Int) (hi up matched failed second ignored : Bool) (land : Option Nat) : State :=
  let d := s.draw
  let s0 := if land.isSome then s else d.2
  let li := match land with | some i => i | none => d.1.toNat % 64
  let dev : Int := match land with | some i => s.vaneEdge hi i - e | none => (d.1.toNat / 64 : Nat)
  ((((((((s0.ps F.CAR_VCAP_POS_E e).p F.CAR_VCAP_INFO_LANDING li).pb F.CAR_VCAP_INFO_MATCHED matched).pb
    F.CAR_VCAP_INFO_EDGE hi).pb F.CAR_VCAP_INFO_UP up).pb F.CAR_VCAP_INFO_FAILED failed).pb
    F.CAR_VCAP_INFO_SECOND second).pb F.CAR_VCAP_INFO_IGNORED ignored).ps F.CAR_VCAP_INFO_DEV dev

/-- A reading that passes (R344, R345, R350), and one that fails (R345, R346, R351). -/
def State.vanePass (s : State) (e : Int) (hi : Bool) (i : Nat) : State :=
  let s1 := s.ps F.CAR_OFFSET_OFFSET (s.gs F.CAR_OFFSET_OFFSET + (s.vaneEdge hi i - e))
  let s2 := if s1.b F.CAR_STAT_RETRY_PENDING then (s1.transient 0x18 24).p F.CAR_STAT_RETRY_PENDING 0 else s1
  if s2.g F.CAR_RELEARN_PHASE = 3 then s2.relearnDone else s2
def State.vaneFail (s : State) : State :=
  if s.b F.CAR_STAT_RETRY_PENDING then
    let s1 := ((s.lasting 0x18 25).evt 0x18 5).p F.CAR_STAT_RETRY_PENDING 0
    if s1.g F.CAR_RELEARN_PHASE = 3 then s1.relearnStart
    else if s1.b F.CAR_STAT_VALID then s1.deviation else s1
  else s.p F.CAR_STAT_RETRY_PENDING 1

/-- A vane edge in a valid frame, at extended count `c` and speed `v` (R342 to R345, R352). -/
def State.vaneStep (s : State) (c v : Int) (rising : Bool) : State :=
  let sel := s.g F.CAR_CFG_VANE_IN
  let up := s.b F.CAR_STAT_UP
  let counts := !s.b (F.FIN_CFG_MODE (sel % 32)) && (up || s.b F.CAR_STAT_DOWN) && !s.car.afterLasting
  let e := s.posAt c - (v * (s.g (F.FIN_CFG_FILTER (sel % 32)) : Int)) / 50000
  let hi := rising != up
  let m := s.edgeMatches hi e
  let second := s.b F.CAR_STAT_RETRY_PENDING
  if !counts then s.recordVane e hi up false false false true (s.nearestEdge hi e)
  else
    match m with
    | [i] => (((s.recordVane e hi up true false second false (some i)).vanePass e hi i).evt 0x18 4)
    | _ => (((s.recordVane e hi up false true second false (s.nearestEdge hi e)).vaneFail).evt 0x18 4)

/-- The speed of R337 between two counts `n` frames apart. -/
def State.speedOf (s : State) (d : Int) (n : Nat) : Int := (s.distance d * 50000) / (n : Int)

/-- CAR in a valid inbound frame whose shadows are updated, with the edges that it carries (R335 to R352). With no earlier valid frame among
the last 50, R337 states no speed, and the value is free. -/
def State.carFrame (s : State) (edges : Nat) : State :=
  let k := s.car.frame
  let c : Int := s.gs (F.FCNT_VAL_VALUE s.carUnit)
  let inputs := s.g F.FIN_STATE_STATE
  let hist := ((k, c) :: s.car.history).filter (fun h => decide (k ≤ h.1 + 50))
  let old := hist.getLast?.getD (k, c)
  let d := s.draw
  let free := old.1 = k
  let v : Int := if free then sgn 32 d.1.toNat else sgn 32 (unsgn 32 (s.speedOf (c - old.2) (k - old.1)))
  let s0 := if free then d.2 else s
  let lim : Int := (s.g F.CAR_TOL_STOP_SPEED * 1000 : Nat)
  let up := decide (0 < v ∧ lim ≤ v)
  let down := decide (v < 0 ∧ lim ≤ -v)
  let s1 := { s0 with car := { s0.car with history := hist } }
  let s2 := (((s1.ps F.CAR_SPEED_V v).pb F.CAR_STAT_UP up).pb F.CAR_STAT_DOWN down).pb F.CAR_STAT_STOPPED (!up && !down)
  let s3 := s2.evtIf (!up && !down && !s.b F.CAR_STAT_STOPPED) 0x18 3
  let ref := selActive (s.g F.CAR_CFG_REF_IN) inputs
  let refEdges := selEdges (s.g F.CAR_CFG_REF_IN) edges s.car.inputs inputs
  let ph := s3.g F.CAR_RELEARN_PHASE
  let s4 := if ph = 1 && !ref then s3.relearnPhase 2
    else if ph = 2 && refEdges.contains true then
      (s3.ps F.CAR_OFFSET_OFFSET (s3.gs F.CAR_REFPOS_POS - s3.distance c)).relearnPhase 3
    else if ph = 3 && !up && !down && !s.b F.CAR_STAT_STOPPED then { s3 with car := { s3.car with away := true } }
    else s3
  let vanes := selEdges (s.g F.CAR_CFG_VANE_IN) edges s.car.inputs inputs
  let s5 := vanes.foldl (fun (x : State) rising => x.vaneStep c v rising) s4
  let s6 : State := s5.ps F.CAR_POS_POS (s5.posAt c)
  let pos : Int := s6.gs F.CAR_POS_POS
  let s7 := if s6.b F.CAR_STAT_VALID && decide (pos < s6.gs F.CAR_LIMIT_LO_LO ∨ s6.gs F.CAR_LIMIT_HI_HI < pos) then
      s6.deviation else s6
  let s8 := { s7 with car := { s7.car with inputs := inputs, afterLasting := false } }
  s8.zoneStep

end Sys2Proof.Machine
end

