-- ==== Sys2Proof/Machine/Door.lean ====
section
/-!
DEFINITION. Sys2Proof/Machine/Door.lean: the two door engines (R353 to R367). Engine 0 is DOR0, the front door; engine 1 is
DOR1, the rear door.
-/
namespace Sys2Proof.Machine
open Sys2Proof

/-- The engine's state beside its page. -/
def State.door (s : State) (n : Nat) : DoorState := if n = 0 then s.dor0 else s.dor1
def State.setDoor (s : State) (n : Nat) (d : DoorState) : State := if n = 0 then { s with dor0 := d } else { s with dor1 := d }

/-- The page of an engine. -/
def dorPage (n : Nat) : Nat := 0x19 + n

/-- The engine's state by R358's number, and the change of it, which posts DOR_EVT.STATE. -/
def State.doorIs (s : State) (n : Nat) : Nat := s.g (F.DOR_STATE_STATE n)
def State.doorTo (s : State) (n st : Nat) : State :=
  if s.doorIs n = st then s
  else
    ((((s.p (F.DOR_STATE_STATE n) st).pb (F.DOR_STAT_LOCKED n) (st == 1)).pb (F.DOR_STAT_HELD n) (st == 9)).pb
      (F.DOR_STAT_PARK n) (st == 10)).evt (dorPage n) 0

/-- The payload of the command frame (R354). -/
def State.doorPayload (s : State) (n : Nat) : List Byte :=
  [BitVec.ofNat 8 (s.g (F.DOR_STATE_CMD n)), BitVec.ofNat 8 (s.g (F.DOR_STATE_SEQ n)), BitVec.ofNat 8 (s.door n).flags,
   BitVec.ofNat 8 (s.g (F.DOR_STATE_LANDING n)), 0, 0, 0, 0]

/-- A new command to the operator (R354, R356): CMD, SEQ, the flags of byte 2, and the landing it is given at. It is sent once on
the door job. -/
def State.doorSend (s : State) (n cmd flags : Nat) : State :=
  let s1 := ((s.p (F.DOR_STATE_CMD n) cmd).wrapInc (F.DOR_STATE_SEQ n)).p (F.DOR_STATE_LANDING n) (s.g F.CAR_STAT_LANDING)
  let d := s1.door n
  let s2 := s1.setDoor n { d with flags := flags, openSent := d.openSent || cmd == 1 }
  s2.jobSend 0 (1 + n) (s2.doorPayload n)

/-- The open class of the side is granted in the latest valid frame (R357). -/
def State.openGranted (s : State) (n : Nat) : Bool := (s.g F.ITE_PERMIT_GRANT).testBit (16 + n)

/-- A car call is registered. -/
def State.carCalls (s : State) : Bool := s.b F.DSE_CARCALLS_CALLS

/-- Nudging is allowed in the lift mode (R362). -/
def State.nudgeAllowed (s : State) : Bool :=
  match s.lift with
  | .normal | .evacuation | .recall1 => true
  | .independent => s.carCalls
  | _ => false

/-- The lift mode holds the door open (R366): in Recall Phase 1 at the recall landing, or where the car stands in its stead (R89). -/
def State.modeHolds (s : State) : Bool :=
  match s.lift with
  | .independent => !s.carCalls
  | .recall1 => s.noLand || (s.b F.CAR_STAT_DZ && s.g F.CAR_STAT_LANDING == s.g F.MOD_CFG_RECALL_LANDING)
  | .outOfService => s.b F.MOD_CFG_OOS_DOORS
  | _ => false

/-- Doors open and close only while a button is held (R366). -/
def State.holdToRun (s : State) : Bool := s.lift == .inspection || s.lift == .recall2

/-- Buttons act as R359 states only in these modes (R366). -/
def State.buttonsAct (s : State) : Bool :=
  match s.lift with
  | .normal | .evacuation | .independent => true
  | _ => false

/-- No new command is given, and the operator completes its last movement (R366; log entry 167). -/
def State.doorMute (s : State) : Bool := s.lift == .rescue || s.lift == .positionLost

/-- The landing has a door on the engine's side (R353, R369). -/
def State.doorSide (s : State) (n l : Nat) : Bool :=
  s.landValid l && (if n = 0 then s.b (F.CAR_LFLAGS_FRONT l) else s.b (F.CAR_LFLAGS_REAR l))

/-- The dwell of R359: its value by what the door was opened for, 0 acting as 1. -/
def State.dwellValue (s : State) (n : Nat) : Nat :=
  let d := s.door n
  max 1 (if d.afterReopen then s.g (F.DOR_DWELL_REOPEN n) else if d.hallServed then s.g (F.DOR_DWELL_HALL n)
    else s.g (F.DOR_DWELL_CAR n))

/-- The dwell starts again from its value; an interrupted curtain holds it. -/
def State.dwellRestart (s : State) (n : Nat) : State :=
  s.setDoor n { s.door n with dwell := s.dwellValue n, dwellRunning := true, dwellHeld := s.b (F.DOR_STAT_CURTAIN n), ask := 0 }

/-- The door is open: HELD after too many lock misses (R364), HOLD where the HOLD input or the lift mode holds it, OPEN with its dwell
otherwise (R358, R359). -/
def State.doorOpened (s : State) (n : Nat) : State :=
  if (s.door n).heldDue then
    ((s.doorTo n 9).evt (dorPage n) 4).setDoor n { s.door n with dwellRunning := false, ask := 0, heldDue := false }
  else if (s.door n).holdIn || s.modeHolds then
    (s.doorTo n 5).setDoor n { s.door n with dwellRunning := false, ask := 0 }
  else (s.doorTo n 4).dwellRestart n

/-- A reopen, where the landing of the last command has the side and the open class is granted; a stop otherwise, after which a dwell leads
to the next close (R353, R357, R360, R364; log entry 167). -/
def State.reopenOrStop (s : State) (n : Nat) : State :=
  if s.openGranted n && s.doorSide n (s.g (F.DOR_STATE_LANDING n)) then
    let s1 := (s.doorSend n 1 1).doorTo n 3
    s1.setDoor n { s1.door n with afterReopen := true, confirming := false, ask := 0 }
  else
    let s1 := (s.doorSend n 4 0).doorTo n 8
    (s1.setDoor n { s1.door n with afterReopen := true, confirming := false }).dwellRestart n

/-- An obstruction in CLOSING, or one that counts in NUDGING (R360, R361). -/
def State.obstruct (s : State) (n : Nat) : State :=
  let s1 := ((s.reopenOrStop n).bump (F.DOR_STATE_REOPENS n)).bump (F.DOR_COUNT_OBSTRUCTIONS n)
  let s2 := s1.evt (dorPage n) 1
  let k := s2.g (F.DOR_CFG_NUDGE_AFTER n)
  if k ≠ 0 && k ≤ s2.g (F.DOR_STATE_REOPENS n) && s2.nudgeAllowed then s2.p (F.DOR_STAT_NUDGE_ARMED n) 1 else s2

/-- Obstruction by its kind: curtain, or force and the operator's own reversal (R360). -/
def State.obstructIf (s : State) (n : Nat) (curtain force : Bool) : State :=
  if s.doorMute then s
  else if s.doorIs n = 6 && (curtain || force) then s.obstruct n
  else if s.doorIs n = 7 && force then s.obstruct n
  else s

/-- The engine takes the state that the operator's STATE matches (R358, UNKNOWN). -/
def State.matchOperator (s : State) (n op : Nat) : State :=
  match op with
  | 1 => (s.doorTo n 2).setDoor n { s.door n with confirming := true }
  | 2 => s.doorTo n 3
  | 3 => s.doorOpened n
  | 4 => s.doorTo n 6
  | 5 => s.doorTo n 8
  | 6 => s.doorTo n 7
  | _ => s

/-- Whether the engine acts at all (R353, R367): in Halt it is frozen as DSE is. -/
def State.doorActs (s : State) (n : Nat) : Bool := s.b (F.DOR_CFG_EN n) && s.doorIs n ≠ 10 && s.power != .halt

/-- An authenticated status frame of the operator (R355, R358, R360). -/
def State.doorStatus (s : State) (n : Nat) (pl : List Byte) : State :=
  let op := (pl.getD 0 0).toNat
  let fl := (pl.getD 2 0).toNat
  let force := leAt pl 4 2
  let s1 := ((s.p (F.DOR_STATE_OP_STATE n) op).p (F.DOR_STATE_OP_POS n) (pl.getD 3 0).toNat).p (F.DOR_STATE_FORCE n) force
  let d := s1.door n
  let s2 := (s1.setDoor n { d with opCurtain := fl.testBit 0, opSeq := (pl.getD 1 0).toNat }).pb (F.DOR_STAT_CURTAIN n) (d.curtainIn || fl.testBit 0)
  let s3 := s2.evtIf (fl.testBit 3) (dorPage n) 6
  if !s3.doorActs n then s3
  else
    let forced := fl.testBit 1 || fl.testBit 2 || decide (s3.g (F.DOR_CFG_FORCE_LIMIT n) < force)
    let st := s3.doorIs n
    if st = 0 then (if s3.b (F.DOR_STAT_JOB_UP n) then s3.matchOperator n op else s3)
    else if (st = 6 || st = 7) && op = 1 then
      (s3.doorTo n 2).setDoor n { s3.door n with confirming := true }
    else if st = 3 && op = 3 then s3.doorOpened n
    else if (st = 3 || st = 6 || st = 7) && op = 5 then s3.doorTo n 8
    else s3.obstructIf n (fl.testBit 0) forced

/-- A door stage that DSE forwards: open, close or nudge (R357). One for a disabled side, or at a landing without the side, is lost (R372);
where doors move only while a button is held, one whose button has been released gives no command (R366). -/
def State.doorCommand (s : State) (n cls : Nat) (hall : Bool) : State :=
  let d := s.door n
  let opens := cls = 16 || cls = 17
  if !s.b (F.DOR_CFG_EN n) || !s.doorSide n (s.g F.CAR_STAT_LANDING) then s.lost (dorPage n) 63
  else if !s.doorActs n || s.doorMute || (s.holdToRun && !(if opens then d.openBtn else d.closeBtn)) then s
  else
    let htr := if s.holdToRun then 2 else 0
    let s0 := s.setDoor n { s.door n with ask := 0 }
    if opens then
      let s1 := (s0.doorSend n 1 htr).doorTo n 3
      s1.setDoor n { s1.door n with hallServed := hall, afterReopen := false, confirming := false }
    else if cls = 22 then
      (((s0.doorSend n 3 htr).doorTo n 7).evt (dorPage n) 2).bump (F.DOR_COUNT_NUDGES n)
    else (s0.doorSend n 2 htr).doorTo n 6

/-- Every lock input is on and the lock class is granted (R363); LOCK_PCLASS above 23 acts as 20. -/
def State.lockMade (s : State) (n : Nat) : Bool :=
  let m := s.g (F.DOR_LOCKMASK_MASK n)
  let k := s.g (F.DOR_CFG_LOCK_PCLASS n)
  (s.g F.FIN_STATE_STATE &&& m == m) && (s.g F.ITE_PERMIT_GRANT).testBit (if 23 < k then 20 else k)

/-- Lock confirmation and loss of lock in a valid inbound frame (R363, R365). -/
def State.lockStep (s : State) (n : Nat) : State :=
  let d := s.door n
  if d.confirming && s.doorIs n = 2 && s.lockMade n then
    let s1 := (((s.doorTo n 1).evt (dorPage n) 3).bump (F.DOR_COUNT_CYCLES n)).p (F.DOR_STATE_LOCKMISS n) 0
    ((s1.p (F.DOR_STAT_NUDGE_ARMED n) 0).p (F.DOR_STATE_REOPENS n) 0).setDoor n
      { d with confirming := false, openSent := false, afterReopen := false, heldDue := false }
  else if s.doorIs n = 1 && !s.lockMade n && !d.openSent then
    ((s.doorTo n 2).evt (dorPage n) 7).setDoor n { d with confirming := true }
  else s

/-- The HOLD input and the holds of the lift mode (R358, R359). -/
def State.holdStep (s : State) (n : Nat) : State :=
  let hold := (s.door n).holdIn || s.modeHolds
  if (s.doorIs n = 4 && hold) || (s.doorIs n = 5 && !hold) then s.doorOpened n else s

/-- Doors that move only while a button is held (R366): a press asks DSE for the stage, a release stops the door; `was` are the levels
of the frame before. -/
def State.heldButtons (s : State) (n : Nat) (was : DoorState) : State :=
  let d := s.door n
  let st := s.doorIs n
  let up := fun (now before : Bool) => !now && before
  if d.openBtn && !was.openBtn then s.setDoor n { d with ask := 1 }
  else if d.closeBtn && !was.closeBtn then s.setDoor n { d with ask := 2 }
  else if (up d.openBtn was.openBtn && st = 3) || (up d.closeBtn was.closeBtn && st = 6) then (s.doorSend n 4 0).doorTo n 8
  else if (up d.openBtn was.openBtn && d.ask = 1) || (up d.closeBtn was.closeBtn && d.ask = 2) then s.setDoor n { d with ask := 0 }
  else s

/-- What the engine asks for when its dwell is over (R359, R361). -/
def State.askClose (s : State) (n : Nat) : State :=
  s.setDoor n { s.door n with dwell := 0, dwellRunning := false, ask := if s.b (F.DOR_STAT_NUDGE_ARMED n) then 3 else 2 }

/-- The dwell in a valid inbound frame (R359): CLOSE_BTN sets it to zero, OPEN_BTN restarts it; an interrupted curtain holds it, and it
restarts when the curtain clears, unless it has been set to zero. `cur` is the curtain now, `was` before. -/
def State.dwellStep (s : State) (n : Nat) (before : DoorState) (cur was : Bool) : State :=
  let d := s.door n
  if s.buttonsAct && d.closeBtn && !before.closeBtn then
    (if cur then s.setDoor n { d with dwell := 0, dwellRunning := true, dwellHeld := true } else s.askClose n)
  else if s.buttonsAct && d.openBtn && !before.openBtn then s.dwellRestart n
  else if cur && !was then s.setDoor n { d with dwellHeld := true }
  else if !cur && was then (if d.dwellRunning && d.dwell = 0 then s.askClose n else s.dwellRestart n)
  else s

/-- Buttons, curtain and HOLD input in a valid inbound frame (R359, R360, R366). -/
def State.buttonStep (s : State) (n : Nat) : State :=
  let inputs := s.g F.FIN_STATE_STATE
  let sel := fun k => fld (s.g (F.DOR_INSEL_RAW n)) (8 * k) 8
  let act := fun k => selActive (sel k) inputs
  let d := s.door n
  let s1 := s.setDoor n { d with openBtn := act 0, closeBtn := act 1, curtainIn := act 2, holdIn := act 3 }
  let cur := act 2 || d.opCurtain
  let was := s.b (F.DOR_STAT_CURTAIN n)
  let s2 := s1.pb (F.DOR_STAT_CURTAIN n) cur
  if !s2.doorActs n then s2
  else
    let s3 := s2.holdStep n
    let st := s3.doorIs n
    let s4 := if s3.holdToRun then s3.heldButtons n d
      else if (s2.doorIs n = 4 && st = 4) || (st = 8 && (s3.door n).dwellRunning) then s3.dwellStep n d cur was
      else s3
    if st = 6 then s4.obstructIf n cur false else s4

/-- A door engine in a valid inbound frame. -/
def State.doorFrame (s : State) (n : Nat) : State :=
  let s1 := s.buttonStep n
  if s1.doorActs n then s1.lockStep n else s1

/-- Heartbeat supervision of the door job fails, and holds again (R356). -/
def State.doorJobDown (s : State) (n : Nat) : State :=
  let s1 := (s.p (F.DOR_STAT_JOB_UP n) 0).evt (dorPage n) 5
  if s1.doorIs n = 10 then s1
  else (s1.doorTo n 0).setDoor n { s1.door n with confirming := false, ask := 0, dwellRunning := false, heldDue := false }
def State.doorJobUp (s : State) (n : Nat) : State := s.p (F.DOR_STAT_JOB_UP n) 1

/-- Job keys become absent: every engine enters PARK; they are delivered again: it leaves to UNKNOWN (R367). -/
def State.doorsPark (s : State) : State :=
  [0, 1].foldl (fun (x : State) n => 
    if x.b (F.DOR_CFG_EN n) then
      (x.doorTo n 10).setDoor n { x.door n with confirming := false, ask := 0, dwellRunning := false, heldDue := false }
    else x) s
def State.doorsUnpark (s : State) : State :=
  [0, 1].foldl (fun (x : State) n => if x.doorIs n = 10 then x.doorTo n 0 else x) s

/-- What a change of lift mode does to the engines (R358 HELD, R362). -/
def State.doorsModeChange (s : State) : State :=
  [0, 1].foldl (fun (x : State) n =>
    let x1 := if x.nudgeAllowed then x else x.p (F.DOR_STAT_NUDGE_ARMED n) 0
    if !x1.doorActs n then x1
    else if x1.doorIs n = 9 then x1.doorOpened n
    else if x1.doorIs n = 7 && !x1.nudgeAllowed then (x1.doorSend n 4 0).doorTo n 8
    else x1) s

/-! ## The commands -/

/-- The dwell of an engine reaches zero in OPEN, or in STOPPED after a stop in place of a reopen (R364), and the engine asks DSE for a close
or nudge stage (R359, R361). Where doors close only while a button is held it asks for none (R366). -/
def effDwellExpiry (n : Nat) (s : State) : State :=
  let d := s.door n
  if s.doorActs n && (s.doorIs n = 4 || s.doorIs n = 8) && d.dwellRunning && !d.dwellHeld && !s.holdToRun then s.askClose n else s

/-- The lock is not confirmed within LOCK_MS (R364); once LOCKMISS reaches its limit, the engine enters HELD when the door is open. -/
def effLockMsExpiry (n : Nat) (s : State) : State :=
  if s.doorActs n && s.doorIs n = 2 && (s.door n).confirming then
    let s1 := s.bump (F.DOR_STATE_LOCKMISS n)
    let s2 := if s1.doorMute then s1.setDoor n { s1.door n with confirming := false } else s1.reopenOrStop n
    if max 1 (s2.g (F.DOR_CFG_LOCKMISS_MAX n)) ≤ s2.g (F.DOR_STATE_LOCKMISS n) then
      s2.setDoor n { s2.door n with heldDue := true, dwellRunning := false }
    else s2
  else s

/-- The curtain has stayed interrupted in OPEN for NUDGE_HOLD × 100 ms (R361). -/
def effNudgeHoldExpiry (n : Nat) (s : State) : State :=
  if s.doorActs n && s.doorIs n = 4 && s.b (F.DOR_STAT_CURTAIN n) && s.b (F.DOR_CFG_NUDGE_HOLD n) && s.nudgeAllowed then
    s.p (F.DOR_STAT_NUDGE_ARMED n) 1
  else s

/-- A granted DOR_CMD write with UNHOLD (R358). -/
def State.doorUnhold (s : State) (n : Nat) : State := if s.doorIs n = 9 then s.doorOpened n else s

end Sys2Proof.Machine
end

