-- ==== Sys2Proof/Machine/Calls.lean ====
section
/-!
DEFINITION. Sys2Proof/Machine/Calls.lean: the call table of DSE and the call status frames (R379 to R383, R402 to R406), and
the group frames that carry calls between cars (R480, R487 to R491).
-/
namespace Sys2Proof.Machine
open Sys2Proof

def State.setDse (s : State) (d : DseState) : State := { s with dse := d }

/-- Adds one to DSE_TROUBLE.LOST with its event (R416, DSE_EVT.LOST). -/
def State.dseLost (s : State) : State := (s.lost 0x1b 63).evt 0x1b 4

/-- A pass becomes due (R375), with the squash causes it has to look at. -/
def State.passDue (s : State) : State := s.setDse { s.dse with due := true }
def State.passCause (s : State) (c : Nat) : State :=
  s.setDse { s.dse with due := true, causes := if s.dse.causes.contains c then s.dse.causes else s.dse.causes ++ [c] }

/-- The entries in use, lowest first. -/
def State.entries (s : State) : List Nat :=
  if s.g F.DSE_STAT_ENTRIES = 0 then [] else (List.range 1024).filter (fun e => s.b (F.DSE_CALL0_VALID e))

/-- The level of a landing, in micrometres. -/
def State.levelOf (s : State) (l : Nat) : Int := s.gs (F.CAR_LLEVEL_LEVEL l)

/-- Whether a hall call goes up: a destination call counts by its direction (R384). -/
def State.callUp (s : State) (e : Nat) : Bool :=
  match s.g (F.DSE_CALL0_KIND e) with
  | 1 => true
  | 2 => false
  | _ => decide (s.levelOf (s.g (F.DSE_CALL0_FROM e)) < s.levelOf (s.g (F.DSE_CALL0_TO e)))

/-- The entry keyed by kind, FROM and TO (R382). -/
def State.findCall (s : State) (kind orig dest : Nat) : Option Nat :=
  s.entries.find? (fun e => s.g (F.DSE_CALL0_KIND e) == kind && s.g (F.DSE_CALL0_FROM e) == orig &&
    s.g (F.DSE_CALL0_TO e) == dest)

/-! ## Acknowledges -/

/-- The acknowledge payload (R404). -/
def ackPayload (status cause orig kind dest seq entry : Nat) : List Byte :=
  [BitVec.ofNat 8 status, BitVec.ofNat 8 cause, BitVec.ofNat 8 orig, BitVec.ofNat 8 kind, BitVec.ofNat 8 dest,
   BitVec.ofNat 8 seq] ++ leBytes 2 entry

/-- Room for an acknowledge on a job: in its buffer or in the queue. -/
def State.ackRoom (s : State) (job : Nat) : Bool :=
  match s.jobBuf (job / 256) (job % 256) with
  | some b => ((s.can (job / 256)).bufs.getD b none).isNone
  | none => decide ((s.can (job / 256)).queue.length < 32)

/-- Offers an acknowledge to its job: whether it was taken (R405). A job without a key sends nothing. -/
def State.ackOffer (s : State) (job : Nat) (pl : List Byte) : Bool × State :=
  let n := job / 256
  let j := job % 256
  if !(s.b (F.CB_JOB_CFG_EN n j) && s.jobKeyed n j) then (true, s)
  else
    match s.jobBuf n j with
    | some _ => if s.ackRoom job then s.submit n j .job pl else (false, s)
    | none => s.submit n j .job pl

/-- Drops a pending acknowledge of an entry: a newer status replaces it (R405). -/
def State.dropAck (s : State) (e : Nat) : State :=
  (s.setDse { s.dse with acks := s.dse.acks.filter (fun a => a.1 != some e) }).p (F.DSE_CALL0_ACK_PENDING e) 0

/-- Sends an acknowledge, or keeps it pending: for an entry in its ACK_PENDING bit, else in the list of 32 (R405). -/
def State.sendAck (s : State) (entry : Option Nat) (job : Nat) (pl : List Byte) : State :=
  let r := s.ackOffer job pl
  match entry with
  | some e =>
    let s1 := r.2.dropAck e
    if r.1 then s1
    else (s1.setDse { s1.dse with acks := s1.dse.acks ++ [(some e, job, pl)] }).p (F.DSE_CALL0_ACK_PENDING e) 1
  | none =>
    if r.1 then r.2
    else if (r.2.dse.acks.filter (fun a => a.1 == none)).length < 32 then
      r.2.setDse { r.2.dse with acks := r.2.dse.acks ++ [(none, job, pl)] }
    else r.2.dseLost

/-- The SEQ under which an entry (or, above 1024, a car call) was registered. -/
def State.callSeq (s : State) (e : Nat) : Nat := ((s.dse.seqs.find? (fun p => p.1 == e)).map (·.2)).getD 0
def State.setSeq (s : State) (e seq : Nat) : State :=
  s.setDse { s.dse with seqs := (e, seq) :: s.dse.seqs.filter (fun p => p.1 != e) }

/-- This station sends the acknowledges for hall calls: in a group only the Leader does (R404, R107). -/
def State.acksHere (s : State) : Bool := s.group != .member

/-- The acknowledge of an entry with a status; Served and Cancelled name the entry's call. -/
def State.entryAck (s : State) (e status : Nat) : State :=
  if !s.acksHere then s
  else
    let k := s.g (F.DSE_CALL0_KIND e)
    let pl := ackPayload status 0 (s.g (F.DSE_CALL0_FROM e)) k (s.g (F.DSE_CALL0_TO e)) (s.callSeq e)
      (if status = 6 then 0xffff else e)
    s.sendAck (if status ≤ 3 then some e else none) (s.g (F.DSE_CALL1_JOB e)) pl

/-- An entry takes a status (R402); each entry into Deferred adds to class 44 (R406). -/
def State.setStatus (s : State) (e st : Nat) : State :=
  if s.g (F.DSE_CALL0_STATUS e) = st then s
  else
    let s1 := (s.p (F.DSE_CALL0_STATUS e) st).evt 0x1b 2
    (if st = 2 then s1.classInc 44 else s1).entryAck e st

/-- Frees an entry. -/
def State.freeCall (s : State) (e : Nat) : State :=
  let s1 := s.dropAck e
  let s2 := (s1.setWord (F.DSE_CALL0_VALID e).key 0).setWord (F.DSE_CALL1_SINCE e).key 0
  (s2.p F.DSE_STAT_ENTRIES (s2.g F.DSE_STAT_ENTRIES - 1)).setDse
    { s2.dse with seqs := s2.dse.seqs.filter (fun p => p.1 != e) }

/-! ## Group records -/

/-- A group frame of this station waits to be sent while the group key is held (R480, R481). -/
def State.groupFrame (s : State) (base : Nat) (payload : List Byte) : State :=
  match s.cb1.groupKey with
  | none => s
  | some _ =>
    let f : TxFrame :=
      { kind := .group, id := s.g F.GRP_CFG_IDBASE + base + s.g F.GRP_CFG_STATION, ide := false, fdf := true, brs := true
        dlc := 15, job := 0, data := slice payload 0 56, failed := 0, tx := false, abort := false }
    { s with cb1 := { s.cb1 with group := s.cb1.group ++ [f] } }

/-- A bid record (R487) and an assignment record (R488). -/
def bidRecord (kind orig dest : Nat) (served : Bool) (bid : Nat) : List Byte :=
  leBytes 4 (kind + 4 * orig + 2 ^ 8 * dest + 2 ^ 14 * b2n served + 2 ^ 16 * bid)
def assignRecord (kind orig dest station status : Nat) : List Byte :=
  leBytes 3 (kind + 4 * orig + 2 ^ 8 * dest + 2 ^ 14 * station + 2 ^ 17 * status)

/-- Records go out in frames of at most `m` records each. -/
def State.sendRecords (s : State) (base fmt m : Nat) : Nat → List (List Byte) → State
  | 0, _ => s
  | fuel + 1, recs =>
    match recs with
    | [] => s
    | _ =>
      let now := recs.take m
      State.sendRecords (s.groupFrame base ([BitVec.ofNat 8 fmt, BitVec.ofNat 8 now.length] ++ now.flatten)) base fmt m fuel (recs.drop m)

def State.sendBids (s : State) (recs : List (List Byte)) : State := s.sendRecords 8 2 13 (recs.length) recs
def State.sendAssigns (s : State) (recs : List (List Byte)) : State := s.sendRecords 16 3 18 (recs.length) recs

/-- The record that names an entry with a status; STATION is its CAR field. -/
def State.recordOf (s : State) (e status : Nat) : List Byte :=
  assignRecord (s.g (F.DSE_CALL0_KIND e)) (s.g (F.DSE_CALL0_FROM e)) (s.g (F.DSE_CALL0_TO e)) (s.g (F.DSE_CALL0_CAR e)) status

/-- The station is Leader or Member of a group. -/
def State.grouped (s : State) : Bool := s.group == .leader || s.group == .member

/-- The present Leaders and Members, this station included (R488). -/
def State.bidders (s : State) : List Nat :=
  (List.range 8).filter (fun st => (st == s.g F.GRP_CFG_STATION && s.grouped) ||
    (s.b (F.GRP_PEER_PRESENT st) && (s.g (F.GRP_PEER_ROLE st) == 1 || s.g (F.GRP_PEER_ROLE st) == 2)))

/-- The bid held of a station for an entry. -/
def State.bidOf (s : State) (e st : Nat) : Option Nat :=
  (s.grp.bids.find? (fun b => b.station == st && b.kind == s.g (F.DSE_CALL0_KIND e) &&
    b.orig == s.g (F.DSE_CALL0_FROM e) && b.dest == s.g (F.DSE_CALL0_TO e))).map Bid.bid

/-- A bid takes the place of an older one of the same station for the same call. -/
def State.addBid (s : State) (b : Bid) : State :=
  { s with grp := { s.grp with bids := b :: s.grp.bids.filter (fun c =>
      !(c.station == b.station && c.kind == b.kind && c.orig == b.orig && c.dest == b.dest)) } }

/-- The Leader assigns an entry once it holds every bid (R488): the record it sends, if the entry changes. -/
def State.assignEntry (s : State) (e : Nat) : List (List Byte) × State :=
  let who := s.bidders
  let bids := who.map (fun st => (st, s.bidOf e st))
  if bids.any (fun b => b.2.isNone) then ([], s)
  else
    let best := bids.foldl (fun (x : Option (Nat × Nat)) b =>
      let v := b.2.getD 0xffff
      match x with | none => some (b.1, v) | some y => if v < y.2 then some (b.1, v) else some y) none
    let st := s.g (F.DSE_CALL0_STATUS e)
    let car := s.g (F.DSE_CALL0_CAR e)
    let stands := (st = 1 || st = 3) && who.contains car && s.bidOf e car != some 0xffff
    if stands then ([], s)
    else
      match best with
      | none => ([], s)
      | some (w, v) =>
        if v = 0xffff then
          let s1 := s.setStatus e 2
          (if st = 2 then [] else [s1.recordOf e 2], s1)
        else
          let s1 := (s.p (F.DSE_CALL0_CAR e) w).setStatus e 1
          let s2 := (if w = s1.g F.GRP_CFG_STATION then s1.evt 0x23 4 else s1).passCause 1
          ([s2.recordOf e 1], s2)

/-- The Leader goes through every entry (R488). -/
def State.leaderAssign (s : State) : State :=
  if s.group != .leader then s
  else
    let r := s.entries.foldl (fun (x : List (List Byte) × State) e =>
      let y := x.2.assignEntry e
      (x.1 ++ y.1, y.2)) ([], s)
    r.2.sendAssigns r.1

/-- A call leaves the table served or cancelled (R383, R403, R404, R487, R488). -/
def State.endCall (s : State) (e status : Nat) : State :=
  let s1 := s.entryAck e status
  let s2 := if s1.group == .leader then s1.sendAssigns [s1.recordOf e 0] else s1
  let s3 := if status = 5 && s2.grouped then
      s2.sendBids [bidRecord (s2.g (F.DSE_CALL0_KIND e)) (s2.g (F.DSE_CALL0_FROM e)) (s2.g (F.DSE_CALL0_TO e)) true 0]
    else s2
  (s3.freeCall e).evt 0x1b 2

/-! ## Intake, Authenticate, Normalise -/

/-- The cause fields of DSE_REFUSE (R406). -/
def refuseField (c : Nat) : Fld :=
  match c with
  | 1 => F.DSE_REFUSE_FULL | 2 => F.DSE_REFUSE_MODE | 3 => F.DSE_REFUSE_SOURCE | _ => F.DSE_REFUSE_LANDING

/-- A call is refused with a cause and acknowledged so (R381, R404, R406). -/
def State.refuseCall (s : State) (job cause orig kind dest seq : Nat) : State :=
  let s1 := ((s.bump (refuseField cause)).classInc (if cause = 1 then 42 else 43)).evt 0x1b 3
  s1.sendAck none job (ackPayload 4 cause orig kind dest seq 0xffff)

/-- DSE takes no new call: job keys are absent in Recall Phase 2 or Evacuation (R104; the other modes of R104 take none at all). -/
def State.keyless (s : State) : Bool := s.keysGone && (s.lift == .recall2 || s.lift == .evacuation)

/-- A hall call is permitted in the lift mode and tenancy (R58, R55, R61, R89, R102, R104). -/
def State.hallPermitted (s : State) : Bool :=
  s.tenancy != .molting && !s.b F.ITE_STAT_TRIP && !s.keyless &&
  !(s.g (F.MOD_REQ_STATE 3) == 1 && s.g (F.MOD_REQ_VALUE 3) == 6) &&
  (match s.lift with
   | .normal | .independent => true
   | .evacuation => s.landValid (s.g F.MOD_CFG_EVAC_LANDING)
   | _ => false)

/-- A car call is permitted (R58, R102, R104). In Recall Phase 2 only one is held at a time: a call to another landing is refused while
one stands (R58; log entry 80). -/
def State.carPermitted (s : State) (l : Nat) : Bool :=
  !s.b F.ITE_STAT_TRIP && !s.keyless &&
  (match s.lift with
   | .normal | .independent | .evacuation => true
   | .recall2 => s.g F.DSE_CARCALLS_CALLS == 0 || s.g F.DSE_CARCALLS_CALLS == 2 ^ l
   | _ => false)

/-- A valid landing lies in the direction of a hall call (R381). -/
def State.directionOk (s : State) (l : Nat) (up : Bool) : Bool :=
  (List.range 64).any (fun i => s.landValid i &&
    (if up then decide (s.levelOf l < s.levelOf i) else decide (s.levelOf i < s.levelOf l)))

/-- A landing number that a VALID entry carries. -/
def State.landNamed (s : State) (l : Nat) : Bool := decide (l < 64) && s.landValid l

/-- Registers a car call (R382). -/
def State.addCarCall (s : State) (l seq : Nat) : State :=
  (s.p (F.DSE_CARCALLS_CALLS.bit l) 1).setSeq (1024 + l) seq

/-- The status with which a hall call enters (R402, R487, R490). -/
def State.entryStatus (s : State) : Nat :=
  if s.grouped then 2 else if s.lift == .independent then 2 else 1

/-- Enters a hall call under the lowest free entry (R382). -/
def State.enterCall (s : State) (job kind orig dest seq : Nat) : State :=
  match (List.range 1024).find? (fun e => !s.b (F.DSE_CALL0_VALID e)) with
  | none => s.refuseCall job 1 orig kind dest seq
  | some e =>
    let s1 := ((((s.p (F.DSE_CALL0_VALID e) 1).p (F.DSE_CALL0_KIND e) kind).p (F.DSE_CALL0_FROM e) orig).p
      (F.DSE_CALL0_TO e) dest).p (F.DSE_CALL0_CAR e) (s.g F.GRP_CFG_STATION)
    let s2 := ((s1.p (F.DSE_CALL1_SINCE e) (s.g F.TSY_COUNT_COUNT)).p (F.DSE_CALL1_JOB e) job).p F.DSE_STAT_ENTRIES
      (s.g F.DSE_STAT_ENTRIES + 1)
    ((s2.setSeq e seq).setStatus e s.entryStatus).passCause 1

/-- A hall or destination call of a fixture (R381, R382, R490). -/
def State.hallCall (s : State) (job kind orig dest seq : Nat) : State :=
  let n := job / 256
  let j := job % 256
  if s.group == .isolated && !(s.g (F.GRP_FSECT_LANDINGS (s.g F.GRP_CFG_STATION))).testBit orig then s
  else if s.g (F.CB_JOB_CFG_KIND n j) ≠ 5 || s.g (F.CB_JOB_CFG_LANDING n j) ≠ orig then s.refuseCall job 3 orig kind dest seq
  else if !s.landNamed orig || (kind = 3 && (!s.landNamed dest || orig = dest)) ||
      (kind = 1 && !s.directionOk orig true) || (kind = 2 && !s.directionOk orig false) then
    s.refuseCall job 4 orig kind dest seq
  else if !s.hallPermitted then s.refuseCall job 2 orig kind dest seq
  else
    match s.findCall kind orig dest with
    | some e => (s.setSeq e seq).entryAck e (s.g (F.DSE_CALL0_STATUS e))
    | none => s.enterCall job kind orig dest seq

/-- A car call of the car panel (R381, R382); in Evacuation its destination is the evacuation landing (R58, R89). -/
def State.carCall (s : State) (job orig dest seq : Nat) : State :=
  if job ≠ 3 then s.refuseCall job 3 orig 0x11 dest seq
  else if !s.landNamed dest then s.refuseCall job 4 orig 0x11 dest seq
  else if !s.carPermitted dest then s.refuseCall job 2 orig 0x11 dest seq
  else
    let ev := s.g F.MOD_CFG_EVAC_LANDING
    let l := if s.lift == .evacuation && s.landValid ev then ev else dest
    ((s.addCarCall l seq).sendAck none job (ackPayload 1 0 orig 0x11 dest seq 0xffff)).passCause 1

/-- A call frame's work in Intake to Normalise (R379, R381). A KIND the table of R379 does not list has no effect. -/
def State.takeCall (s : State) (job : Nat) (pl : List Byte) : State :=
  let b := fun i => (pl.getD i 0).toNat
  let orig := b 1
  let dest := b 2
  match b 0 with
  | 1 => s.hallCall job 1 orig 0 (b 3)
  | 2 => s.hallCall job 2 orig 0 (b 3)
  | 3 => s.hallCall job 3 orig dest (b 3)
  | 0x11 => s.carCall job (b 1) dest (b 3)
  | _ => s

/-- A cancel frame's work (R383): only the job that registered a call cancels it. -/
def State.takeCancel (s : State) (job : Nat) (pl : List Byte) : State :=
  let kind := (pl.getD 2 0).toNat
  let orig := (pl.getD 1 0).toNat
  if kind = 0x11 then
    if job ≠ 3 || s.g F.DSE_CARCALLS_CALLS = 0 then s.dseLost
    else
      let cars := bitsBelow 64 (s.g F.DSE_CARCALLS_CALLS)
      (cars.foldl (fun (x : State) l =>
        x.sendAck none 3 (ackPayload 6 0 0x3f 0x11 l (x.callSeq (1024 + l)) 0xffff))
        (s.p F.DSE_CARCALLS_CALLS 0)).passCause 2
  else
    match s.entries.filter (fun e => s.g (F.DSE_CALL0_KIND e) == kind && s.g (F.DSE_CALL0_FROM e) == orig &&
        s.g (F.DSE_CALL1_JOB e) == job) with
    | [] => s.dseLost
    | l => (l.foldl (fun (x : State) e => x.endCall e 6) s).passCause 2

/-- Work for DSE arrives: while DSE is frozen it waits in the intake queue, and a frame that finds the queue full is dropped
(R378, R380). -/
def State.dseIntake (s : State) (w : Intake) (now : State → State) : State :=
  if !s.b F.DSE_STAT_RUN then s
  else if s.power == .halt then
    if s.dse.intake.length < 32 then s.setDse { s.dse with intake := s.dse.intake ++ [w] } else s.dseLost
  else now s

/-- Pending acknowledges are offered again, oldest first, while there is room (R405). -/
def State.retryAcks (s : State) : Nat → State
  | 0 => s
  | fuel + 1 =>
    match s.dse.acks with
    | [] => s
    | (e, job, pl) :: rest =>
      if s.ackRoom job then
        let s1 := (s.setDse { s.dse with acks := rest }).ackOffer job pl
        let s2 := match e with | some x => s1.2.p (F.DSE_CALL0_ACK_PENDING x) 0 | none => s1.2
        s2.retryAcks fuel
      else s

/-- Calls dropped on a mode entry: hall calls are Refused to their fixtures where this station acknowledges, which adds to class 43 and
to DSE_REFUSE (R106, R107, R206, R406). -/
def State.dropHall (s : State) (which : Nat → Bool) (ack : Bool) : State :=
  (s.entries.filter which).foldl (fun (x : State) e =>
    let x1 := if ack && x.acksHere then
        x.refuseCall (x.g (F.DSE_CALL1_JOB e)) 2 (x.g (F.DSE_CALL0_FROM e)) (x.g (F.DSE_CALL0_KIND e)) (x.g (F.DSE_CALL0_TO e))
          (x.callSeq e)
      else x
    (x1.freeCall e).evt 0x1b 2) s

/-! ## The commands -/

/-- An authenticated call frame of a call job (R379). -/
def effCallFrame (bus job : Nat) (pl : List Byte) (s : State) : State :=
  (s.dseIntake (.call bus job pl) (fun x => x.takeCall (256 * bus + job) pl))

/-- An authenticated cancel frame (R383). -/
def effCallCancel (bus job : Nat) (pl : List Byte) (s : State) : State :=
  (s.dseIntake (.cancel bus job pl) (fun x => x.takeCancel (256 * bus + job) pl))

/-- The queue reports space (R405). -/
def effAckRetry (s : State) : State := if s.power == .halt then s else (s.retryAcks s.dse.acks.length)

end Sys2Proof.Machine
end

