-- ==== Sys2Proof/Machine/Dse.lean ====
section
/-!
DEFINITION. Sys2Proof/Machine/Dse.lean: the dispatch engine (R373 to R401, R413): prediction, candidate plans and their cost,
squashes, staging, releases, commits, the drive command.
-/
namespace Sys2Proof.Machine
open Sys2Proof

/-! ## Prediction (R384, R385) -/

/-- The base of a model-memory bank (R407), and a signed number in it. -/
def bankBase (bank : Nat) : Nat := 0x800000 + bank * 0x40000
def State.pkgSigned (s : State) (off n : Nat) : Int :=
  sgn (8 * n) (s.loadLe (bankBase (s.g F.PKG_STAT_ACTIVE) + off) n)

def clampTo (lo hi x : Int) : Int := max lo (min hi x)

/-- The age of a call in half seconds: the cycles since its entry. -/
def State.halfAge (s : State) (e : Nat) : Nat :=
  ((s.g F.TSY_COUNT_COUNT + 2 ^ 32 - s.g (F.DSE_CALL1_SINCE e)) % 2 ^ 32) * s.cycleMs / 2000

/-- The feature vector (R384). -/
def State.features (s : State) : List Int :=
  let es := s.entries
  let demand := fun (up : Bool) (l : Nat) =>
    (es.filter (fun e => s.g (F.DSE_CALL0_FROM e) == l && s.callUp e == up)).foldl
      (fun (m : Int) e => max m (min 127 ((1 + s.halfAge e : Nat) : Int))) 0
  let tod := s.g F.DSE_TOD_MINUTE
  let pos := s.gs F.CAR_POS_POS
  let below := (List.range 64).foldl (fun (b : Option Nat) i =>
    if s.landValid i && decide (s.levelOf i ≤ pos) then
      match b with | none => some i | some j => if s.levelOf j < s.levelOf i then some i else some j
    else b) none
  (List.range 64).map (demand true) ++ (List.range 64).map (demand false) ++
  (List.range 64).map (fun l => if (s.g F.DSE_CARCALLS_CALLS).testBit l then (127 : Int) else 0) ++
  ([((if s.b F.CAR_STAT_DZ then s.g F.CAR_STAT_LANDING else below.getD 0 : Nat) : Int),
    if s.b F.CAR_STAT_UP then 127 else if s.b F.CAR_STAT_DOWN then -127 else 0,
    if s.b F.DSE_STAT_FULL then 127 else 0, (((tod % 1440) / 60 : Nat) : Int), ((tod / 1440 : Nat) : Int),
    (s.lift.code : Int)] : List Int) ++ List.replicate 58 (0 : Int)

/-- The predicted demand (R385), all zero without a valid package. -/
def State.predict (s : State) : List Int :=
  if !s.b F.PKG_STAT_VALID then List.replicate 128 0
  else
    let x := s.features
    let nh := s.g F.PKG_INFO_NHID
    let sh1 := (s.pkgSigned 0x0c 1).toNat
    let sh2 := (s.pkgSigned 0x0d 1).toNat
    let b1 := 0x100 + 256 * nh
    let w2 := b1 + 4 * nh
    let b2 := w2 + 128 * nh
    let h := (List.range nh).map (fun k =>
      let acc := (List.range 256).foldl (fun (a : Int) i => a + s.pkgSigned (0x100 + 256 * k + i) 1 * x.getD i 0)
        (s.pkgSigned (b1 + 4 * k) 4)
      clampTo 0 127 (acc / ((2 ^ sh1 : Nat) : Int)))
    (List.range 128).map (fun j =>
      let acc := (List.range nh).foldl (fun (a : Int) k => a + s.pkgSigned (w2 + nh * j + k) 1 * h.getD k 0)
        (s.pkgSigned (b2 + 4 * j) 4)
      clampTo (-128) 127 (acc / ((2 ^ sh2 : Nat) : Int)))

/-! ## Candidates (R386, R391) -/

/-- A hall call as a pass sees it. -/
structure Hall where
  entry : Nat
  landing : Nat
  up : Bool
  since : Nat
  deriving DecidableEq, Repr

/-- What a pass plans for: hall calls, car calls by landing, the direction of travel. -/
structure Demand where
  halls : List Hall
  cars : List Nat
  up : Bool
  deriving DecidableEq, Repr

/-- A stop: the landing, and the direction in which hall calls are served there. -/
abbrev Stop : Type := Nat × Bool

/-- The car moves. -/
def State.moving (s : State) : Bool := s.b F.CAR_STAT_UP || s.b F.CAR_STAT_DOWN

/-- Direction of travel; of a stopped car, the direction it last had. -/
def State.goingUp (s : State) : Bool := if s.moving then s.b F.CAR_STAT_UP else s.dse.upward

/-- A landing is reachable (R391): from a stopped car every one is. -/
def State.reachable (s : State) (l : Nat) : Bool :=
  if !s.moving then true
  else
    let v := s.gs F.CAR_SPEED_V
    let need : Int := (v * v) / ((2000 * max 1 (s.g F.DSE_KIN_DECEL) : Nat) : Int) + ((1000 * s.g F.DSE_KIN_MARGIN : Nat) : Int)
    let gap := if s.b F.CAR_STAT_UP then s.levelOf l - s.gs F.CAR_POS_POS else s.gs F.CAR_POS_POS - s.levelOf l
    decide (need ≤ gap)

/-- Valid landings by rising level. -/
def State.landOrder (s : State) : List Nat :=
  ((List.range 64).filter s.landValid).foldr (fun l acc =>
    acc.takeWhile (fun k => decide (s.levelOf k < s.levelOf l)) ++ [l] ++
      acc.dropWhile (fun k => decide (s.levelOf k < s.levelOf l))) []

/-- A landing lies at or beyond the car in a direction. -/
def State.aheadOf (s : State) (up : Bool) (l : Nat) : Bool :=
  if up then decide (s.gs F.CAR_POS_POS ≤ s.levelOf l) else decide (s.levelOf l ≤ s.gs F.CAR_POS_POS)

/-- Collective order from a direction (R386): calls ahead in it, then the reverse, then those behind. -/
def State.collective (s : State) (d : Demand) (up : Bool) : List Stop :=
  let order := if up then s.landOrder else s.landOrder.reverse
  let hall := fun (u : Bool) (l : Nat) => d.halls.any (fun h => h.landing == l && h.up == u)
  (order.filter (fun l => s.aheadOf up l && (d.cars.contains l || hall up l))).map (fun l => (l, up)) ++
  (order.reverse.filter (fun l => hall (!up) l || (d.cars.contains l && !s.aheadOf up l))).map (fun l => (l, !up)) ++
  (order.filter (fun l => !s.aheadOf up l && hall up l)).map (fun l => (l, up))

/-- Repeated nearest stop from a level (R386, candidate 3). -/
def State.nearestOrder (s : State) : Nat → Int → List Stop → List Stop
  | 0, _, _ => []
  | fuel + 1, p, l =>
    match l.foldl (fun (b : Option Stop) x => match b with
        | none => some x
        | some y => if (s.levelOf x.1 - p).natAbs < (s.levelOf y.1 - p).natAbs then some x else some y) none with
    | none => []
    | some x => x :: s.nearestOrder fuel (s.levelOf x.1) (l.filter (fun y => y != x))

/-- Inserts new stops into an old order where collective order places them (R386, candidate 0). -/
def insertStops (coll old : List Stop) : List Stop :=
  let place := fun (x : Stop) => (coll.findIdx? (fun y => y == x)).getD coll.length
  coll.foldl (fun acc x =>
    if acc.contains x then acc
    else acc.takeWhile (fun y => decide (place y < place x)) ++ [x] ++ acc.dropWhile (fun y => decide (place y < place x))) old

/-- The index of the highest predicted demand at a valid landing, the lowest index first. -/
def State.peakLanding (s : State) (out : List Int) : Nat :=
  (((List.range 128).filter (fun j => s.landValid (j % 64))).foldl (fun (b : Option Nat) j =>
    match b with
    | none => some j
    | some k => if out.getD k 0 < out.getD j 0 then some j else some k) none).getD 0 % 64

/-- The plan that the registers show. -/
def State.planShown (s : State) : List Stop :=
  (List.range (s.g F.DSE_PLAN_LEN)).map (fun i =>
    let b := fld (s.word F.DSE_PLAN_LEN.key).toNat (8 + 8 * i) 8
    (b % 64, bitAt b 6))

/-- The plan length (R386). -/
def State.planLimit (s : State) : Nat := if s.g F.MOD_CUR_SPEC = 2 then max 1 (min 4 (s.g F.MOD_CUR_SPEC_STOPS)) else 1

/-- The eight candidates (R386), each cut to reachable landings and to the plan length. A target that is fixed stays the first
stop. -/
def State.planCandidates (s : State) (d : Demand) (out : List Int) (fixed : Option Nat) : List (List Stop) :=
  let noHall : Demand := { d with halls := [] }
  let c1 := s.collective d d.up
  let old := s.planShown.filterMap (fun x => c1.find? (fun y => y.1 == x.1))
  let c0 := insertStops c1 old
  let c2 := s.collective d (!d.up)
  let c3 := s.nearestOrder (c1.length) (s.gs F.CAR_POS_POS) c1
  let oldest := d.halls.foldl (fun (b : Option Hall) h => match b with
    | none => some h
    | some k => if h.since < k.since then some h else some k) none
  let c4 := match oldest with
    | none => c1
    | some h => (h.landing, h.up) :: c1.filter (fun x => x != (h.landing, h.up))
  let peak := s.peakLanding out
  let lim := s.planLimit
  let spare := fun (l : List Stop) => if l.length < lim && s.landValid peak then l ++ [(peak, d.up)] else l
  let c6 := if s.b F.DSE_STAT_FULL then s.collective noHall d.up else c1
  let cut := fun (l : List Stop) =>
    let l1 := match fixed with
      | some t => ((l.find? (fun (x : Stop) => x.1 == t)).getD (t, d.up)) ::
          (l.filter (fun (x : Stop) => x.1 != t && s.reachable x.1))
      | none => l.filter (fun (x : Stop) => s.reachable x.1)
    l1.take lim
  [cut c0, cut c1, cut c2, cut c3, cut c4, cut (spare c0), cut c6, cut (spare c3)]

/-! ## Cost (R387) -/

/-- The weight of a term: from the active package, or the default. -/
def State.costWeight (s : State) (t : Nat) : Int :=
  if s.b F.PKG_STAT_VALID then s.pkgSigned (0x80 + 2 * t) 2
  else match t with | 0 => 0x100 | 1 => 0x80 | 2 => 0x20 | 3 => 0x40 | 4 => 0x200 | 6 => 0x100 | _ => 0

/-- The travel of a plan, in micrometres, and its direction reversals. -/
def State.travel (s : State) : Int → List Stop → Nat
  | _, [] => 0
  | p, x :: t => (s.levelOf x.1 - p).natAbs + s.travel (s.levelOf x.1) t
def State.reversals (s : State) : Bool → Int → List Stop → Nat
  | _, _, [] => 0
  | up, p, x :: t =>
    let up' := if s.levelOf x.1 = p then up else decide (p < s.levelOf x.1)
    b2n (up' != up) + s.reversals up' (s.levelOf x.1) t

/-- Waiting stages that a plan would squash: door stages ahead of the first leg that name another landing, and the second
leg's. -/
def State.wouldSquash (s : State) (p : List Stop) : Nat :=
  (s.dse.planned.filter (fun x => !x.committed && (
    (x.leg == 0 && x.what == 3 && some x.landing != (p.head?.map (·.1))) ||
    (x.leg == 1 && some x.landing != ((p.drop 1).head?.map (·.1)))))).length

/-- The cost of a plan. The estimated waits and rides come from DSE_KIN by no stated rule: `wait` and `ride` are free (R387). -/
def State.planCost (s : State) (d : Demand) (out : List Int) (wait ride : Nat) (p : List Stop) : Int :=
  let gap : Nat := match p.getLast? with
    | none => 0
    | some (x : Stop) => (s.levelOf x.1 - s.levelOf (s.peakLanding out)).natAbs / 1000000
  let t : List Int :=
    [if d.halls.isEmpty then 0 else (wait : Int), if d.cars.isEmpty then 0 else (ride : Int),
     ((s.travel (s.gs F.CAR_POS_POS) p / 1000000 : Nat) : Int), (p.length : Int),
     ((s.reversals d.up (s.gs F.CAR_POS_POS) p : Nat) : Int),
     -(p.foldl (fun (a : Int) (x : Stop) => a + out.getD (if x.2 then x.1 else 64 + x.1) 0) 0), ((s.wouldSquash p : Nat) : Int),
     (gap : Int)]
  sgn 64 (unsgn 64 ((List.range 8).foldl (fun (a : Int) i => a + s.costWeight i * t.getD i 0) 0))

/-- The lowest cost, the lowest number first, over candidates with their costs. -/
def lowestCost : List (Nat × Int × List Stop) → Option (Nat × Int × List Stop)
  | [] => none
  | x :: t => match lowestCost t with | none => some x | some y => if y.2.1 < x.2.1 then some y else some x

/-- Select (R387): number, cost and stops of the best candidate; the free estimates are drawn for each candidate. -/
def State.selectPlan (s : State) (d : Demand) (out : List Int) (fixed : Option Nat) : (Nat × Int × List Stop) × State :=
  let cs := (s.planCandidates d out fixed).zipIdx
  let r := cs.foldl (fun (x : List (Nat × Int × List Stop) × State) c =>
    let d1 := x.2.draw
    let d2 := d1.2.draw
    (x.1 ++ [(c.2, s.planCost d out (d1.1.toNat % 65536) (d2.1.toNat % 65536) c.1, c.1)], d2.2)) ([], s)
  ((lowestCost r.1).getD (0, 0, []), r.2)

/-! ## Squash (R397 to R399) -/

/-- The tags of waiting stages, oldest first. -/
def State.waitingTags (s : State) : List Nat := (s.dse.planned.filter (fun p => !p.committed)).map Planned.tag

/-- DSE_TAG.OLDEST follows the waiting stages. -/
def State.oldestShown (s : State) : State := s.p F.DSE_TAG_OLDEST (s.waitingTags.headD (s.g F.DSE_TAG_NEXT))

/-- Counts a squash under its cause (R398). -/
def State.countSquash (s : State) (c : Nat) : State :=
  if c ≤ 8 then s.addSat ⟨F.DSE_SQCOUNT0_CAUSES.key, 8 * (c - 1), 8⟩ 1
  else s.addSat ⟨F.DSE_SQCOUNT1_CAUSES.key, 8 * (c - 9), 8⟩ 1

/-- The drive command (R393): a change takes a new SEQ and is sent once. While job keys are absent the drive gets park frames only (R108). -/
def State.driveSend (s : State) (cmd target : Nat) (up : Bool) : State :=
  if s.keysGone then s
  else if s.g F.DSE_DRIVE_CMD = cmd && (cmd = 0 || (s.g F.DSE_DRIVE_TARGET = target && s.dse.upward = up)) then s
  else
    let s1 := ((s.p F.DSE_DRIVE_CMD cmd).wrapInc F.DSE_DRIVE_SEQ).p F.DSE_DRIVE_TARGET target
    let s2 := s1.setDse { s1.dse with upward := up }
    s2.jobSend 0 0 ([BitVec.ofNat 8 cmd, BitVec.ofNat 8 (s2.g F.DSE_DRIVE_SEQ), BitVec.ofNat 8 target, BitVec.ofNat 8 (b2n up)] ++
      leBytes 4 (unsgn 32 (s2.levelOf target / 1000)))

/-- One squash from a tag (R397, R398): under the lowest cause among its own and those pending. Causes that name no waiting
stage leave nothing to squash. -/
def State.squashFrom (s : State) (tag cause : Nat) : State :=
  let c := (s.dse.causes.filter (fun x => x ≠ 0)).foldl min cause
  let hit := fun (p : Planned) => !p.committed && tagGe p.tag tag
  let gone := s.dse.planned.filter hit
  let s1 := { s with bar := { s.bar with
      squash := some (match s.bar.squash with | none => tag | some o => if tagGt o tag then tag else o)
      stages := s.bar.stages.filter (fun st => !tagGe st.tag tag) } }
  let s2 := s1.setDse { s1.dse with
    planned := s1.dse.planned.filter (fun p => !hit p), gone := s1.dse.gone ++ gone, causes := [], squashed := s1.dse.squashed + gone.length, due := true }
  let s3 := (((s2.p F.DSE_TAG_SQUASH tag).p F.DSE_TAG_CAUSE c).countSquash c).evt 0x1b 1
  let s4 := if gone.any (fun p => p.what == 2) then s3.driveSend 0 (s3.g F.DSE_DRIVE_TARGET) s3.dse.upward else s3
  s4.oldestShown

/-- A squash of every waiting stage (R102, R105, R397): it names the oldest one. -/
def State.squashAll (s : State) (cause : Nat) : State :=
  match s.waitingTags with
  | [] => s.passDue
  | t :: _ => s.squashFrom t cause

/-! ## Staging (R388 to R392) -/

/-- Slots that the latest report shows free and no write in flight claims (R390). -/
def State.freeSlots (s : State) : Nat :=
  (s.bar.shadow.filter (fun o => o.isNone)).length - (s.bar.stages.length + s.bar.sent.length)

/-- A stage to be written: what it is (R388), the side of a door stage, its leg and landing, class, release, outputs. -/
structure Wanted where
  what : Nat
  side : Nat
  leg : Nat
  landing : Nat
  pclass : Nat
  release : Bool
  outMask : Nat
  outValue : Nat
  deriving DecidableEq, Repr

/-- Writes one stage with the next tag (R389), if a slot is free. -/
def State.stageOne (s : State) (w : Wanted) : State :=
  if s.freeSlots = 0 then s
  else
    let tag := s.g F.DSE_TAG_NEXT
    let st : Stage :=
      { tag := tag, pclass := w.pclass, release := w.release, outMask := w.outMask, outValue := w.outValue
        released := false }
    let pl : Planned :=
      { tag := tag, what := w.what, side := w.side, leg := w.leg, landing := w.landing, pclass := w.pclass, release := w.release
        outMask := w.outMask, outValue := w.outValue, committed := false, accepted := false, released := false }
    let s1 := { s with bar := { s.bar with stages := s.bar.stages ++ [st] } }
    let s2 := s1.setDse { s1.dse with planned := s1.dse.planned ++ [pl], staged := s1.dse.staged + 1 }
    (s2.wrapInc F.DSE_TAG_NEXT).oldestShown

/-- The doors of a side are closed. -/
def State.doorShut (s : State) (n : Nat) : Bool := !s.b (F.DOR_CFG_EN n) || s.doorIs n == 1 || s.doorIs n == 2

/-- A committed door stage has to be written again: the engine asks for another close (R364), or the open stage committed outside its
landing (R396). -/
def State.redone (s : State) (w : Wanted) : Bool :=
  match w.what with
  | 0 | 8 => decide (2 ≤ (s.door w.side).ask) && !s.doorShut w.side
  | 6 => s.dse.doorOwed
  | _ => false

/-- A wanted stage has been written already. -/
def State.hasStage (s : State) (w : Wanted) : Bool :=
  s.dse.planned.any (fun p => p.what == w.what && p.leg == w.leg && p.pclass == w.pclass && p.side == w.side &&
    !(p.committed && s.redone w))

/-- Writes the wanted stages that have not been written, in order, while slots are free. -/
def State.stageList (s : State) (l : List Wanted) : State :=
  l.foldl (fun (x : State) w => if x.hasStage w then x else x.stageOne w) s

/-- The class of arrival stages: above 23 acts as 21. -/
def State.stopClass (s : State) : Nat := let k := s.g F.DSE_CFG_STOP_PCLASS; if 23 < k then 21 else k

/-- The sides that DSE opens at a landing: 0 front, 1 rear (R388). -/
def State.sidesAt (s : State) (l : Nat) : List Nat :=
  [0, 1].filter (fun n => (s.g F.DSE_CFG_SIDES).testBit n && s.doorSide n l)

/-- Sides whose doors are open and not on their way to closed. -/
def State.openSides (s : State) : List Nat :=
  [0, 1].filter (fun n => !s.doorShut n && s.doorIs n != 6 && s.doorIs n != 7 && s.doorIs n != 10)

/-- Outputs of RUN and BRAKE (DSE_OUTMAP). -/
def State.runMask (s : State) : Nat := 2 ^ s.g F.DSE_OUTMAP_RUN
def State.brakeMask (s : State) : Nat := 2 ^ s.g F.DSE_OUTMAP_BRAKE

/-- A door stage: it carries RELEASE and no outputs (R388). -/
def doorStage (what leg landing pclass n : Nat) : Wanted :=
  { what := what, side := n, leg := leg, landing := landing, pclass := pclass, release := true, outMask := 0, outValue := 0 }

/-- Open stages on some sides. -/
def doorStages (what leg landing base : Nat) (sides : List Nat) : List Wanted :=
  sides.map (fun n => doorStage what leg landing (base + n) n)

/-- The close stages of a side: DOOR_CLOSE, or while NUDGE_ARMED is set a nudge, which is a stage of class 22 after its output-free
companion of the side's close class (R357, R361). -/
def State.closeStages (s : State) (leg landing n : Nat) : List Wanted :=
  if s.b (F.DOR_STAT_NUDGE_ARMED n) then [doorStage 8 leg landing (18 + n) n, doorStage 0 leg landing 22 n]
  else [doorStage 0 leg landing (18 + n) n]

/-- The departure stages of a leg (R388): doors to close, BRAKE_LIFT, RUN_ON. -/
def State.departure (s : State) (leg depart target : Nat) (close : List Nat) (pclass : Nat) : List Wanted :=
  close.flatMap (s.closeStages leg depart) ++
  [{ what := 1, side := 0, leg := leg, landing := target, pclass := pclass, release := false, outMask := s.brakeMask, outValue := s.brakeMask },
   { what := 2, side := 0, leg := leg, landing := target, pclass := pclass, release := false, outMask := s.runMask, outValue := s.runMask }]

/-- The arrival stages of a leg (R388); with RELEASE clear, the compensation of R400. -/
def State.arrival (s : State) (leg target : Nat) (release : Bool) : List Wanted :=
  [{ what := if release then 4 else 7, side := 0, leg := leg, landing := target, pclass := s.stopClass, release := release
     outMask := s.runMask, outValue := 0 },
   { what := if release then 5 else 9, side := 0, leg := leg, landing := target, pclass := s.stopClass, release := release
     outMask := s.brakeMask, outValue := 0 }]

/-- The target of the first leg is fixed: no reachable landing lies between the car and it (R391). -/
def State.targetFixed (s : State) (t : Nat) : Bool :=
  let pos := s.gs F.CAR_POS_POS
  let lt := s.levelOf t
  !(List.range 64).any (fun i => s.landValid i && i != t && s.reachable i &&
    decide ((pos < s.levelOf i ∧ s.levelOf i < lt) ∨ (lt < s.levelOf i ∧ s.levelOf i < pos)))

/-- A mode input is active (R57): 0 INSP_TOP, 1 INSP_PIT, 2 RECALL1, 3 RECALL2, 4 EVAC, 5 RESCUE, 6 INDEP, 7 OOS_KEY. A disabled input
is never active (R90). -/
def State.inputOn (s : State) (k : Nat) : Bool :=
  (s.g F.MOD_INSEL_SEL).testBit (8 * k + 7) && ((s.mod.inputs[k]?).map ModeInput.active).getD false

/-- DSE may stage, and send drive targets: no trip is latched and RESCUE is off (R102, R103). -/
def State.rescueActive (s : State) : Bool := s.inputOn 5
def State.mayStage (s : State) : Bool := !s.b F.ITE_STAT_TRIP && !s.rescueActive

/-- Where no drive target may be sent (R58, R102, R103), the drive job carries "hold" (log entry 168); in Halt DSE is frozen (R378). -/
def State.driveQuiet (s : State) : State :=
  if (!s.mayStage || s.lift == .inspection) && s.power != .halt && s.b F.DSE_DRIVE_CMD then
    s.driveSend 0 (s.g F.DSE_DRIVE_TARGET) s.dse.upward
  else s

/-- Compensation that is owed is staged before any other stage (R400). -/
def State.compensate (s : State) : State :=
  if s.dse.owe && s.mayStage then
    let s1 := s.driveSend 0 (s.g F.DSE_DRIVE_TARGET) s.dse.upward
    let l := s1.arrival 0 (s1.dse.target.getD 0) false
    let s2 := s1.stageList l
    if l.all s2.hasStage then s2.setDse { s2.dse with owe := false } else s2
  else s

/-- The car stands at a landing: in its door zone, at level, stopped. -/
def State.standsAt (s : State) (l : Nat) : Bool :=
  s.b F.CAR_STAT_DZ && s.g F.CAR_STAT_LANDING == l && s.b F.CAR_STAT_AT_LEVEL && s.b F.CAR_STAT_STOPPED

/-- The stages that remain when a leg has ended: the second leg's become the first's. -/
def State.nextLeg (s : State) : State :=
  let rest := (s.dse.planned.filter (fun p => p.leg == 1 || !p.committed)).map (fun p => { p with leg := 0 })
  s.setDse { s.dse with planned := rest, target := (rest.head?.map Planned.landing), doorOwed := false }

/-- The first leg is complete: brake dropped and, where the stop opens doors, an open stage forwarded; or its compensation has
committed (R400). -/
def State.legDone (s : State) : State :=
  let did := fun (k : Nat) => s.dse.planned.any (fun p => p.leg == 0 && p.what == k && p.committed)
  if did 7 && did 9 then s.nextLeg
  else
    match s.dse.target with
    | none => s
    | some t =>
      let opened := (s.sidesAt t).isEmpty || ((did 3 || did 6) && !s.dse.doorOwed)
      if did 4 && did 5 && opened then s.nextLeg else s

/-- The gate has been disarmed: every slot is empty and every command off (R29, R328, R332). -/
def State.dseGateLost (s : State) : State :=
  (s.setDse { s.dse with planned := [], gone := [], target := none, doorOwed := false, runOn := false, brakeOn := false, owe := false
                         due := true }).oldestShown

/-- The stages of the horizon for a plan in service (R392, R395). -/
def State.horizon (s : State) (plan : List Stop) : List Wanted :=
  match plan with
  | [] => []
  | (t, _) :: rest =>
    let depth := s.g F.MOD_CUR_SPEC
    let sides := s.sidesAt t
    let pre := depth ≥ 1 && !s.dse.doorOwed
    let close := s.openSides
    let dep := s.departure 0 (s.g F.CAR_STAT_LANDING) t close 20
    let open3 := if pre then doorStages 3 0 t 16 sides else []
    let fixed := s.targetFixed t
    let arr := if fixed then s.arrival 0 t true else []
    let dropped := s.dse.planned.any (fun p => p.leg == 0 && p.what == 5 && p.committed)
    let open6 := if (depth = 0 && dropped) || s.dse.doorOwed then doorStages 6 0 t 16 sides else []
    let second := match rest with
      | (t2, _) :: _ => if depth = 2 && fixed then s.departure 1 t t2 sides 20 ++ doorStages 3 1 t2 16 (s.sidesAt t2) else []
      | [] => []
    let dep1 := if s.dse.planned.any (fun p => p.leg == 0 && p.what == 2) then [] else dep
    dep1 ++ open3 ++ arr ++ open6 ++ second

/-- An engine asks for a close of open doors, and no close stage of its side waits: the door has opened again (R364). -/
def State.reclose (s : State) : Bool :=
  s.openSides.any (fun n => 2 ≤ (s.door n).ask && !s.dse.planned.any (fun p => !p.committed && p.what == 0 && p.side == n))

/-- The first tag among waiting stages that a new plan leaves behind (R397, codes 1, 2, 4, 7 and 8). So do BRAKE_LIFT and RUN_ON of a door
that has to close again before them, and a close that is to be a nudge, or no more (log entry 169). -/
def State.differTag (s : State) (plan : List Stop) : Option Nat :=
  let depth := s.g F.MOD_CUR_SPEC
  let again := s.reclose
  let stale := fun (p : Planned) => (p.what == 0 || p.what == 8) && (p.what == 8 || p.pclass == 22) != s.b (F.DOR_STAT_NUDGE_ARMED p.side)
  let first := plan.head?.map (·.1)
  let second := (plan.drop 1).head?.map (·.1)
  (s.dse.planned.find? (fun p => !p.committed && (
    (p.leg == 0 && p.what == 3 && (some p.landing != first || depth == 0)) ||
    (p.leg == 0 && (p.what == 0 || p.what == 1 || p.what == 2 || p.what == 8) && first == none && s.dse.target != none) ||
    (p.leg == 0 && (p.what == 1 || p.what == 2) && again) || (p.leg == 0 && stale p) ||
    (p.leg == 1 && (depth < 2 || second == none || (p.what == 3 && some p.landing != second)))))).map Planned.tag

/-- What the mode of the lift plans for (R58, R104, R106). -/
def State.demand (s : State) : Demand :=
  let own := s.entries.filter (fun e => s.g (F.DSE_CALL0_STATUS e) == 1 &&
    (!s.grouped || s.g (F.DSE_CALL0_CAR e) == s.g F.GRP_CFG_STATION))
  let halls := own.map (fun e =>
    ({ entry := e, landing := s.g (F.DSE_CALL0_FROM e), up := s.callUp e, since := s.g (F.DSE_CALL1_SINCE e) } : Hall))
  let cars := bitsBelow 64 (s.g F.DSE_CARCALLS_CALLS)
  let stopAt := fun (l : Nat) => if s.landValid l && !s.standsAt l then [l] else []
  let none : Demand := { halls := [], cars := [], up := s.goingUp }
  if s.keysGone || s.tenancy == .molting then none
  else match s.lift with
  | .normal => { halls := halls, cars := cars, up := s.goingUp }
  | .independent | .recall2 => { halls := [], cars := cars, up := s.goingUp }
  | .evacuation => if s.landValid (s.g F.MOD_CFG_EVAC_LANDING)
      then { halls := halls, cars := stopAt (s.g F.MOD_CFG_EVAC_LANDING), up := s.goingUp } else none
  | .recall1 => { halls := [], cars := stopAt (s.g F.MOD_CFG_RECALL_LANDING), up := s.goingUp }
  | _ => none

/-- Modes in which the car is brought to the nearest landing and held (R89, R104, R106, R108). -/
def State.stopsNearest (s : State) : Bool :=
  match s.lift with
  | .outOfService | .secureDegraded => true
  | .recall1 | .evacuation => s.noLand || s.keysGone
  | .recall2 | .positionLost => s.keysGone
  | .normal | .independent => s.keysGone
  | _ => false

/-- The nearest landing in the direction of travel: the first reachable one ahead, or the landing where the car stands. -/
def State.nearestAhead (s : State) : Option Nat :=
  if s.moving then
    (if s.goingUp then s.landOrder else s.landOrder.reverse).find? (fun l => s.aheadOf s.goingUp l && s.reachable l)
  else if s.b F.CAR_STAT_DZ then some (s.g F.CAR_STAT_LANDING) else none

/-- The held doors of a car that is brought to rest: open, or closed in Out of Service without OOS_DOORS (R58, R106). -/
def State.restOpen (s : State) : Bool := !(s.lift == .outOfService && !s.b F.MOD_CFG_OOS_DOORS)

/-- Stages that bring the car to rest at the nearest landing (R106, R108, R89). -/
def State.restStages (s : State) : State :=
  match s.nearestAhead with
  | none => s
  | some t =>
    let sides := s.sidesAt t
    let runs := s.dse.runOn || s.dse.brakeOn || s.moving
    let closed := sides.filter s.doorShut
    let l := (if runs || s.dse.planned.any (fun p => p.what == 5) then s.arrival 0 t true else []) ++
      (if s.restOpen then (if runs || !closed.isEmpty then doorStages 6 0 t 16 sides else [])
       else if runs then [] else s.openSides.flatMap (s.closeStages 0 t))
    let s1 := if runs then s.setDse { s.dse with target := some t } else s
    let s2 := if runs && !s1.keysGone then s1.driveSend 2 t s1.goingUp else s1
    s2.stageList l

/-- The stages that door engines ask for with no leg planned, at a landing of their side: an open, and where `close` says so a close or a
nudge (R357, R359, R361, R366). -/
def State.askedStages (s : State) (close : Bool) : State :=
  let l := s.g F.CAR_STAT_LANDING
  if !s.b F.CAR_STAT_DZ then s
  else
    [0, 1].foldl (fun (x : State) n =>
      let ask := (x.door n).ask
      let waits := fun (k : Nat) => x.dse.planned.any (fun p => !p.committed && p.what == k && p.side == n)
      if !x.doorSide n l then x
      else if ask = 1 && !waits 6 then x.stageOne (doorStage 6 0 l (16 + n) n)
      else if 2 ≤ ask && close && !waits 0 && !waits 8 && 2 ≤ x.freeSlots then (x.closeStages 0 l n).foldl State.stageOne x
      else x) s

/-- A car that stands where its mode parks it opens its doors: at the recall landing, and at the evacuation landing for the calls that
name it (R58, R106). -/
def State.parkOpen (s : State) : State :=
  let at_ := fun (l : Nat) =>
    if s.standsAt l then s.stageList (doorStages 6 0 l 16 ((s.sidesAt l).filter s.doorShut)) else s
  match s.lift with
  | .recall1 => at_ (s.g F.MOD_CFG_RECALL_LANDING)
  | .evacuation =>
    let l := s.g F.MOD_CFG_EVAC_LANDING
    if (s.g F.DSE_CARCALLS_CALLS).testBit l then at_ l else s
  | _ => s

/-- The direction of the relearn (R349): opposite to RELEARN_DIR in phase 1, and in phase 3 once the car has stopped at the terminal. -/
def State.relearnUp (s : State) : Bool :=
  let ph := s.g F.CAR_RELEARN_PHASE
  s.b F.CAR_CFG_RELEARN_DIR != (ph == 1 || (ph == 3 && s.car.away))

/-- A target under which the car neither runs nor has any stage of its leg is given up. -/
def State.dropTarget (s : State) : State :=
  let leg := fun (p : Planned) => p.leg == 0 && p.what != 0 && p.what != 8
  if s.dse.runOn || s.dse.brakeOn || s.dse.doorOwed || s.dse.planned.any leg then s else s.setDse { s.dse with target := none }

/-- The stages of a pass in the current mode, for a plan (R58, R106, R388, R392). -/
def State.stageMode (s : State) (plan : List Stop) : State :=
  let s1 := s.driveQuiet.compensate.dropTarget
  if s1.dse.owe || !s1.mayStage || !s1.b F.DSE_OUTMAP_EN then s1
  else if s1.stopsNearest then s1.restStages
  else
    match s1.lift with
    | .rescue => s1
    | .inspection => (s1.stageList (s1.departure 0 0 0 [] 20)).askedStages true
    | .positionLost =>
      if !s1.b F.CAR_STAT_RELEARNING || s1.g F.DSE_DRIVE_DSTATE = 4 then s1
      else (s1.stageList (s1.departure 0 0 0 [] 23)).driveSend 3 0 s1.relearnUp
    | _ =>
      match plan with
      | [] => s1.parkOpen.askedStages true
      | (t, _) :: _ =>
        if s1.dse.target = none && s1.standsAt t then
          (s1.stageList (doorStages 6 0 t 16 ((s1.sidesAt t).filter s1.doorShut))).askedStages false
        else if s1.dse.target = none && ((s1.moving && !s1.dse.runOn) || s1.g F.DSE_DRIVE_DSTATE = 4) then s1
        else
          let up := decide (s1.gs F.CAR_POS_POS < s1.levelOf t)
          let s2 := s1.setDse { s1.dse with target := some t }
          let s3 := s2.stageList (s2.horizon plan)
          let s4 := if s3.dse.planned.any (fun p => p.leg == 0 && p.what == 2) then s3.driveSend 1 t up else s3
          s4.askedStages false

/-- The status of the car's hall calls at Select (R402, R403): Bypassed while FULL is active, Accepted again after it. -/
def State.fullStatus (s : State) (d : Demand) : State :=
  let s1 := if s.b F.DSE_STAT_FULL then d.halls.foldl (fun (x : State) h => x.setStatus h.entry 3) s else s
  if s.b F.DSE_STAT_FULL || s.grouped then s1
  else (s1.entries.filter (fun e => s1.g (F.DSE_CALL0_STATUS e) == 3)).foldl (fun (x : State) e => x.setStatus e 1) s1

/-- The plan as the registers show it (DSE_PLAN): each stop's direction towards the next, the last one's by the hall call
served there. -/
def State.showPlan (s : State) (d : Demand) (cand : Nat) (p : List Stop) : State :=
  let dir := fun (i : Nat) (x : Stop) => match p[i + 1]? with
    | some y => decide (s.levelOf x.1 < s.levelOf y.1)
    | none => x.2 && d.halls.any (fun h => h.landing == x.1 && h.up)
  let img := (p.zipIdx).foldl (fun (a : Nat) c => a + (c.1.1 + 64 * b2n (dir c.2 c.1)) * 2 ^ (8 + 8 * c.2)) (p.length + cand * 2 ^ 40)
  let s1 := s.setWord F.DSE_PLAN_LEN.key (BitVec.ofNat 64 img)
  if s.planShown = p.zipIdx.map (fun c => (c.1.1, dir c.2 c.1)) then s1 else s1.evt 0x1b 0

/-- The bids a Leader or Member owes (R487): the increase of the lowest cost when a call is added, or 0xFFFF. -/
def State.oweBids (s : State) (out : List Int) : State :=
  if !s.grouped then s
  else
    let me := s.g F.GRP_CFG_STATION
    let es := s.entries.filter (fun e => s.grp.rebid || (s.bidOf e me).isNone)
    let bar := s.lift == .independent || s.b F.DSE_STAT_FULL || !s.hallPermitted
    let base := s.demand
    let r := es.foldl (fun (x : List (List Byte) × State) e =>
      let st := x.2
      let with1 : Hall := { entry := e, landing := st.g (F.DSE_CALL0_FROM e), up := st.callUp e, since := 0 }
      let a := st.selectPlan { base with halls := base.halls.filter (fun h => h.entry != e) } out none
      let b := a.2.selectPlan { base with halls := with1 :: base.halls.filter (fun h => h.entry != e) } out none
      let v := if bar then 0xffff else (min 0xfffe (max 0 ((b.1.2.1 - a.1.2.1) / 256))).toNat
      let k := b.2.g (F.DSE_CALL0_KIND e)
      let o := b.2.g (F.DSE_CALL0_FROM e)
      let t := b.2.g (F.DSE_CALL0_TO e)
      (x.1 ++ [bidRecord k o t false v], b.2.addBid ⟨me, k, o, t, v⟩)) ([], s)
    let s1 := r.2.sendBids r.1
    ({ s1 with grp := { s1.grp with rebid := false } }).leaderAssign

/-- The counts of R413. -/
def State.perfShown (s : State) : State :=
  (s.setWord F.DSE_PERF_FINE0_RAW.key (BitVec.ofNat 64 (s.dse.passes % 2 ^ 32 + 2 ^ 32 * (s.dse.staged % 2 ^ 32)))).setWord
    F.DSE_PERF_FINE1_RAW.key (BitVec.ofNat 64 (s.dse.squashed % 2 ^ 32 + 2 ^ 32 * (s.dse.discarded % 2 ^ 16) +
      2 ^ 48 * (s.dse.modelRuns % 2 ^ 16)))

/-- The pending bank becomes active at the end of a pass, and DSE squashes with cause 7 (R397, R408). -/
def State.packageSwitch (s : State) : State :=
  if !s.b F.PKG_STAT_SWITCH_PENDING then s
  else
    let bank := 1 - s.g F.PKG_STAT_ACTIVE
    let ver := s.loadLe (bankBase bank + 8) 4
    let nh := s.loadLe (bankBase bank + 6) 2
    let s1 := ((((s.p F.PKG_STAT_ACTIVE bank).p F.PKG_STAT_VALID 1).p F.PKG_STAT_SWITCH_PENDING 0).p F.PKG_INFO_VERSION ver).p
      F.PKG_INFO_NHID nh
    let s2 := ((s1.p F.DSE_STAT_NOPKG 0).evt 0x1c 0).setDse { s1.dse with
      valid0 := s1.dse.valid0 || bank == 0, valid1 := s1.dse.valid1 || bank == 1, due := true }
    let tag := (s2.dse.planned.find? (fun p => !p.committed && (p.leg == 1 || (p.leg == 0 && p.what == 3 &&
      !s2.b F.DSE_STAT_FIXED)))).map Planned.tag
    match tag with | some t => s2.squashFrom t 7 | none => s2

/-- One pass on a snapshot (R375): prediction, selection, at most one squash, staging (R398, R400). -/
def State.passBody (s : State) : State :=
  let fix := match s.dse.target with | some t => if s.moving && s.targetFixed t then some t else none | none => none
  let out := s.predict
  let d := s.demand
  let sel := s.selectPlan d out fix
  let full := s.b F.DSE_STAT_FULL
  let plan := if full then sel.1.2.2.filter (fun x => d.cars.contains x.1 || some x.1 == fix) else sel.1.2.2
  let s1 := (sel.2.showPlan d sel.1.1 plan).fullStatus d
  let s2 := s1.setDse { s1.dse with
    passes := s1.dse.passes + 1, modelRuns := s1.dse.modelRuns + b2n (s1.b F.PKG_STAT_VALID), due := false }
  let depth := s2.g F.MOD_CUR_SPEC
  let overdue := s2.dse.causes.contains 10
  let preTag := (s2.dse.planned.find? (fun p => !p.committed && p.leg == 0 && p.what == 3)).map Planned.tag
  let differ := s2.differTag plan
  let tag := match differ, (if overdue then preTag else none) with
    | some a, some b => some (if tagGt a b then b else a)
    | some a, none => some a
    | none, x => x
  let cause := if depth < s2.dse.depth && !s2.dse.causes.any (fun c => c == 1 || c == 2 || c == 4) then 8
    else if overdue && differ = none then 10 else 1
  let s3 := match tag with
    | some t => s2.squashFrom t (if overdue && differ = none then 10 else cause)
    | none => s2.setDse { s2.dse with causes := [] }
  let s4 := if overdue then s3.setDse { s3.dse with doorOwed := true } else s3
  let stopsLeg := plan.isEmpty && !s4.stopsNearest && s4.lift != .positionLost && s4.lift != .inspection &&
    (s4.dse.runOn || s4.dse.brakeOn) && !s4.dse.planned.any (fun p => p.what == 4 || p.what == 7)
  let s5 := if stopsLeg then s4.setDse { s4.dse with owe := true } else s4
  let s6 := (s5.stageMode plan).setDse { (s5.stageMode plan).dse with depth := depth, due := tag.isSome }
  let s7 := s6.pb F.DSE_STAT_FIXED (match s6.dse.target with | some t => s6.targetFixed t | none => false)
  ((s7.oweBids out).packageSwitch).perfShown

/-! ## Await and Commit (R394 to R396, R403) -/

/-- A stage's release condition (R394, R108). -/
def State.releaseMet (s : State) (p : Planned) : Bool :=
  match p.what with
  | 0 | 8 => (s.door p.side).ask == (if p.what = 8 || p.pclass = 22 then 3 else 2) || s.doorShut p.side
  | 3 => s.dse.planned.any (fun q => q.leg == p.leg && q.what == 2 && q.committed)
  | 4 | 5 | 6 => if s.keysGone then s.b F.CAR_STAT_DZ && s.g F.CAR_STAT_LANDING == p.landing else s.standsAt p.landing
  | _ => true

/-- Await issues the release of the highest stage up to which every waiting RELEASE stage has met its condition; none goes
into a frame that carries a squash (R394). -/
def State.awaitRelease (s : State) : State :=
  if s.bar.squash.isSome then s
  else
    let w := s.dse.planned.filter (fun p => !p.committed)
    let ok := w.takeWhile (fun p => !p.release || p.released || s.releaseMet p)
    match (ok.filter (fun p => p.release && !p.released)).getLast? with
    | none => s
    | some r =>
      let s1 := { s with bar := { s.bar with release := some r.tag } }
      s1.setDse { s1.dse with planned := s1.dse.planned.map (fun p =>
        if !p.committed && tagGe r.tag p.tag then { p with released := true } else p) }

/-- Calls that a forwarded open stage serves at its landing (R403). -/
def State.serveAt (s : State) (l : Nat) : State :=
  let next := ((s.planShown.filter (fun x => x.1 != l)).head?).map (·.1)
  let dirOk := fun (e : Nat) => match next with
    | none => true
    | some t => s.callUp e == decide (s.levelOf l < s.levelOf t)
  let halls := s.entries.filter (fun e => s.g (F.DSE_CALL0_FROM e) == l && s.g (F.DSE_CALL0_STATUS e) == 1 && dirOk e &&
    (!s.grouped || s.g (F.DSE_CALL0_CAR e) == s.g F.GRP_CFG_STATION))
  let s1 := halls.foldl (fun (x : State) e =>
    let x1 := if x.g (F.DSE_CALL0_KIND e) = 3 then x.addCarCall (x.g (F.DSE_CALL0_TO e)) (x.callSeq e) else x
    x1.endCall e 5) s
  if (s1.g F.DSE_CARCALLS_CALLS).testBit l then
    (s1.p (F.DSE_CARCALLS_CALLS.bit l) 0).sendAck none 3 (ackPayload 5 0 0x3f 0x11 l (s1.callSeq (1024 + l)) 0xffff)
  else s1

/-- Whether the door of a stage is opened for a hall call (R359). -/
def State.hallAt (s : State) (l : Nat) : Bool := s.entries.any (fun e => s.g (F.DSE_CALL0_FROM e) == l)

/-- The Commit stage acts on one committed stage (R396, R403). -/
def State.commitOne (s : State) (p : Planned) : State :=
  let s0 := s.setDse { s.dse with
    planned := s.dse.planned.map (fun q => if q.tag == p.tag then { q with committed := true } else q)
    runOn := if p.outMask.testBit (s.g F.DSE_OUTMAP_RUN) then p.outValue.testBit (s.g F.DSE_OUTMAP_RUN) else s.dse.runOn
    brakeOn := if p.outMask.testBit (s.g F.DSE_OUTMAP_BRAKE) then p.outValue.testBit (s.g F.DSE_OUTMAP_BRAKE) else s.dse.brakeOn }
  let door := p.what = 0 || p.what = 3 || p.what = 6
  if !door then s0
  else if s0.b F.CAR_STAT_DZ && s0.g F.CAR_STAT_LANDING == p.landing then
    if p.what = 0 then
      if s0.doorShut p.side && s0.b (F.DOR_CFG_EN p.side) then s0 else s0.doorCommand p.side p.pclass false
    else
      let hall := s0.hallAt p.landing
      let s1 := s0.doorCommand p.side p.pclass hall
      (s1.setDse { s1.dse with doorOwed := false }).serveAt p.landing
  else
    let s1 := s0.dseLost
    if p.what = 3 || p.what = 6 then s1.setDse { s1.dse with doorOwed := true } else s1

/-- With no leg in progress, a committed door stage has done its work. -/
def State.idleDone (s : State) : State :=
  if s.dse.target.isSome then s
  else s.setDse { s.dse with planned := s.dse.planned.filter (fun p => !(p.committed && (p.what == 0 || p.what == 6 || p.what == 8))) }

/-- A commit report (R394 to R397, R400): committed stages act, a class withdrawn squashes (code 5) and ends the leg where a committed
output stage of it names the class, a pre-open that is overtaken is
marked (R395), releases are issued. -/
def State.commitWork (s : State) (tags : List Nat) (permit : Nat) : State :=
  let late := s.dse.gone.filter (fun p => tags.contains p.tag)
  let alive := fun (t : Nat) => s.bar.squash.isSome || s.bar.shadow.any (fun o => (o.map Stage.tag) == some t) ||
    s.bar.sent.any (fun x => x.2.tag == t)
  let s0 := s.setDse { s.dse with planned := s.dse.planned ++ late, gone := s.dse.gone.filter (fun p => !tags.contains p.tag && alive p.tag) }
  let s1 := (s0.dse.planned.filter (fun p => tags.contains p.tag)).foldl State.commitOne s0
  let s2 := s1.legDone.idleDone.oldestShown
  let gone := s2.dse.permitPrev &&& (s2.dse.permitPrev ^^^ (s2.dse.permitPrev &&& permit))
  let named := s2.dse.planned.any (fun p => gone.testBit p.pclass && (p.leg == 0 || !p.committed))
  let drive := s2.dse.planned.any (fun p => gone.testBit p.pclass && p.leg == 0 && p.committed && p.outMask != 0)
  let s3 := s2.setDse { s2.dse with permitPrev := permit, due := true }
  let s4 := if named && !s3.waitingTags.isEmpty then
      let x := s3.squashAll 5
      if drive && (x.dse.runOn || x.dse.brakeOn) then x.setDse { x.dse with owe := true } else x
    else s3
  let pre := s4.dse.planned.any (fun p => p.leg == 0 && p.what == 3 && !p.committed)
  let off := s4.dse.planned.any (fun p => p.leg == 0 && p.what == 4 && !p.committed && s4.releaseMet p)
  let s5 := if pre && off then s4.passCause 10 else s4
  s5.awaitRelease

/-- A commit report reaches DSE; while DSE is frozen it waits (R378). -/
def State.commitReport (s : State) (tags : List Nat) (permit : Nat) : State :=
  if !s.b F.DSE_STAT_RUN then s
  else if s.power == .halt then
    (if tags.isEmpty then s else s.setDse { s.dse with intake := s.dse.intake ++ [.report tags permit] })
  else s.commitWork tags permit

/-- The drive's status (R450): DSTATE and DSEQ, and DSE_EVT.DRIVE when it changes. -/
def State.takeDrive (s : State) (pl : List Byte) : State :=
  let st := (pl.getD 0 0).toNat % 8
  let sq := (pl.getD 1 0).toNat
  let s1 := (s.p F.DSE_DRIVE_DSTATE st).p F.DSE_DRIVE_DSEQ sq
  if st = s.g F.DSE_DRIVE_DSTATE && sq = s.g F.DSE_DRIVE_DSEQ then s1 else (s1.evt 0x1b 5).passDue

/-- On resume DSE takes what waited, in order, before its next pass (R378). -/
def State.takeIntake (s : State) : State :=
  (s.dse.intake.foldl (fun (x : State) w =>
    match w with
    | .call n j pl => x.takeCall (256 * n + j) pl
    | .cancel n j pl => x.takeCancel (256 * n + j) pl
    | .drive pl => x.takeDrive pl
    | .report t p => x.commitWork t p) (s.setDse { s.dse with intake := [] }))

/-! ## The commands -/

/-- A pass (R375), due by its triggers; with `overtaken` a squash cause fell within a first pass, whose result is discarded
(R376). -/
def effDsePass (overtaken : Bool) (s : State) : State :=
  if !s.b F.DSE_STAT_RUN || s.power == .halt || !s.dse.due then s
  else
    let s1 := if overtaken && !s.dse.causes.isEmpty then
        s.setDse { s.dse with passes := s.dse.passes + 1, discarded := s.dse.discarded + 1
                              modelRuns := s.dse.modelRuns + b2n (s.b F.PKG_STAT_VALID) }
      else s
    s1.passBody

/-- An authenticated frame of the drive (R450). -/
def effDriveStatusFrame (pl : List Byte) (s : State) : State := (s.dseIntake (.drive pl) (fun x => x.takeDrive pl))

/-- The coarse counts are updated (R413). -/
def effDsePerfUpdate (s : State) : State :=
  let co := fun (n : Nat) => n / 1024 * 1024
  ((((s.p F.DSE_PERF0_PASSES (co s.dse.passes)).p F.DSE_PERF0_STAGED (co s.dse.staged)).p F.DSE_PERF1_SQUASHED
    (co s.dse.squashed)).p F.DSE_PERF1_DISCARDED (co s.dse.discarded)).p F.DSE_PERF1_MODELRUNS (co s.dse.modelRuns)

/-- DSE_TOD advances by one minute and wraps at a week. -/
def effDseTodAdvance (s : State) : State := s.p F.DSE_TOD_MINUTE ((s.g F.DSE_TOD_MINUTE + 1) % 10080)

end Sys2Proof.Machine
end

