-- ==== Sys2Proof/Machine/Request.lean ====
section
/-!
DEFINITION. Sys2Proof/Machine/Request.lean: requests on the mode axes (R77 to R83, R92) as they are made: MOD decides them in its
next evaluation.
-/
namespace Sys2Proof.Machine
open Sys2Proof

/-- Requesters as MOD_CAUSEn.WHO numbers them (R93). -/
def whoOf : Accessor → Nat
  | .host => 2 | .mgmt => 3 | .applet => 4 | .keeper => 5 | .debug => 8 | .hostCmd => 2

/-- Shows the state of a request: STATE, CAUSE and, once it is decided, SEQ (R92). -/
def State.reqShow (s : State) (i st cause : Nat) : State :=
  ((s.p (F.MOD_REQ_STATE i) st).p (F.MOD_REQ_CAUSE i) cause).p (F.MOD_REQ_SEQ i) (if st = 1 || st = 0 then 0 else s.g F.MOD_SEQ_SEQ)

/-- A request leaves the set of those that wait. -/
def State.reqDrop (s : State) (i : Nat) : State :=
  { s with mod := { s.mod with held := s.mod.held.filter (· != i), fresh := s.mod.fresh.filter (· != i) } }.pb
    (F.MOD_STAT_DEFERRED.bit i) false

/-- A request is refused with a cause (R78), and one is accepted. -/
def State.reqRefuse (s : State) (i cause : Nat) : State := ((s.reqShow i 3 cause).reqDrop i).evt 8 1
def State.reqAccept (s : State) (i : Nat) : State := ((s.reqShow i 2 0).reqDrop i).evt 8 1

/-- A request is refused where no rule names the cause: it is one of the twelve of R92, and which one is a free value (log entry 162). -/
def State.reqRefuseOpen (s : State) (i : Nat) : State := let d := s.draw; d.2.reqRefuse i (1 + d.1.toNat % 12)

/-- A request is deferred with a cause (R79). -/
def State.reqDefer (s : State) (i cause : Nat) : State :=
  let s1 := (s.reqShow i 1 cause).pb (F.MOD_STAT_DEFERRED.bit i) true
  { s1 with mod := { s1.mod with
      fresh := s1.mod.fresh.filter (· != i), held := if s1.mod.held.contains i then s1.mod.held else s1.mod.held ++ [i] } }

/-- A permitted request (R80): it replaces one that waits on its index, which is counted. Until it is decided MOD_REQn shows it
idle. -/
def State.makeRequest (s : State) (i value arg who : Nat) : State :=
  let s1 := if s.mod.held.contains i || s.mod.fresh.contains i then s.lost 8 51 else s
  let s2 := ((s1.reqDrop i).p (F.MOD_REQ_VALUE i) value).p (F.MOD_REQ_ARG i) arg
  let s3 := s2.reqShow i 0 0
  { s3 with mod := { s3.mod with fresh := s3.mod.fresh ++ [i], who := s3.mod.who.set i who } }

/-- VALUE 0xFF cancels a deferred request (R81); with none deferred it is a value no axis knows. -/
def State.cancelRequest (s : State) (i arg who : Nat) : State :=
  if s.mod.held.contains i then ((s.p (F.MOD_REQ_VALUE i) 0xff).p (F.MOD_REQ_ARG i) arg).reqRefuse i 7
  else s.makeRequest i 0xff arg who

/-- A hardware cause for the next evaluation (R47). -/
def State.axisCall (s : State) (axis value cause who : Nat) : State :=
  { s with mod := { s.mod with calls := s.mod.calls ++ [⟨axis, value, cause, who⟩] } }

end Sys2Proof.Machine
end

