-- ==== Sys2Proof/Machine/Time.lean ====
section
/-!
DEFINITION. Sys2Proof/Machine/Time.lean: the basic cycle, references, time roles and the wake rule (R457 to R478).
-/
namespace Sys2Proof.Machine
open Sys2Proof

/-- Window comparison over 32 bits (R317 with 2^32). -/
def above32 (a b : Nat) : Bool := let d := (a + 2 ^ 32 - b % 2 ^ 32) % 2 ^ 32; d != 0 && decide (d < 2 ^ 31)

/-- Adds one to TSY_TROUBLE.LOST with its event. -/
def State.tsyLost (s : State) (cls : Nat) : State := (s.lost 0x22 cls).evt 0x22 5

/-- SYNC takes a value, with its event. -/
def State.syncTo (s : State) (v : Bool) : State :=
  if s.b F.TSY_STAT_SYNC = v then s else (s.pb F.TSY_STAT_SYNC v).evt 0x22 1

/-- A forward step of the count is counted (R466, R467). -/
def State.stepCounted (s : State) : State := (s.bump F.TSY_CNT_STEPS).evt 0x22 4

/-- TSY runs: its clock runs and the 641 is not in Watch (R457, R460). -/
def State.tsyRuns (s : State) : Bool := s.canLive

/-- The time-floor counter of the tenant: 1 for the Owner, 2 for the Contractor (R459). -/
def State.floorIndex (s : State) : Nat := if s.tenancy == .contractor then 2 else 1

/-- Keeper raises the time floor to the current count at least once in 65 536 cycles (R459). -/
def State.floorRaise (s : State) : State :=
  let c := s.g F.TSY_COUNT_COUNT
  if s.b F.SYS_STAT_KEEPER_UP && decide (s.tsy.floorAt + 65536 ≤ c) then
    let s1 := { s with tsy := { s.tsy with floorAt := c } }
    if s1.g (F.CTR_VAL_VALUE s1.floorIndex) < c then s1.p (F.CTR_VAL_VALUE s1.floorIndex) c else s1
  else s

/-- A reference becomes pending on a bus where its time key is held (R461, R462); one still pending from before is dropped. -/
def State.refSend (s : State) (n : Nat) : State :=
  match (s.can n).timeKey with
  | none => s
  | some _ =>
    let f : TxFrame :=
      { kind := .reference, id := s.g F.TSY_CFG_REFID + s.g F.GRP_CFG_STATION, ide := false, fdf := true, brs := false, dlc := 10
        job := 0, data := [], failed := 0, tx := false, abort := false }
    let old := (s.can n).refs
    let s1 := if old.isEmpty then s else s.tsyLost 63
    s1.setCan n { s1.can n with refs := old.filter (fun r => r.tx) ++ [f] }

/-- The 641 sends references on CB1 (R462). -/
def State.leadsTime (s : State) : Bool := s.timeRole == .master || s.timeRole == .backup

/-- The schedule by which a Follower expects references only at wake windows (R473). -/
def State.windowed (s : State) : Bool := s.b F.TSY_OFFSET_SPARSE && s.b F.TSY_OFFSET_WAKE_EVERY && s.tsy.accepted

/-- A reference is expected at the boundary whose count stands (R473). -/
def State.expected (s : State) : Bool :=
  s.timeRole == .follower && (!s.windowed || s.g F.TSY_COUNT_COUNT % s.g F.TSY_OFFSET_WAKE_EVERY == 0)

/-- A cycle boundary (R457, R462, R466, R467). -/
def State.boundary (s : State) : State :=
  let c := (s.g F.TSY_COUNT_COUNT + 1) % 2 ^ 32
  let step := match s.tsy.stepTo with | some t => above32 t c | none => false
  let s1 := if step then (s.p F.TSY_COUNT_COUNT (s.tsy.stepTo.getD c)).stepCounted else s.p F.TSY_COUNT_COUNT c
  let s2 := { s1 with tsy := { s1.tsy with stepTo := none, stepped := step, hit := false
                                           searchCycles := if s1.b F.TSY_STAT_SEARCHING then s1.tsy.searchCycles + 1 else 0 } }
  let s3 := (s2.p F.TSY_COUNT_PHASE 0).pb F.TSY_STAT_WINDOWED s2.windowed
  let s4 := s3.refSend 0
  (if s4.leadsTime then s4.refSend 1 else s4).floorRaise

/-- Entry to a time role (R468, R469): MISSRUN and SYNC follow it. -/
def State.roleEntered (s : State) : State :=
  let s1 := { s with tsy := { s.tsy with accepted := false, bare := 0 } }.evt 0x22 0
  if s1.leadsTime then (s1.p F.TSY_STAT_MISSRUN 0).syncTo true
  else s1

/-- A better-ranked sender has the lower RANK, or the lower STATION at equal RANK (R468). -/
def State.betterRanked (s : State) (rank station : Nat) : Bool :=
  decide (rank < s.g F.TSY_CFG_RANK) || (rank == s.g F.TSY_CFG_RANK && decide (station < s.g F.GRP_CFG_STATION))

/-- An accepted reference (R465 to R467, R468, R470, R476): its offset is `o` microseconds. R468 names no requester: WHO is 7, a partner,
where a better-ranked reference ends the role, and 0 where missed references do (log entry 170). -/
def State.refAccepted (s : State) (pl : List Byte) (c : Nat) (o : Int) : State :=
  let b1 := (pl.getD 1 0).toNat
  let b4 := (pl.getD 4 0).toNat
  let s1 : State := { s with cb1 := { s.cb1 with lastRef := some c } }
  let s2 := (((((s1.ps F.TSY_OFFSET_O o).p F.TSY_OFFSET_RANK (b1 % 8)).p F.TSY_OFFSET_STATION (fld b1 4 3)).pb F.TSY_OFFSET_BACKUP
    (bitAt b1 3)).pb F.TSY_OFFSET_SPARSE (bitAt b4 7)).p F.TSY_OFFSET_WAKE_EVERY (b4 % 128)
  let far := decide (1000 < o.natAbs)
  let s3 := if far then ((s2.bump F.TSY_CNT_DISAGREE).classInc 56).evt 0x22 3
    else if s2.guardUs < o.natAbs then s2.bump F.TSY_CNT_DRIFTS else s2
  if s3.leadsTime then
    let s4 := if above32 c (s3.g F.TSY_COUNT_COUNT) then
        let best := match s3.tsy.stepTo with | some t => if above32 c t then c else t | none => c
        { s3 with tsy := { s3.tsy with stepTo := some best } }
      else s3
    if s4.betterRanked (b1 % 8) (fld b1 4 3) then s4.axisCall 7 TimeRole.follower.code (if far then 0x0c else 0x18) 7 else s4
  else
    let ph : Int := (s3.g F.TSY_COUNT_PHASE : Int) - o
    let inWindow := decide (s3.g F.TSY_COUNT_PHASE ≤ s3.lateUs) || decide (1000 * s3.cycleMs ≤ s3.g F.TSY_COUNT_PHASE + s3.guardUs)
    let s4 := s3.p F.TSY_COUNT_PHASE ph.toNat
    let s5 := if above32 c (s4.g F.TSY_COUNT_COUNT) then (s4.p F.TSY_COUNT_COUNT c).stepCounted else s4
    let s6 : State := { s5 with tsy := { s5.tsy with accepted := true, bare := 0, hit := s5.tsy.hit || inWindow, wakeMisses := none } }
    let s7 := ((s6.p F.TSY_STAT_MISSRUN 0).syncTo true).pb F.TSY_STAT_WINDOWED s6.windowed
    if s7.b F.TSY_STAT_SEARCHING then (s7.p F.TSY_STAT_SEARCHING 0).axisCall 6 BusMode.normal.code 0x0d 0 else s7

/-- A reference frame on CB1 (R464, R471): length, key and MAC, then the count. -/
def State.refTaken (s : State) (lenOk macOk : Bool) (pl : List Byte) (fresh : Nat) (o : Int) : State :=
  if s.timeRole == .free then s
  else if !lenOk || s.cb1.timeKey.isNone || !macOk then s.tsyLost 63
  else
    let c := (pl.getD 0 0).toNat * 2 ^ 24 + fresh % 2 ^ 24
    if (match s.cb1.lastRef with | some l => above32 c l | none => true) then s.refAccepted pl c o else s.tsyLost 37

/-- An expected reference is missed (R468, R469, R473, R476). -/
def State.refMissed (s : State) : State :=
  let run := s.g F.TSY_STAT_MISSRUN
  let s1 := (s.bump F.TSY_CNT_MISSES).p F.TSY_STAT_MISSRUN (min 3 (run + 1))
  let s2 := if run + 1 = 2 then ((s1.evt 0x22 2).classInc 57).syncTo false else s1
  let s3 : State := { s2 with tsy := { s2.tsy with bare := s2.tsy.bare + 1, hit := true } }
  match s3.tsy.wakeMisses with
  | some k =>
    if k + 1 = 2 then
      let s4 : State := { s3 with tsy := { s3.tsy with wakeMisses := none, searchCycles := 0 } }
      (s4.p F.TSY_STAT_SEARCHING 1).axisCall 6 BusMode.rateSearch.code 0x0d 0
    else { s3 with tsy := { s3.tsy with wakeMisses := some (k + 1) } }
  | none =>
    if s3.b F.TSY_STAT_SEARCHING then s3
    else if s3.b F.TSY_CFG_MASTER_OK && decide (2 + s3.g F.TSY_CFG_RANK ≤ s3.tsy.bare) then
      s3.axisCall 7 (if s3.tsy.accepted then TimeRole.backup.code else TimeRole.master.code) 0x0d 0
    else s3

/-- TSY stops in Watch, and on wake goes on as though it had kept counting (R460). -/
def State.tsySleep (s : State) : State := { s with tsy := { s.tsy with sleptAt := s.g F.CLK_UPTIME_US } }
def State.tsyWake (s : State) (timerAlone : Bool) : State :=
  let us := s.g F.TSY_COUNT_PHASE + (s.g F.CLK_UPTIME_US - s.tsy.sleptAt)
  let cyc := 1000 * s.cycleMs
  let s1 := (s.p F.TSY_COUNT_COUNT (s.g F.TSY_COUNT_COUNT + us / cyc)).p F.TSY_COUNT_PHASE (us % cyc)
  { s1 with tsy := { s1.tsy with wakeMisses := some 0, hit := true, timerWake := timerAlone } }

/-- The timer of the next wake window (R474). -/
def State.scheduleWake (s : State) : State :=
  let every := if s.leadsTime then s.g F.TSY_CFG_WAKE_EVERY else if s.tsy.accepted then s.g F.TSY_OFFSET_WAKE_EVERY else 0
  if !s.b F.TSY_CFG_SCHED || every = 0 then s
  else
    let cyc := 1000 * s.cycleMs
    let lead := 1000 * s.g F.TSY_CFG_LEAD
    let us := fun (k : Nat) => (wakeIn every (s.g F.TSY_COUNT_COUNT) + k * every) * cyc - s.g F.TSY_COUNT_PHASE
    match (List.range (lead / (every * cyc) + 3)).find? (fun k => decide (lead < us k)) with
    | some k => s.p F.FFY_TIMER_TICKS ((us k - lead) * 100 / 256)
    | none => s

/-! ## The commands -/

def effCycleBoundary (s : State) : State := if s.tsyRuns then s.boundary else s

/-- A reference still unsent LATE after its boundary is dropped (R463). -/
def effReferenceLateDrop (n : Nat) (s : State) : State :=
  if s.tsyRuns && (s.can n).refs.any (fun f => !f.tx) then
    ((s.setCan n { s.can n with refs := (s.can n).refs.filter (fun f => f.tx) }).tsyLost 63)
  else s

def effReferenceReceive (lenOk macOk : Bool) (pl : List Byte) (fresh : Nat) (o : Int) (s : State) : State :=
  if s.tsyRuns then (s.refTaken lenOk macOk pl fresh o) else s

/-- No reference has been accepted by LATE after an expected boundary (R473); after a timer wake that found nothing Keeper
requests Watch again (R475). -/
def effReferenceMiss (s : State) : State :=
  if s.tsyRuns && s.expected && !s.tsy.hit then
    let s1 := s.refMissed
    let every := if s.leadsTime then s.g F.TSY_CFG_WAKE_EVERY else s.g F.TSY_OFFSET_WAKE_EVERY
    (if s1.tsy.timerWake && s1.b F.TSY_CFG_RESLEEP && every ≠ 0 && s1.g F.TSY_COUNT_COUNT % every = 0 then
      ({ s1 with tsy := { s1.tsy with timerWake := false } }).makeRequest 0 Power.watch.code 0 5
    else s1)
  else s

/-- Three basic cycles have passed in the wake-rule search (R476). -/
def effWakeSearchEnd (s : State) : State :=
  if s.b F.TSY_STAT_SEARCHING && decide (3 ≤ s.tsy.searchCycles) then
    let s1 := (s.p F.TSY_STAT_SEARCHING 0).axisCall 6 BusMode.normal.code 0x0d 0
    (if s1.b F.TSY_CFG_MASTER_OK then s1.axisCall 7 TimeRole.backup.code 0x0d 0 else s1.syncTo false)
  else s

/-- A fixture status frame (R478). -/
def State.takeFixture (s : State) (job : Nat) (pl : List Byte) : State :=
  if bitAt (pl.getD 1 0).toNat 0 then ((s.bump F.TSY_FIX_COUNT).p F.TSY_FIX_JOB job).evt 0x22 6 else s

def effFixtureStatusFrame (bus job : Nat) (pl : List Byte) (s : State) : State := (s.takeFixture (256 * bus + job) pl)

end Sys2Proof.Machine
end

