-- ==== Sys2Proof/Machine/Group.lean ====
section
/-!
DEFINITION. Sys2Proof/Machine/Group.lean: lift groups (R479 to R491): digests, the majority, the group role, bids and assignment
records.
-/
namespace Sys2Proof.Machine
open Sys2Proof

/-- Adds one to GRP_TROUBLE.LOST with its event. -/
def State.grpLost (s : State) (cls : Nat) : State := (s.lost 0x23 cls).evt 0x23 6

/-- Bytes of the registers that hold a digest. -/
def State.digestBytes (s : State) (f : Nat → Fld) (n : Nat) : List Byte :=
  ((List.range 6).flatMap (fun i => leBytes 8 (s.word (f i).key).toNat)).take n

/-- The own digest's payload (R481). -/
def State.ownDigest (s : State) : List Byte :=
  let assigned := (s.entries.filter (fun e => s.g (F.DSE_CALL0_CAR e) == s.g F.GRP_CFG_STATION &&
    s.g (F.DSE_CALL0_STATUS e) == 1)).length
  [1, BitVec.ofNat 8 (s.g F.GRP_CFG_STATION + 8 * s.group.code),
   BitVec.ofNat 8 (s.timeRole.code + 4 * s.g F.TSY_CFG_RANK + 32 * s.g F.TSY_STAT_SYNC + 64 * s.g F.TSY_CFG_MASTER_OK),
   BitVec.ofNat 8 (s.lift.code + 16 * b2n s.keysGone + 32 * s.g F.DSE_STAT_FULL)] ++
  leBytes 4 (s.g F.TSY_COUNT_COUNT) ++ leBytes 2 s.nvm.keeperVersion ++ s.digestBytes F.GRP_CFGDIG_DIGEST 12 ++
  s.digestBytes F.CMG_DIGEST_DIGEST 12 ++
  (if s.b F.PKG_STAT_VALID then s.digestBytes F.PKG_DIGEST_DIGEST 12 else List.replicate 12 0) ++
  [BitVec.ofNat 8 (s.g F.CAR_STAT_LANDING + 64 * s.g F.CAR_STAT_DZ),
   BitVec.ofNat 8 (s.g F.CAR_STAT_UP + 2 * s.g F.CAR_STAT_DOWN)] ++ leBytes 2 assigned ++
  [BitVec.ofNat 8 (s.g F.GRP_STAT_LEADER + 8 * s.g F.GRP_STAT_MAJORITY)] ++ List.replicate 5 0

/-- The digest of a station that counts at an exchange: the own one, or the latest of a present station (R483). -/
def State.digestOf (s : State) (st : Nat) : Option (List Byte) :=
  if st = s.g F.GRP_CFG_STATION then some s.ownDigest
  else if s.b (F.GRP_PEER_PRESENT st) then s.grp.digests.getD st none else none

/-- A digest shows SYNC 1 and job keys held (R483); its tuple. -/
def digestCounts (d : List Byte) : Bool := bitAt (d.getD 2 0).toNat 5 && !bitAt (d.getD 3 0).toNat 4
def digestTuple (d : List Byte) : List Byte := slice d 8 38

/-- The stations that hold a tuple and count. -/
def State.holders (s : State) (t : List Byte) : List Nat :=
  (List.range 8).filter (fun st => (s.g F.GRP_CFG_MEMBERS).testBit st &&
    (match s.digestOf st with | some d => digestCounts d && digestTuple d == t | none => false))

/-- The majority set (R483), empty where there is no majority. -/
def State.majoritySet (s : State) : List Nat :=
  let n := (bitsBelow 8 (s.g F.GRP_CFG_MEMBERS)).length
  (((List.range 8).filterMap s.digestOf).map (fun d => s.holders (digestTuple d))).find? (fun l => decide (n < 2 * l.length))
    |>.getD []

/-- Own presence shows in GRP_STAT.PRESENT with the peers'. -/
def State.presentShown (s : State) : State :=
  let m := ofBits 8 (fun st => (s.digestOf st).isSome)
  if s.g F.GRP_STAT_PRESENT = m then s else (s.p F.GRP_STAT_PRESENT m).evt 0x23 2

/-- The group role of an exchange (R484): the call on axis 4, and what it counts. -/
def State.groupDecide (s : State) (set : List Nat) : State :=
  let me := s.g F.GRP_CFG_STATION
  let isolate := fun (x : State) (cause cls bit : Nat) =>
    if x.group == .isolated then x
    else
      let y := ((x.classInc cls).evt 0x23 bit).axisCall 4 GroupRole.isolated.code cause 6
      if y.b F.GRP_CFG_AUTO_REJOIN then y.makeRequest 4 GroupRole.member.code 0 5 else y
  if set.isEmpty then isolate s 0x0b 55 1
  else if !set.contains me then isolate s 0x0a 54 0
  else
    let want := if set.headD 0 = me then GroupRole.leader else GroupRole.member
    if s.group == .isolated || s.group == want then s else s.axisCall 4 want.code 0x18 6

/-- A digest exchange (R481 to R486). -/
def State.exchange (s : State) : State :=
  let s0 := (s.groupFrame 0 s.ownDigest).presentShown
  let set := s0.majoritySet
  let me := s0.g F.GRP_CFG_STATION
  let own := s0.ownDigest
  let s1 := (List.range 8).foldl (fun (x : State) st =>
    match x.digestOf st with
    | some d =>
      let diff := fun (a n : Nat) => b2n (slice d a n != slice own a n)
      (x.pb (F.GRP_PEER_AGREE st) (set.contains st)).p (F.GRP_PEER_DIFF st)
        (diff 10 12 + 2 * diff 8 2 + 4 * diff 22 12 + 8 * diff 34 12)
    | none => x.p (F.GRP_PEER_AGREE st) 0) s0
  let lead := set.headD (s1.g F.GRP_STAT_LEADER)
  let s2 := ((s1.pb F.GRP_STAT_MAJORITY (!set.isEmpty)).p F.GRP_STAT_AGREE (ofBits 8 (fun st => set.contains st))).p
    F.GRP_STAT_LEADER lead
  let s3 := if lead = s1.g F.GRP_STAT_LEADER then s2
    else ({ s2 with grp := { s2.grp with rebid := true } }.evt 0x23 3)
  let s4 : State := { s3 with mod := { s3.mod with groupMajority := set.contains me } }
  s4.groupDecide set

/-- The checks of R480 and R445 on a group frame: key, MAC and length, then freshness; what a failure counts. -/
def State.groupChecked (s : State) (macOk : Bool) (fresh : Nat) (take : State → State) : State :=
  if !s.b F.GRP_CFG_EN then s
  else if s.cb1.groupKey.isNone then s.grpLost 63
  else
    let c := s.freshNow
    let ok := decide ((c + 2 ^ 24 - fresh % 2 ^ 24) % 2 ^ 24 ≤ 2) || (fresh + 2 ^ 24 - c) % 2 ^ 24 == 1
    if !ok then s.grpLost 37 else if !macOk then s.grpLost 63 else take s

/-- An accepted digest (R483, R486). -/
def State.takeDigest (s : State) (st : Nat) (d : List Byte) : State :=
  let b := fun i => (d.getD i 0).toNat
  let count := leAt d 4 4
  let s1 := ((((((((s.p (F.GRP_PEER_PRESENT st) 1).p (F.GRP_PEER_ROLE st) (fld (b 1) 3 2)).p (F.GRP_PEER_TIME st) (b 2 % 4)).p
    (F.GRP_PEER_RANK st) (fld (b 2) 2 3)).p (F.GRP_PEER_SYNC st) (fld (b 2) 5 1)).p (F.GRP_PEER_LIFT st) (b 3 % 16)).p
    (F.GRP_PEER_KEYS_ABSENT st) (fld (b 3) 4 1)).p (F.GRP_PEER_KEEPER st) (leAt d 8 2)).p (F.GRP_PEER_AGE st) 0
  let s2 := (s1.p (F.GRP_PCOUNT_COUNT st) count).p (F.GRP_PCOUNT_ASSIGNED st) (leAt d 48 2)
  let s3 : State := { s2 with grp := { s2.grp with digests := s2.grp.digests.set st (some (slice d 0 56)) } }
  let s4 := s3.presentShown
  if s4.leadsTime && above32 count (s4.g F.TSY_COUNT_COUNT) then
    let goal := (count + 2) % 2 ^ 32
    let best := match s4.tsy.stepTo with | some t => if above32 goal t then goal else t | none => goal
    { s4 with tsy := { s4.tsy with stepTo := some best } }
  else s4

/-- One bid record (R487, R488, R491). -/
def State.takeBid (s : State) (st rec : Nat) : State :=
  let kind := fld rec 0 2
  let orig := fld rec 2 6
  let dest := fld rec 8 6
  if bitAt rec 14 then
    match s.findCall kind orig dest with
    | none => s
    | some e =>
      if s.g (F.DSE_CALL0_CAR e) = s.g F.GRP_CFG_STATION && s.g (F.DSE_CALL0_STATUS e) = 1 then s.evt 0x23 5
      else if s.group == .leader then (s.endCall e 5).passDue else s
  else s.addBid ⟨st, kind, orig, dest, fld rec 16 16⟩

/-- A bid frame (R487). -/
def State.takeBids (s : State) (st : Nat) (d : List Byte) : State :=
  if !s.grouped then s
  else
    ((List.range (min 13 (d.getD 1 0).toNat)).foldl (fun (x : State) i => x.takeBid st (leAt d (2 + 4 * i) 4)) s).leaderAssign

/-- One assignment record (R489). -/
def State.takeAssign (s : State) (rec : Nat) : State :=
  match s.findCall (fld rec 0 2) (fld rec 2 6) (fld rec 8 6) with
  | none => s
  | some e =>
    let me := s.g F.GRP_CFG_STATION
    let st := fld rec 14 3
    let status := fld rec 17 2
    let mine := s.g (F.DSE_CALL0_CAR e) = me && s.g (F.DSE_CALL0_STATUS e) = 1
    if status = 0 then
      let s1 := (s.freeCall e).evt 0x1b 2
      if mine then (s1.evt 0x23 4).passCause 2 else s1
    else
      let s1 := (s.p (F.DSE_CALL0_CAR e) st).setStatus e status
      let now := st = me && status = 1
      let s2 := if mine || now then s1.evt 0x23 4 else s1
      if mine && !now then s2.passCause 4 else if now && !mine then s2.passCause 1 else s2

/-- An assignment frame (R489): only the Leader's records act. -/
def State.takeAssigns (s : State) (st : Nat) (d : List Byte) : State :=
  if !s.grouped then s
  else if st ≠ s.g F.GRP_STAT_LEADER then s.grpLost 63
  else (List.range (min 18 (d.getD 1 0).toNat)).foldl (fun (x : State) i => x.takeAssign (leAt d (2 + 3 * i) 3)) s

/-- A station is absent (R483): the Leader assigns its calls again (R488). -/
def State.stationGone (s : State) (st : Nat) : State :=
  if s.b (F.GRP_PEER_PRESENT st) then
    let s1 := (s.p (F.GRP_PEER_PRESENT st) 0).presentShown
    let s2 : State := { s1 with grp := { s1.grp with bids := s1.grp.bids.filter (fun b => b.station != st) } }
    s2.leaderAssign
  else s

/-! ## The commands -/

def effDigestExchange (s : State) : State :=
  if s.canLive && s.power == .run && s.b F.GRP_CFG_EN && s.cb1.groupKey.isSome then s.exchange else s
def effDigestReceive (st : Nat) (macOk : Bool) (fresh : Nat) (d : List Byte) (s : State) : State :=
  (s.groupChecked macOk fresh (fun x => x.takeDigest st d))
def effStationAbsent (st : Nat) (s : State) : State := (s.stationGone st)
def effBidFrame (st : Nat) (macOk : Bool) (fresh : Nat) (d : List Byte) (s : State) : State :=
  (s.groupChecked macOk fresh (fun x => x.takeBids st d))
def effAssignmentFrame (st : Nat) (macOk : Bool) (fresh : Nat) (d : List Byte) (s : State) : State :=
  (s.groupChecked macOk fresh (fun x => x.takeAssigns st d))

end Sys2Proof.Machine
end

