-- ==== Sys2Proof/Machine/CanRx.lean ====
section
/-!
DEFINITION. Sys2Proof/Machine/CanRx.lean: reception on the CAN controllers (R424 to R428, R445), rate search (R439), heartbeats and
their supervision (R448, R452, R562), and the commands of the CAN pages.
-/
namespace Sys2Proof.Machine
open Sys2Proof

/-! ## Receive FIFO -/

/-- The FIFO's registers: LEVEL, and the head in CBn_RXH and CBn_RXDk (R428). -/
def State.fifoShown (s : State) (n : Nat) : State :=
  let q := (s.can n).fifo
  let h := q.headD { header := 0, data := [] }
  let s1 := (s.p (F.CB_RX_STAT_LEVEL n) q.length).setWord (F.CB_RXH_ID n).key h.header
  (List.range 8).foldl (fun (x : State) k => x.setWord (F.CB_RXD_DATA n k).key (BitVec.ofNat 64 (leAt h.data (8 * k) 8))) s1

/-- A frame reaches the FIFO, or is dropped where it finds it full (R428). -/
def State.fifoPut (s : State) (n : Nat) (f : RxFrame) : State :=
  let q := (s.can n).fifo
  if q.length < 64 then
    let s1 := (s.setCan n { s.can n with fifo := q ++ [f] }).fifoShown n
    if q.isEmpty then s1.evt (cbPage n) 1 else s1
  else ((s.bump (F.CB_RX_STAT_DROPPED n)).lost (cbPage n) 63).evt (cbPage n) 6

/-- The header image of a received frame (CBn_RXH). -/
def State.rxHeader (s : State) (f : BusFrame) (auth : Bool) (index : Nat) : Word :=
  BitVec.ofNat 64 (f.id % 2 ^ 29 + 2 ^ 29 * b2n f.ide + 2 ^ 30 * b2n f.fdf + 2 ^ 31 * b2n f.brs + 2 ^ 32 * (f.dlc % 16) +
    2 ^ 36 * b2n f.esi + 2 ^ 37 * b2n auth + 2 ^ 40 * (index % 64) + 2 ^ 48 * (s.g F.CLK_UPTIME_US % 2 ^ 16))

/-- The lowest acceptance filter that matches (R427). -/
def State.filterOf (s : State) (n : Nat) (f : BusFrame) : Option Nat :=
  (List.range 64).find? (fun i => s.b (F.CB_FLT_EN n i) && s.b (F.CB_FLT_IDE n i) == f.ide &&
    (f.id ^^^ s.g (F.CB_FLT_ID n i)) &&& s.g (F.CB_FLT_MASK n i) == 0)

/-- A frame that matches no job (R427). -/
def State.filtered (s : State) (n : Nat) (f : BusFrame) : State :=
  match s.filterOf n f with
  | none => s
  | some i => if s.b (F.CB_FLT_ACTION n i) then s else s.fifoPut n { header := s.rxHeader f false i, data := f.data }

/-! ## Jobs -/

/-- The enabled job whose RX identifier and format a frame carries (R426). -/
def State.jobOf (s : State) (n : Nat) (f : BusFrame) : Option Nat :=
  (List.range (jobCount n)).find? (fun j => s.b (F.CB_JOB_CFG_EN n j) && s.g (F.CB_JOB_ID_RXID n j) == f.id &&
    s.b (F.CB_JOB_CFG_IDE n j) == f.ide)

/-- The supervision of a job changes (R448): CBn_EVT.JOB, and the door engine of a door job. -/
def State.jobUp (s : State) (n j : Nat) (up : Bool) : State :=
  let s1 := (s.pb (F.CB_JOB_STAT_UP n j) up).evt (cbPage n) 16
  if n = 0 && (j = 1 || j = 2) then (if up then s1.doorJobUp (j - 1) else s1.doorJobDown (j - 1)) else s1

/-- A resident applet's JOBS list names a job (R642). -/
def State.appletJob (s : State) (job : Nat) : Bool :=
  s.nvm.applets.any (fun p => (s.g F.LVA_STAT_RESIDENT).testBit p.1 && (List.range 4).any (fun k => leAt p.2 (0x40 + 2 * k) 2 == job))

/-- An accepted frame goes to the job's engine (R445, R450, R355, R379, R478). -/
def State.deliver (s : State) (n j : Nat) (f : BusFrame) : State :=
  let pl := slice f.data 0 8
  let calls := fun (x : State) =>
    if (pl.getD 0 0).toNat = 4 then x.dseIntake (.cancel n j pl) (fun y => y.takeCancel (256 * n + j) pl)
    else x.dseIntake (.call n j pl) (fun y => y.takeCall (256 * n + j) pl)
  match s.g (F.CB_JOB_CFG_KIND n j) with
  | 1 => s.dseIntake (.drive pl) (fun x => x.takeDrive pl)
  | 2 => s.doorStatus 0 pl
  | 3 => s.doorStatus 1 pl
  | 4 => calls s
  | 5 => if (pl.getD 0 0).toNat = 0x20 then s.takeFixture (256 * n + j) pl else calls s
  | _ =>
    if s.appletJob (256 * n + j) then { s with lva := { s.lva with mail := s.lva.mail ++ [(256 * n + j, pl)] } }
    else s.fifoPut n { header := s.rxHeader f true j, data := pl }

/-- A frame of a job that fails its first or third check (R445). -/
def State.authFail (s : State) (n j : Nat) : State :=
  ((s.bump (F.CB_JOB_CNT1_AUTHFAIL n j)).lost (cbPage n) 63).evt (cbPage n) 5

/-- The checks of R445 in their order, and an accepted frame's effects. -/
def State.secured (s : State) (n j : Nat) (f : BusFrame) : State :=
  let fr := leAt f.data 8 3
  let c := s.freshNow
  if !(f.fdf && f.data.length = 16 && s.jobKeyed n j) then s.authFail n j
  else if !(decide ((c + 2 ^ 24 - fr) % 2 ^ 24 ≤ 2) || (fr + 2 ^ 24 - c) % 2 ^ 24 == 1) then
    ((s.bump (F.CB_JOB_CNT1_STALE n j)).lost (cbPage n) (36 + n)).evt (cbPage n) 5
  else if !f.macOk then s.authFail n j
  else if (s.can n).recent.any (fun r => r.1 == j && r.2.1 == fr && r.2.2 == f.data) then s.bump (F.CB_JOB_CNT1_DUP n j)
  else
    let keep := (s.can n).recent.filter (fun r => !(r.1 == j) || decide ((c + 2 ^ 24 - r.2.1) % 2 ^ 24 ≤ 2) ||
      (r.2.1 + 2 ^ 24 - c) % 2 ^ 24 == 1)
    let ks := (s.can n).keys.map (fun k => if k.job == j then { k with announcing := false } else k)
    let s1 := s.setCan n { s.can n with recent := (j, fr, f.data) :: keep, keys := ks }
    let s2 := ((s1.bump (F.CB_JOB_CNT0_ACCEPTED n j)).p (F.CB_JOB_STAT_LAST_FRESH n j) fr).p (F.CB_JOB_STAT_AGE n j) 0
    let s3 := if s2.b (F.CB_JOB_CFG_HB_PERIOD n j) && !s2.b (F.CB_JOB_STAT_UP n j) then s2.jobUp n j true else s2
    s3.deliver n j f

/-- A whole frame is routed: to a job, to TSY or GRP by the reserved identifiers of CB1, or to the filters (R426, R427, R463,
R480). The 641 takes no reference from CB0 (R464). -/
def State.routeFrame (s : State) (n : Nat) (f : BusFrame) : State :=
  let ref := s.g F.TSY_CFG_REFID
  let grp := s.g F.GRP_CFG_IDBASE
  let inRange := fun (lo k : Nat) => !f.ide && decide (lo ≤ f.id) && decide (f.id < lo + k)
  if f.remote then s
  else
    match s.jobOf n f with
    | some j => s.secured n j f
    | none =>
      if n = 1 && inRange ref 8 then
        s.refTaken (f.fdf && f.data.length = 16) f.macOk (slice f.data 0 8) (leAt f.data 8 3) f.offset
      else if n = 1 && s.b F.GRP_CFG_EN && inRange grp 24 then
        let st := (f.id - grp) % 8
        s.groupChecked (f.macOk && f.fdf && f.data.length = 64) (leAt f.data 56 3) (fun x =>
          match (f.id - grp) / 8 with
          | 0 => x.takeDigest st (slice f.data 0 56)
          | 1 => x.takeBids st (slice f.data 0 56)
          | _ => x.takeAssigns st (slice f.data 0 56))
      else s.filtered n f

/-! ## Rate search (R439) -/

/-- The search has found its rates. -/
def State.rateFound (s : State) (n : Nat) (x : RateSearch) (data : Option Nat) : State :=
  let s1 := s.setWord (F.CB_NBT_NBRP_M1 n).key (nominalImage (s.g (F.CB_RSSTAT_NRATE n)))
  let s2 := match data with
    | some d => (s1.setWord (F.CB_DBT_DBRP_M1 n).key (dataImage d)).p (F.CB_RSSTAT_DRATE n) d
    | none => s1.p (F.CB_RSSTAT_DRATE n) 3
  ((s2.setCan n { s2.can n with search := some { x with found := true } }).p (F.CB_RSSTAT_FOUND n) 1).evt (cbPage n) 2

/-- A frame without error in the search: two in a row pass the candidate; the data stage follows where a frame carried BRS. -/
def State.searchFrame (s : State) (n : Nat) (f : BusFrame) : State :=
  match (s.can n).search with
  | none => s
  | some x =>
    if x.found then s
    else
      let brs := f.fdf && f.brs
      let put := fun (y : RateSearch) => s.setCan n { s.can n with search := some y }
      if !x.dataStage then
        let y := { x with good := x.good + 1, fdSeen := x.fdSeen || brs }
        if y.good < 2 then put y
        else if y.fdSeen then
          let l := s.dataOrder n
          (put { y with dataStage := true, candidates := l, good := 0, fdSeen := false }).p (F.CB_RSSTAT_DRATE n) (l.headD 0)
        else s.rateFound n y none
      else if brs then
        let y := { x with good := x.good + 1, fdSeen := true }
        if y.good < 2 then put y else s.rateFound n y (some (x.candidates.headD 0))
      else s

/-- An error in the search: the run of good frames starts again. -/
def State.searchError (s : State) (n : Nat) : State :=
  match (s.can n).search with
  | none => s
  | some x => if x.found then s else s.setCan n { s.can n with search := some { x with good := 0 } }

/-- DWELL ms of a candidate have passed. -/
def State.searchDwell (s : State) (n : Nat) : State :=
  match (s.can n).search with
  | none => s
  | some x =>
    if x.found then s
    else
      let put := fun (st : State) (y : RateSearch) => st.setCan n { st.can n with search := some y }
      if x.dataStage then
        if !x.fdSeen then s.rateFound n x none
        else
          match x.candidates.drop 1 with
          | [] => s.rateFound n x none
          | l => (put s { x with candidates := l, good := 0, fdSeen := false }).p (F.CB_RSSTAT_DRATE n) (l.headD 0)
      else
        match x.candidates.drop 1 with
        | [] =>
          let l := s.nominalOrder n
          ((put s { x with candidates := l, good := 0, fdSeen := false }).bump (F.CB_RSSTAT_CYCLES n)).p (F.CB_RSSTAT_NRATE n) (l.headD 0)
        | l => (put s { x with candidates := l, good := 0, fdSeen := false }).p (F.CB_RSSTAT_NRATE n) (l.headD 0)

/-! ## Reception and transmission -/

/-- The receive error counter after a frame without error, as ISO 11898-1 gives it: above 127 it falls to a value between 119 and
127, which stays free. -/
def State.recGood (s : State) (n : Nat) : State :=
  if s.b (F.CB_ERR_REC_P n) then
    let d := s.draw
    ((d.2.p (F.CB_ERR_REC n) (119 + d.1.toNat % 9)).p (F.CB_ERR_REC_P n) 0).passiveCheck n
  else s.p (F.CB_ERR_REC n) (s.g (F.CB_ERR_REC n) - 1)

/-- What a controller does with what its mode lets it receive (R424, R425). -/
def State.receive (s : State) (n : Nat) (r : Received) : State :=
  match r with
  | .frame f =>
    let s1 := s.recGood n
    if s1.g (F.CB_STAT_MODE n) = 2 then
      let s2 := s1.searchFrame n f
      if (match (s2.can n).search with | some x => x.found || !x.dataStage | none => true) then s2.routeFrame n f else s2
    else s1.routeFrame n f
  | .error lec ph step =>
    let rec0 := s.g (F.CB_ERR_REC n) + step
    let s1 := ((s.p (F.CB_ERR_LEC n) lec).pb (F.CB_ERR_DPHASE n) ph).p (F.CB_ERR_REC n) (min 255 rec0)
    ((s1.pb (F.CB_ERR_REC_P n) (decide (127 < rec0))).passiveCheck n).searchError n

/-- The frame that an attempt puts on the bus, as its own controller receives it in a loop-back mode (R425). -/
def loopFrame (f : TxFrame) : BusFrame :=
  { id := f.id, ide := f.ide, fdf := f.fdf, brs := f.brs, esi := false, remote := false, dlc := f.dlc, data := f.data
    macOk := false, offset := 0 }

/-- An attempt has ended: what waited for its end comes in (R440, R448), and the controller's mode (R424). -/
def State.attemptOver (s : State) (n : Nat) (p : TxPlace) : State :=
  (match p with | .buf b => s.laterIn n b | _ => s).canSync n

/-- One offer at arbitration (R431 to R436). A frame that loses it is offered again under R431, and nothing is counted (R432). A success or failure with no frame in transmission starts one first. -/
def State.attempt (s : State) (n : Nat) (a : Attempt) : State :=
  match a with
  | .start => s.txStart n
  | .lost =>
    match (s.can n).inTx with
    | none => s
    | some (p, f) => (s.putAt n p (some { f with tx := false })).attemptOver n p
  | .sent =>
    let s1 := s.txStart n
    match (s1.can n).inTx with
    | none => s1
    | some (p, f) =>
      let s2 := (s1.txSent n p f).passiveCheck n
      let loop := s1.g (F.CB_STAT_MODE n) = 3 || s1.g (F.CB_STAT_MODE n) = 4
      (if loop then s2.receive n (.frame (loopFrame f)) else s2).attemptOver n p
  | .failed lec ph hold =>
    let s1 := s.txStart n
    match (s1.can n).inTx with
    | none => s1
    | some (p, f) => (s1.txFailed n p f lec ph hold).attemptOver n p

/-! ## Heartbeats -/

/-- The current payload of a job (R356, R393, R448). -/
def State.jobPayload (s : State) (n j : Nat) : Option (List Byte) :=
  if n = 0 && (j = 1 || j = 2) then some (s.doorPayload (j - 1))
  else ((s.can n).payloads.find? (fun p => p.1 == j)).map (·.2)

/-- The car is at the park landing inside the door zone (R367): the landing of the leg that parks it, or the one where it stands. -/
def State.atPark (s : State) : Bool :=
  s.b F.CAR_STAT_DZ && (match s.dse.target with
    | some t => s.g F.CAR_STAT_LANDING == t
    | none => !s.moving)

/-- The jobs of CB0 that command the drive and the door operators: while job keys are absent they carry park frames only (R108). -/
def State.parksOnly (s : State) (n j : Nat) : Bool := s.keysGone && n == 0 && decide (j ≤ 2)

/-- The park frame that an engine holds while job keys are absent (R108, R367, R452). -/
def State.parkHeld (s : State) (n j : Nat) : Option TxFrame :=
  if !s.parksOnly n j then none
  else if j = 0 then
    match s.nearestAhead with
    | some l => some (s.parkFrame 1 1 l s.goingUp)
    | none => none
  else if s.doorIs (j - 1) = 10 && s.atPark && (!s.b F.CAR_STAT_VALID || s.doorSide (j - 1) (s.g F.CAR_STAT_LANDING)) then
    some (s.parkFrame (1 + j) 2 (s.g F.CAR_STAT_LANDING) s.goingUp)
  else none

/-- A frame goes to a job's buffer in place of one that waits there, or to the queue. -/
def State.giveFrame (s : State) (n j : Nat) (f : TxFrame) : State :=
  match s.jobBuf n j with
  | some b => s.bufGive n b { f with job := j }
  | none => (s.toQueue n f).2

/-- A heartbeat falls due (R448, R452, R562). -/
def State.heartbeat (s : State) (n j : Nat) : State :=
  let period := s.g (F.CB_JOB_CFG_HB_PERIOD n j)
  if !(s.canLive && s.g (F.CB_STAT_MODE n) = 0 && s.b (F.CB_JOB_CFG_EN n j)) then s
  else
    match if s.parksOnly n j then none else s.jobKey n j with
    | some k =>
      let s0 := (if n = 0 && j = 0 then s.driveQuiet else s).p (F.CB_JOB_STAT_PARK n j) 0
      if k.announcing then
        (s0.submit n j .epoch ([0xe0] ++ leBytes 4 k.epoch ++ [0, 0, 0])).2
      else if period ≠ 0 && s.b (F.CB_JOB_CFG_TX_HB n j) then
        match s.jobPayload n j with
        | some pl => (s0.submit n j .heartbeat pl).2
        | none => s0
      else s0
    | none =>
      match s.parkHeld n j with
      | some f => if period ≠ 0 then (s.p (F.CB_JOB_STAT_PARK n j) 1).giveFrame n j { f with job := j } else s
      | none => s.p (F.CB_JOB_STAT_PARK n j) 0

/-- Keeper sends a payload on a generic job (R447). -/
def State.txJob (s : State) (n j : Nat) : State :=
  if j < jobCount n && s.b (F.CB_JOB_CFG_EN n j) && s.g (F.CB_JOB_CFG_KIND n j) = 0 then
    s.jobSend n j (leBytes 8 ((s.can n).stageData.headD 0).toNat)
  else s

/-- A read of CBn_RXPOP: the level before the pop is returned, and the head is popped (R428). -/
def State.rxPop (s : State) (n : Nat) : State :=
  let s1 := { s with readOut := BitVec.ofNat 64 (s.can n).fifo.length }
  (s1.setCan n { s1.can n with fifo := (s1.can n).fifo.drop 1 }).fifoShown n

/-- A Keeper write of NBT or DBT (R423): at the end of the frame in progress. -/
def State.writeTiming (s : State) (n : Nat) (data : Bool) (v : Word) : State :=
  let c := s.can n
  (s.setCan n (if data then { c with dbtNext := some v } else { c with nbtNext := some v })).canSync n

/-! ## The commands -/

/-- A transceiver's wake-up pattern; in reset CBn_WAKE is ignored (R177). -/
def effCbWakePattern (n : Nat) (s : State) : State := if s.wake.inReset then s else s.evt (cbPage n) 0

/-- An offer at arbitration. A frame that was in transmission when Watch was entered still completes, and the transceiver stays in standby
(R161). -/
def effCanTransmitAttempt (n : Nat) (a : Attempt) (s : State) : State :=
  if s.canLive then s.attempt n a
  else if s.wake.watch && !s.wake.inReset then (s.attempt n a).p (F.CB_STAT_STB n) 1
  else s

/-- 128 recessive sequences have been counted in a recovery (R437): both counters clear and the deferred request is due. -/
def effBusOffRecovery (n : Nat) (s : State) : State :=
  if s.canLive && (s.can n).recovering && s.g (F.CB_ERR_STATE n) = 2 then
    let s1 := ((((s.p (F.CB_ERR_TEC n) 0).p (F.CB_ERR_REC n) 0).p (F.CB_ERR_REC_P n) 0).p (F.CB_ERR_STATE n) 0).p
      (F.CB_ERR_RECOV n) 128
    ((s1.setCan n { s1.can n with recovering := false }).axisCall (5 + n) BusMode.normal.code 0x0f 7)
  else s

/-- HOLDOFF × 10 ms after an entry to Bus-off Keeper requests Normal (R438). -/
def effKeeperRecoveryRequest (n : Nat) (s : State) : State :=
  if s.canLive && s.b (F.CB_CFG_KRECOVER n) && s.bus n == .busOff then s.makeRequest (5 + n) 0 0 5 else s

def effRateSearchDwell (n : Nat) (s : State) : State := if s.canLive then (s.searchDwell n) else s
def effJobHeartbeat (n j : Nat) (s : State) : State := (s.heartbeat n j)

/-- No accepted frame has come within HB_MISS × HB_PERIOD ms (R448); a controller without its clock keeps its state (R160). -/
def effJobSupervisionTimeout (n j : Nat) (s : State) : State :=
  if s.canLive && s.b (F.CB_JOB_CFG_HB_PERIOD n j) && s.b (F.CB_JOB_STAT_UP n j) then
    (((s.bump (F.CB_JOB_CNT1_DOWNS n j)).lost (cbPage n) (38 + n)).jobUp n j false)
  else s

/-- An authenticated status frame of a door operator (R355). -/
def effDoorStatusFrame (n : Nat) (pl : List Byte) (s : State) : State := (s.doorStatus n pl)

end Sys2Proof.Machine
end

