-- ==== Sys2Proof/Machine/Frame.lean ====
section
/-!
DEFINITION. Sys2Proof/Machine/Frame.lean: the bits that cross the barrier: the 640-bit frames (R259, R260, R318, R326), the acknowledge words
(R261) and the watch frames (R268).
-/
namespace Sys2Proof.Machine
open Sys2Proof

/-! ## Layouts -/

/-- Fields by low bit, width and value; every bit that no field names is zero. -/
def layout (w : Nat) (l : List (Nat × Nat × Nat)) : BitVec w :=
  BitVec.ofNat w (l.foldl (fun a p => a + p.2.2 % 2 ^ p.2.1 * 2 ^ p.1) 0)

/-- The first `n` bytes of a frame, bit 0 first. -/
def frameBytes {w : Nat} (b : BitVec w) (n : Nat) : List Byte :=
  (List.range n).map (fun i => BitVec.ofNat 8 (b.toNat / 2 ^ (8 * i)))

/-- A frame with its CRC-32 over the bits below it. -/
def withCrc {w : Nat} (b : BitVec w) : BitVec w :=
  b ||| BitVec.ofNat w ((Config.crc32 (frameBytes b (w / 8 - 4))).toNat * 2 ^ (w - 32))

/-- A stage write (R318). -/
def stageBits (st : Stage) : Nat :=
  st.tag % 2 ^ 16 + st.pclass % 32 * 2 ^ 16 + b2n st.release * 2 ^ 21 + 2 ^ 22 + st.outMask % 2 ^ 16 * 2 ^ 24 + st.outValue % 2 ^ 16 * 2 ^ 40

/-- The gate command and what its index field and its data field hold (R318). -/
def gateBits (g : GateCmd) (k : Option Chunk) : List (Nat × Nat × Nat) :=
  match g with
  | .arm base => [(450, 3, 1), (456, 16, base)]
  | .disarm => [(450, 3, 2)]
  | .tripClear => [(450, 3, 3)]
  | .digestWord i w => [(450, 3, 4), (456, 16, i), (472, 128, w.toNat)]
  | .none => match k with
    | none => []
    | some k => [(453, 1, 1), (454, 1, b2n k.first), (455, 1, b2n k.last), (456, 16, k.index), (472, 128, leAt k.data 0 16)]

/-- The outbound frame (R259, R318). Channels that the sweep has found lasting have no place in it (log entry 22). -/
def OutFrame.bits (f : OutFrame) : BitVec 640 :=
  withCrc (layout 640 (
    [(0, 16, f.seq), (16, 1, b2n f.retry), (17, 1, b2n f.watch), (18, 1, b2n f.offAll), (32, 16, f.setValue), (48, 16, f.setMask),
     (64, 16, f.uninhibit), (80, 4, f.fcntReset), (96, 4, f.sweepChannel), (100, 2, f.sweepAction), (102, 1, b2n f.sweepAllOff)] ++
    (f.gather.take 8).zipIdx.map (fun p => (128 + 8 * p.2, 8, p.1)) ++
    (f.stages.take 4).zipIdx.map (fun p => (192 + 56 * p.2, 56, stageBits p.1)) ++
    (match f.squash with | some t => [(416, 16, t), (432, 1, 1)] | none => []) ++
    (match f.release with | some t => [(433, 16, t), (449, 1, 1)] | none => []) ++
    gateBits f.gate f.chunk))

/-- The inbound frame (R260, R326). -/
def InFrame.bits (f : InFrame) : BitVec 640 :=
  withCrc (layout 640 (
    [(0, 16, f.seq), (16, 1, b2n f.retry), (17, 1, b2n f.watching), (18, 1, b2n f.vfldOk), (19, 1, b2n f.fault), (20, 1, b2n f.tsd),
     (21, 1, b2n f.ilim), (22, 1, b2n f.dropped), (23, 1, b2n f.sweep), (24, 8, f.temp), (32, 32, f.inputs), (64, 32, f.edges),
     (96, 16, f.applied), (112, 16, f.inhibited), (128, 16, f.vfldMv), (144, 4, f.qerr), (148, 4, f.povf)] ++
    (f.counters.take 4).zipIdx.map (fun p => (160 + 32 * p.2, 32, p.1)) ++
    [(288, 8, f.waiting), (296, 8, f.committed), (304, 8, f.squashed), (312, 8, f.accepted), (320, 24, f.permit), (344, 16, f.lastTag),
     (360, 1, b2n f.armed), (361, 1, b2n f.refusing), (362, 1, b2n f.trip), (363, 2, f.tripCause), (365, 8, f.tripRule),
     (373, 1, b2n f.tableOk), (374, 1, b2n f.loadDone), (375, 1, b2n f.loadFail), (376, 4, f.lostInc), (380, 1, b2n f.armIncomplete)] ++
    (f.gather.take 8).zipIdx.map (fun p => (400 + 26 * p.2, 26, p.1.value % 2 ^ 24 + b2n p.1.valid * 2 ^ 24 + b2n p.1.fault * 2 ^ 25))))

/-- The two watch frames (R268). -/
def watchOutBits (seq : Nat) (retry : Bool) : BitVec 64 := withCrc (layout 64 [(0, 16, seq), (16, 1, b2n retry)])
def watchInBits (seq : Nat) (retry vfldOk : Bool) (states : Nat) : BitVec 96 :=
  withCrc (layout 96 [(0, 16, seq), (16, 1, b2n retry), (17, 1, b2n vfldOk), (32, 32, states)])

/-! ## Acknowledge words -/

/-- The acknowledge word (R261): OK, SEQ[6:0], and the complement of both. -/
def ackWord (ok : Bool) (seq : Nat) : BitVec 16 :=
  let low := BitVec.ofNat 8 (b2n ok + 2 * (seq % 128))
  (~~~low) ++ low

/-- The word that arrives says OK for a frame: its halves match, OK is 1, and SEQ names that frame; one that does not arrive says OK = 0. -/
def ackHeard (word : Option (BitVec 16)) (seq : Nat) : Bool :=
  match word with
  | none => false
  | some w => w.extractLsb' 8 8 == ~~~(w.extractLsb' 0 8) && w.getLsbD 0 && (w.extractLsb' 1 7).toNat == seq % 128

/-- An acknowledge word crosses a lane that flips bits of it, or drops it. -/
def ackCross (flips : Option (BitVec 16)) (ok : Bool) (sent expected : Nat) : Bool :=
  ackHeard (flips.map (fun e => ackWord ok sent ^^^ e)) expected

end Sys2Proof.Machine
end

