-- ==== Sys2Proof/Machine/Channel.lean ====
section
/-!
DEFINITION. Sys2Proof/Machine/Channel.lean: the channels that commands come from and messages go to (R635 to R640), the end of
the HBX and SPDM sessions (R628, R643) and of management sessions (R650, R652).
-/
namespace Sys2Proof.Machine
open Sys2Proof

/-- The host channel, and the management channel of a session (R635). -/
def hostChannel : Nat := 1
def mgtChannel (n : Nat) : Nat := 0x10 + n
def isMgt (ch : Nat) : Bool := decide (0x10 ≤ ch ∧ ch < 0x14)

/-- The sessions with one replaced; there is none beyond the fourth. -/
def MgtSessions.put (l : MgtSessions) (n : Nat) (m : MgtSession) : MgtSessions :=
  match n with
  | 0 => { l with s0 := m }
  | 1 => { l with s1 := m }
  | 2 => { l with s2 := m }
  | 3 => { l with s3 := m }
  | _ => l

/-- A management session's state beside its page register, and the state with it replaced. -/
def State.mgtOf (s : State) (n : Nat) : MgtSession :=
  match n with
  | 0 => s.mgt.s0
  | 1 => s.mgt.s1
  | 2 => s.mgt.s2
  | 3 => s.mgt.s3
  | _ => MgtSession.fresh
def State.setMgt (s : State) (n : Nat) (m : MgtSession) : State := { s with mgt := s.mgt.put n m }

/-- A session is up. -/
def State.sessionUp (s : State) (n : Nat) : Bool := s.g (F.MGT_SESS_STATE n) == 2

/-- Keeper serves commands: it is up, and in Halt or lockup its work waits (R517, R670). -/
def State.keeperServes (s : State) : Bool :=
  s.canLive && s.b F.SYS_STAT_KEEPER_UP && s.power != .halt && !s.b F.KPX_STAT_LOCKUP

/-- A channel takes messages. -/
def State.channelUp (s : State) (ch : Nat) : Bool :=
  if ch = hostChannel then s.host.hbxKeys.isSome && s.g F.HBX_STATE_STATE == 2
  else if isMgt ch then s.sessionUp (ch - 0x10)
  else false

/-- Adds one to HBX_TROUBLE.LOST with its event (R653). -/
def State.hbxLost (s : State) (cls : Nat) : State := (s.lost 0x28 cls).evt 0x28 3

/-- A response for a channel that has ended is discarded and counted (R640). -/
def State.discardResponse (s : State) (ch : Nat) : State :=
  if isMgt ch then s.lost 0x2a 63 else (s.bump F.HBX_CNT_DISCARDED).hbxLost 63

/-- A response to a command (R635, R638): on the host channel it waits for a D2H buffer, on a management channel the session
keeps it with its TAG (R650). -/
def State.respond (s : State) (ch tag cmd status detail : Nat) (body : List Byte) : State :=
  let m : Message := { channel := ch, cmd := 0x8000 + cmd, status := status, detail := detail, tag := tag, body := body }
  if !s.channelUp ch then s.discardResponse ch
  else if isMgt ch then s.setMgt (ch - 0x10) { s.mgtOf (ch - 0x10) with last := some m }
  else { s with host := { s.host with outbox := s.host.outbox ++ [m] } }

/-- An image of a register as eight bytes. -/
def wordBytes (w : Word) : List Byte := leBytes 8 w.toNat

/-- The TEN_STAT image with its copy of the tenancy (R614). -/
def State.tenStat (s : State) : Word := setBits (s.word F.TEN_STAT_TENANCY.key) 0 2 (s.g F.MOD_CUR_TENANCY)

/-- The 40-byte block of a STATUS message (R637). -/
def State.statusBlock (s : State) : List Byte :=
  wordBytes (s.word F.MOD_CUR_POWER.key) ++ wordBytes (s.word F.MOD_SEQ_SEQ.key) ++ wordBytes (s.word F.SYS_STAT_FENCE_UP.key) ++
  leBytes 4 (s.g F.ATT_STAT_MSEQ) ++ leBytes 4 0 ++ wordBytes s.tenStat

/-- A message that Keeper or HBX sends unasked (R637), with TAG 0. -/
def State.unasked (s : State) (ch cmd : Nat) (body : List Byte) : State :=
  let m : Message := { channel := ch, cmd := cmd, status := 0, detail := 0, tag := 0, body := body }
  if !s.channelUp ch then s
  else if isMgt ch then s.setMgt (ch - 0x10) { s.mgtOf (ch - 0x10) with unasked := some m }
  else
    let kept := if cmd = 0xc001 then s.host.outbox.filter (fun x => x.cmd != 0xc001) else s.host.outbox
    { s with host := { s.host with outbox := kept ++ [m] } }

/-- An unasked STATUS message to one channel, and to every channel (R637). -/
def State.statusTo (s : State) (ch : Nat) : State := s.unasked ch 0xc001 s.statusBlock
def State.statusAll (s : State) : State :=
  (hostChannel :: (List.range 4).map mgtChannel).foldl State.statusTo s

/-- HBX changes its STATE (R653). -/
def State.hbxState (s : State) (st : Nat) : State :=
  if s.g F.HBX_STATE_STATE = st then s else (s.p F.HBX_STATE_STATE st).evt 0x28 2

/-- HBX stops: keys and ring registers are cleared, messages that wait are gone (R628, R643). -/
def State.hbxEnd (s : State) : State :=
  let s1 := [F.HBX_H2D_TAIL_INDEX, F.HBX_H2D_HEAD_INDEX, F.HBX_D2H_TAIL_INDEX, F.HBX_D2H_HEAD_INDEX, F.HBX_H2D_BASE_ADDR,
    F.HBX_D2H_BASE_ADDR, F.HBX_RINGCFG_H2D_LOG2].foldl (fun (x : State) f => x.setWord f.key 0) s
  { s1 with host := { s1.host with hbxKeys := none, setUp := false, expect := 0, next := 0, outbox := [] } }.hbxState 0

/-- The SPDM session ends, and Confidential Host with it (R620, R624, R628). -/
def State.spdmEnd (s : State) : State :=
  let s1 := s.hbxEnd
  if s1.g F.PCI_SPDM_SESSION = 0 then s1 else (s1.setWord F.PCI_SPDM_SESSION.key 0).evt 0x29 4

/-- The link goes down: HBX and the SPDM session end (R643, R644). -/
def State.pcieDown (s : State) : State :=
  if !s.b F.PCI_LINK_UP then s else ((((s.p F.PCI_LINK_UP 0).p F.PCI_LINK_SPEED 0).evt 0x29 0).spdmEnd)

/-- A management session ends; its staging area is written with zeros (R650, R652). -/
def State.sessionEnd (s : State) (n : Nat) : State :=
  if s.g (F.MGT_SESS_STATE n) = 0 then s
  else
    let up := s.sessionUp n
    let s1 := (s.setWord (F.MGT_SESS_STATE n).key 0).setMgt n { (s.mgtOf n) with staging := [], last := none, unasked := none }
    (if up then s1.p F.MGT_STAT_SESSIONS (s1.g F.MGT_STAT_SESSIONS - 1) else s1).evt 0x2a 1

/-- Every management session ends. -/
def State.sessionsEnd (s : State) : State := (List.range 4).foldl State.sessionEnd s

/-- Every staging area is written with zeros (R583 step 3, R652). -/
def State.stagingClear (s : State) : State :=
  (List.range 4).foldl (fun (x : State) n => x.setMgt n { x.mgtOf n with staging := [] }) s

end Sys2Proof.Machine
end

