-- ==== Sys2Proof/Machine/Keys.lean ====
section
/-!
DEFINITION. Sys2Proof/Machine/Keys.lean: roots and derivations (R540 to R542), key slots and their integrity checks (R546 to
R553), counters (R559, R560), delivery and clearing of job keys (R23, R561), and zeroization (R570, R571).
-/
namespace Sys2Proof.Machine
open Sys2Proof

/-! ## Counters -/

def State.ctr (s : State) (i : Nat) : Nat := s.g (F.CTR_VAL_VALUE i)

/-- A counter takes a value (R559). -/
def State.ctrSet (s : State) (i v : Nat) : State :=
  let s1 := s.p (F.CTR_VAL_VALUE i) v
  if v = 0xffffffff && s.ctr i ≠ 0xffffffff then s1.evt 0x32 1 else s1

/-- Keeper adds one to a counter, which sticks at all ones; Keeper raises a counter. -/
def State.ctrStep (s : State) (i : Nat) : State := s.ctrSet i (min 0xffffffff (s.ctr i + 1))
def State.ctrRaise (s : State) (i v : Nat) : State := if s.ctr i < v then s.ctrSet i v else s

/-! ## Measurement sequence -/

/-- ATT_STAT.MSEQ rises (R601). -/
def State.mseq (s : State) : State := s.wrapInc F.ATT_STAT_MSEQ

/-! ## Derivations (R542) -/

def ascii (l : List Nat) : List Byte := l.map (BitVec.ofNat 8)
/-- "QID-ECC", "QID-INT", "QOP-IMP", "QOP-TEN", "QOP-KEK", "QEMC", "QJOB", "QANN", "QTIME", "QGRP", "QKIM", "QPKR". -/
def labelEcc : List Byte := ascii [0x51, 0x49, 0x44, 0x2d, 0x45, 0x43, 0x43]
def labelInt : List Byte := ascii [0x51, 0x49, 0x44, 0x2d, 0x49, 0x4e, 0x54]
def labelImp : List Byte := ascii [0x51, 0x4f, 0x50, 0x2d, 0x49, 0x4d, 0x50]
def labelTen : List Byte := ascii [0x51, 0x4f, 0x50, 0x2d, 0x54, 0x45, 0x4e]
def labelKek : List Byte := ascii [0x51, 0x4f, 0x50, 0x2d, 0x4b, 0x45, 0x4b]
def labelEmc : List Byte := ascii [0x51, 0x45, 0x4d, 0x43]
def labelJob : List Byte := ascii [0x51, 0x4a, 0x4f, 0x42]
def labelAnn : List Byte := ascii [0x51, 0x41, 0x4e, 0x4e]
def labelTime : List Byte := ascii [0x51, 0x54, 0x49, 0x4d, 0x45]
def labelGrp : List Byte := ascii [0x51, 0x47, 0x52, 0x50]
def labelKim : List Byte := ascii [0x51, 0x4b, 0x49, 0x4d]
def labelPkr : List Byte := ascii [0x51, 0x50, 0x4b, 0x52]

/-- HKDF with SHA-384: `n` bytes of output (R542). -/
def hkdf (ikm salt info : List Byte) (n : Nat) : List Byte := (List.range n).map (Config.hkdfByte ikm salt info)

def deviceRoot : List Byte := (List.range 32).map Config.deviceRootByte

/-- The Operational Root's bytes; none while it is absent. -/
def State.opRootBytes (s : State) : List Byte :=
  match s.bat.opRoot with
  | some k => (List.range 32).map (Config.drbgByte k)
  | none => []

/-- The order of P-384, by which a derived private key is reduced (R542). -/
def curveOrder : Nat :=
  0xffffffffffffffffffffffffffffffffffffffffffffffffc7634d81f4372ddf581a0db248b0a77aecec196accc52973

/-- A private key from 64 bytes of derived material: (OKM mod (n − 1)) + 1, as 48 bytes big-endian (R542). -/
def privateKey (okm : List Byte) : List Byte := (leBytes 48 (ofLe okm.reverse % (curveOrder - 1) + 1)).reverse

def identityKey : List Byte := privateKey (hkdf deviceRoot [] labelEcc 64)
def identityPublic : List Byte := (List.range 97).map (Config.ecPublicByte identityKey)
def State.importKey (s : State) : List Byte := privateKey (hkdf s.opRootBytes [] labelImp 64)

/-- A random draw of `n` bytes: the free counter names it. -/
def State.drbg (s : State) (n : Nat) : List Byte × State :=
  ((List.range n).map (Config.drbgByte s.freeCount), { s with freeCount := s.freeCount + 1 })

/-! ## Slots -/

/-- The class of a slot (R546). -/
def slotClass (n : Nat) : Nat :=
  if n < 8 then 0 else if n < 16 then 1 else if n < 40 then 2 else if n < 64 then 3
  else if n < 80 then 0 else if n < 96 then 1 else if n < 176 then 2 else 3

/-- A slot is valid and not bad. -/
def State.slotValid (s : State) (n : Nat) : Bool := s.b (F.KEY_POL_VALID n) && !s.b (F.KEY_POL_BAD n)

/-- The content of a slot. -/
def State.slotOf (s : State) (n : Nat) : KeySlot := ((s.key.slots.find? (fun p => p.1 == n)).map (·.2)).getD ⟨[], []⟩
def State.setSlot (s : State) (n : Nat) (k : KeySlot) : State :=
  { s with key := { s.key with slots := (n, k) :: s.key.slots.filter (fun p => p.1 != n) } }

/-- Every handle open on a slot closes. -/
def State.closeSlot (s : State) (n : Nat) : State :=
  { s with key := { s.key with handles := s.key.handles.filter (fun h => h.key != .slot n) } }

/-- Empties a slot; its class and its bad mark stay (R546, R552). -/
def State.slotDelete (s : State) (n : Nat) : State :=
  let s1 := (((s.p (F.KEY_POL_VALID n) 0).p (F.KEY_POL_APPLET n) 0).p (F.KEY_POL_TYPE n) 0).p (F.KEY_POL_USES n) 0
  { s1 with key := { s1.key with slots := s1.key.slots.filter (fun p => p.1 != n) } }.closeSlot n

/-- Fills a slot with a policy and a content. -/
def State.slotFill (s : State) (n typ uses : Nat) (applet : Bool) (content : List Byte) : State :=
  let s1 := ((((s.p (F.KEY_POL_VALID n) 1).pb (F.KEY_POL_APPLET n) applet).p (F.KEY_POL_TYPE n) typ).p (F.KEY_POL_USES n) uses)
  (s1.setSlot n ⟨content, []⟩).closeSlot n

/-- A slot is marked bad (R552). -/
def State.slotBad (s : State) (n : Nat) : State :=
  ((s.p (F.KEY_POL_BAD n) 1).p ⟨(F.KEY_BAD_BAD (n / 64)).key, n % 64, 1⟩ 1).evt 0x31 0

/-- The integrity check of a slot (R551, R552): whether it passes. -/
def State.slotCheck (s : State) (n : Nat) : Bool × State :=
  let k := s.slotOf n
  let s0 := s.bump (F.KEY_INFO_CHECKS n)
  match k.failing with
  | true :: true :: rest =>
    (false, (((s0.setSlot n { k with failing := rest }).lasting 0x31 (if n < 64 then 7 else 9)).slotBad n))
  | true :: rest =>
    (true, ((s0.setSlot n { k with failing := rest.drop 1 }).transient 0x31 (if n < 64 then 6 else 8)).bump (F.KEY_INFO_TRANSIENTS n))
  | _ :: rest => (true, s0.setSlot n { k with failing := rest })
  | [] => (true, s0)

/-- Keeper loads a slot for its own use: its content if it is valid and its check passes (R551). -/
def State.slotUse (s : State) (n : Nat) : Option (List Byte) × State :=
  if s.slotValid n then
    let r := s.slotCheck n
    if r.1 then (some (s.slotOf n).bytes, r.2) else (none, r.2)
  else (none, s)

/-! ## Clearing and zeroization -/

/-- Keeper answers the commands that wait for a package load (R640). -/
def State.answerPkg (s : State) (status detail : Nat) : State :=
  let w := s.host.waiting
  let s1 := { s with host := { s.host with waiting := w.filter (fun x => match x with | .package _ _ => false | _ => true) } }
  w.foldl (fun (x : State) y => match y with | .package ch tag => x.respond ch tag 0x34 status detail [] | _ => x) s1

/-- A package load that runs fails (R411); the PKG key register is cleared at the end of every load (R408). -/
def State.pkgFail (s : State) (cause : Nat) : State :=
  let s0 := s.setDse { s.dse with pkgKey := none }
  if s0.b F.PKG_STAT_LOADING then
    (((((s0.p F.PKG_STAT_LOADING 0).p F.PKG_STAT_CAUSE cause).evt 0x1c 1).lost 0x1c 63).answerPkg 3 cause)
  else s0

/-- Every delivered job key is cleared (R23): secured frames fail, door engines park (R367), HBX loses its keys (R628). -/
def State.clearKeys (s : State) : State :=
  let had := !s.mod.keysAbsent
  let s1 := (s.clearJobKeys 0).clearJobKeys 1
  let s2 : State := { s1 with mod := { s1.mod with keysAbsent := true, parked := if had then false else s1.mod.parked } }
  (((s2.hbxEnd).doorsPark).pkgFail 7).evt 0x31 3

/-- Ephemeral registers are cleared; handles on them stay open and find nothing. -/
def State.ephClear (s : State) : State := { s with key := { s.key with eph := List.replicate 32 none } }

/-- EMC stops or serves (R596): STOPPED follows its conditions. -/
def State.emcStops (s : State) : Bool :=
  !s.b F.PWR_STAT_VDDQ_OK || !s.b F.EMC_STAT_TRAINED || s.bat.zeroized || s.emc.key.isNone || s.b F.EMC_SCRUB_RUNNING
def State.emcShown (s : State) : State :=
  let st := s.emcStops
  let s1 := (s.pb F.EMC_STAT_KEYED s.emc.key.isSome).pb F.EMC_STAT_STOPPED st
  if st && !s.b F.EMC_STAT_STOPPED then s1.evt 0x2b 3 else s1

/-- The EMC key is cleared, and a scrub stops (R598, R615). -/
def State.emcKeyClear (s : State) : State :=
  ((({ s with emc := { s.emc with key := none } }.p F.EMC_SCRUB_RUNNING 0).p F.EMC_STAT_SCRUBBING 0)).emcShown

/-- A measurement entry is cleared (R600, R601). -/
def State.measClear (s : State) (m : Nat) : State :=
  if s.b (F.ATT_INFO_PRESENT m) then
    ([F.ATT_DIG0_DIGEST, F.ATT_DIG1_DIGEST, F.ATT_DIG2_DIGEST, F.ATT_DIG3_DIGEST, F.ATT_DIG4_DIGEST, F.ATT_DIG5_DIGEST,
      F.ATT_INFO_VERSION].foldl (fun (x : State) f => x.setWord (f m).key 0) s).mseq
  else s

/-- The package's valid bits are cleared (R412, R571): the banks read as zero (R586), DSE runs with no package. -/
def State.pkgInvalid (s : State) : State :=
  let s1 := (s.p F.PKG_STAT_VALID 0).p F.PKG_STAT_SWITCH_PENDING 0
  ((s1.setDse { s1.dse with valid0 := false, valid1 := false }).p F.DSE_STAT_NOPKG 1).measClear 4

/-- Step 2 of R570: BBRAM is overwritten; the root, the BBRAM slots, the mask and the last-resort byte are gone (R214). -/
def State.bbramErase (s : State) : State :=
  let s1 := (List.range 64).foldl State.slotDelete s
  { s1 with bat := { s1.bat with opRoot := none, lastResort := 0, maskNo := 0, rootFailing := [] } }.setWord F.KEY_ROOT_PRESENT.key 0

/-- Steps 3 and 4 of R570, and what R571 adds: the Karpex die and the logic die clear every dependent key. -/
def State.zeroizeDies (s : State) : State :=
  let s1 := { s with key := { s.key with handles := [] } }.ephClear
  let s2 := s1.clearKeys
  ((s2.emcKeyClear).pkgInvalid).sessionsEnd

/-- Step 6 of R570: every non-public NVM slot is deleted. -/
def State.nvmSlotsErase (s : State) : State :=
  (List.range 192).foldl (fun (x : State) i =>
    let n := 64 + i
    if x.b (F.KEY_POL_VALID n) && x.g (F.KEY_POL_TYPE n) ≠ 2 then x.slotDelete n else x) s

/-- A zeroization runs (R570). In Battery Hold only the battery domain acts; in Watch Keeper deletes its slots after the wake. -/
def State.zeroizeNow (s : State) (hold : Bool) : State :=
  let s1 : State := { s.bbramErase with bat := { s.bbramErase.bat with zeroized := true } }
  if hold then s1 else if s.wake.watch then s1.zeroizeDies else (s1.zeroizeDies).nvmSlotsErase

/-- The Operational Root's own check (R553): whether it passes; a lasting failure erases BBRAM as a Zeroize does. -/
def State.rootCheck (s : State) : Bool × State :=
  if s.bat.opRoot.isNone then (false, s)
  else
    let drop := fun (k : Nat) => ({ s with bat := { s.bat with rootFailing := s.bat.rootFailing.drop k } } : State)
    match s.bat.rootFailing with
    | true :: true :: _ => (false, ((drop 2).lasting 0x31 7).zeroizeNow false)
    | true :: _ => (true, (drop 2).transient 0x31 6)
    | _ => (true, drop 1)

/-! ## Delivery (R561) -/

/-- The stored configuration of a tenant (R577). -/
def State.tenantConfig (s : State) (t : Nat) : Option (List Byte) := if t = 1 then s.nvm.config1 else s.nvm.config0

/-- The tenant whose assets count: TARGET of a Molt that is completing, else the current one. -/
def State.tenantNo (s : State) : Nat := if s.tenancy == .contractor then 1 else 0

/-- The entry number of a job in a configuration: CB0's 16, then CB1's 64 (R577). -/
def cfgIndex (n j : Nat) : Nat := if n = 0 then j else 16 + j
def cfgMaster (c : List Byte) (n j : Nat) : Nat := leAt c (0x100 + 24 * cfgIndex n j + 16) 1

/-- The tenant's fixed slots: authority, applet signing, debug consent, time master, group master, package receive (R549). -/
def slotAuthority (t : Nat) : Nat := if t = 1 then 181 else 102
def slotApplet (t : Nat) : Nat := if t = 1 then 176 else 97
def slotConsent (t : Nat) : Nat := if t = 1 then 177 else 98
def slotTime (t : Nat) : Nat := if t = 1 then 178 else 99
def slotGroup (t : Nat) : Nat := if t = 1 then 179 else 100
def slotPackage (t : Nat) : Nat := if t = 1 then 180 else 101

/-- A job takes a key (R442, R561): with an epoch it goes on to announce it (R562). -/
def State.keyJob (s : State) (n j : Nat) (k : JobKey) : State :=
  let s1 := s.setCan n { s.can n with keys := k :: (s.can n).keys.filter (fun x => x.job != j) }
  s1.p (F.CB_JOB_STAT_KEYED n j) 1

/-- The job and announcement keys of a partner master at an epoch (R542). -/
def jobKeyOf (master : List Byte) (n j epoch : Nat) : JobKey :=
  { job := j, key := hkdf master (leBytes 4 epoch) (labelJob ++ leBytes 2 (256 * n + j)) 32
    announce := hkdf master [] (labelAnn ++ leBytes 2 (256 * n + j)) 32, announcing := true, epoch := epoch }

/-- The enabled jobs of both controllers. -/
def State.enabledJobs (s : State) : List (Nat × Nat) :=
  ((List.range 16).map (fun j => (0, j)) ++ (List.range 64).map (fun j => (1, j))).filter (fun p => s.b (F.CB_JOB_CFG_EN p.1 p.2))

/-- The master slot that the applied configuration names for a job. -/
def State.masterOf (s : State) (n j : Nat) : Nat := match s.ten.applied with | some c => cfgMaster c n j | none => 0xff

/-- Some enabled job that names a master holds no key. -/
def State.someUnkeyed (s : State) : Bool := s.enabledJobs.any (fun p => s.masterOf p.1 p.2 != 0xff && !s.jobKeyed p.1 p.2)

/-- The time and group keys of a tenant (R542, R561). -/
def State.deliverTime (s : State) (t : Nat) : State :=
  let r := s.slotUse (slotTime t)
  let tk := fun (b : Nat) => r.1.map (fun m => hkdf m [] (labelTime ++ leBytes 1 b) 32)
  let q := r.2.slotUse (slotGroup t)
  let gk := q.1.map (fun m => hkdf m [] labelGrp 32)
  { q.2 with cb0 := { q.2.cb0 with timeKey := tk 0 }, cb1 := { q.2.cb1 with timeKey := tk 1, groupKey := gk } }

/-- A delivery round (R561). The root is checked before the wrapped slots' keys are derived from it (R548, R553): without a root only
BBRAM slots can be used, and a lasting failure ends the round. TSY is written from the time floor before the time keys are delivered
(R459). -/
def State.deliverAll (s : State) (t : Nat) : State :=
  let q := s.rootCheck
  if !q.1 && s.bat.opRoot.isSome then q.2
  else
  let s1 := q.2.ctrStep 7
  let e := s1.ctr 7
  let s2 := s1.enabledJobs.foldl (fun (x : State) p =>
    let m := x.masterOf p.1 p.2
    if m = 0xff || (64 ≤ m && !q.1) then x
    else
      let r := x.slotUse m
      match r.1 with
      | some k => r.2.keyJob p.1 p.2 (jobKeyOf k p.1 p.2 e)
      | none => r.2) s1
  let fl := s2.ctr (if t = 1 then 2 else 1)
  let s3 := if above32 fl (s2.g F.TSY_COUNT_COUNT) then s2.p F.TSY_COUNT_COUNT fl else s2
  let s4 := if q.1 then s3.deliverTime t else s3
  let gone := s4.someUnkeyed
  let s5 : State := { s4 with mod := { s4.mod with keysAbsent := gone } }
  (if gone then s5 else s5.doorsUnpark).evt 0x31 2

end Sys2Proof.Machine
end

