-- ==== Sys2Proof/Machine/Table.lean ====
section
/-!
DEFINITION. Sys2Proof/Machine/Table.lean: interlock tables on the Keeper's side: the checks of an image, storing, loading,
aborting a load, arming the gate (R310 to R313, R330 to R332).
-/
namespace Sys2Proof.Machine
open Sys2Proof

/-- Whether a term of a rule is in range under R303. -/
def termInRange (t : Nat) : Bool :=
  let ix := fld t 4 8
  fld t 12 3 < 6 &&
  (match fld t 0 3 with
   | 0 => true
   | 1 => ix < 32
   | 2 => ix < 49
   | 3 => ix < 4
   | 4 => ix < 26
   | _ => false)

/-- The checks of R310 on an image: the first cause that fails, or none. -/
def State.tableCause (s : State) (img : List Byte) (ck : TableCheck) : Option Nat :=
  if s.tenancy != .owner then some 0x0a
  else if img.length ≠ 10336 || leAt img 0 4 ≠ 0x45544951 || leAt img 4 2 ≠ 1 || 256 < fld (leAt img 8 8) 32 9 || !ck.crcOk then
    some 0x01
  else if bodySerial img ≠ 0 && BitVec.ofNat 64 (bodySerial img) != s.fuse.serial then some 0x02
  else if !s.slotValid 96 || !ck.signatureOk then some 0x03
  else if bodyVersion img < s.ctr 0 then some 0x04
  else if (List.range (bodyNrule img)).any (fun r => (List.range 8).any (fun j => !termInRange (ruleWord img r (j + 1)))) then
    some 0x05
  else none

/-- A load has ended: STATE, CAUSE; LOADING reads 0. -/
def State.loadOver (s : State) (st cause : Nat) : State :=
  ((s.p F.ITE_LOADSTAT_STATE st).p F.ITE_LOADSTAT_CAUSE cause).p F.ITE_STAT_LOADING 0

/-- A load ends with ITE_EVT.LOAD_DONE. -/
def State.loadEnd (s : State) (st cause : Nat) : State := (s.loadOver st cause).evt 0x14 2

/-- Keeper answers the commands that wait for a load (R640). -/
def State.answerTable (s : State) (status detail : Nat) : State :=
  let w := s.host.waiting
  let s1 := { s with host := { s.host with waiting := w.filter (fun x => match x with | .table _ _ => false | _ => true) } }
  w.foldl (fun (x : State) y => match y with | .table ch tag => x.respond ch tag 0x32 status detail [] | _ => x) s1

/-- The digest record as one number. -/
def State.digestRecord (s : State) : BitVec 384 :=
  BitVec.ofNat 384 ((List.range 6).foldl (fun a i => a + s.g (F.CMG_DIGEST_DIGEST i) * 2 ^ (64 * i)) 0)
def State.setDigestRecord (s : State) (d : BitVec 384) : State :=
  (List.range 6).foldl (fun (x : State) i => x.p (F.CMG_DIGEST_DIGEST i) (d.toNat / 2 ^ (64 * i))) s

/-- The six words of a measurement entry take a digest, with a version (R599, R601). -/
def State.measure (s : State) (m : Nat) (d : BitVec 384) (version : Nat) : State :=
  let put := fun (x : State) (f : Nat → Fld) (i : Nat) => x.p (f m) (d.toNat / 2 ^ (64 * i))
  let s1 := put (put (put (put (put (put s F.ATT_DIG0_DIGEST 0) F.ATT_DIG1_DIGEST 1) F.ATT_DIG2_DIGEST 2) F.ATT_DIG3_DIGEST 3)
    F.ATT_DIG4_DIGEST 4) F.ATT_DIG5_DIGEST 5
  ((s1.p (F.ATT_INFO_VERSION m) version).p (F.ATT_INFO_PRESENT m) 1).mseq

/-- CMG sequence 1 (R330): the next four frames carry the digest words and the arm command. In life-cycle Blank and Returned CMG refuses
every commit, so no arm is sent (R52). -/
def State.armGate (s : State) (base : Nat) : State :=
  if s.fuse.life.dead then s.p F.CMG_ARM_BASE base
  else
  let w := fun (i : Nat) => (BitVec.ofNat 128 (s.digestRecord.toNat / 2 ^ (128 * i)))
  let s1 := s.p F.CMG_ARM_BASE base
  { s1 with bar := { s1.bar with
      gateQ := s1.bar.gateQ ++ [.digestWord 0 (w 0), .digestWord 1 (w 1), .digestWord 2 (w 2), .arm base] } }

/-- Keeper arms the gate with BASE one below the next tag (R332, R389). -/
def State.keeperArms (s : State) : State := s.armGate ((s.g F.DSE_TAG_NEXT + 0xffff) % 0x10000)

/-- The logic die commands a disarm (R312 step 3). -/
def State.commandDisarm (s : State) : State :=
  { s with bar := { s.bar with gateQ := s.bar.gateQ ++ [.disarm], disarming := true } }

/-- The checks and the store of R310 and R311: whether the image is stored, and the result. -/
def State.storeTable (s : State) (img : List Byte) (ck : TableCheck) : Bool × State :=
  let s1 := (s.p F.ITE_LOADSTAT_STATE 1).p F.ITE_LOADSTAT_CAUSE 0
  match s.tableCause img ck with
  | some c => (false, s1.loadEnd 6 c)
  | none =>
    if !ck.writeOk then (false, s1.loadEnd 6 0x06)
    else
      let s2 : State := { s1 with nvm := { s1.nvm with table := some img } }
      (true, s2.ctrRaise 0 (bodyVersion img))

/-- ITE sequence 2 (R311). -/
def State.iteStore (s : State) (img : List Byte) (ck : TableCheck) : State :=
  let r := s.storeTable img ck
  if r.1 then r.2.loadEnd 5 0 else r.2

/-- The chunks of a body (R312 step 4). -/
def chunksOf (body : List Byte) : List Chunk :=
  (List.range 640).map (fun i => { first := i == 0, last := i == 639, index := i, data := slice body (16 * i) 16 })

/-- ITE sequence 3 (R312) up to step 4: stored, measured, the gate disarmed, the chunks on their way. -/
def State.iteLoad (s : State) (img : List Byte) (ck : TableCheck) : State :=
  let r := s.storeTable img ck
  if !r.1 then r.2
  else
    let body := img.take 10240
    let s1 := (r.2.measure 3 (Config.sha384 body) (bodyVersion img)).commandDisarm
    ((({ s1 with bar := { s1.bar with load := some body, chunks := chunksOf body } }.p
      F.ITE_LOADSTAT_STATE 3).p F.ITE_LOADSTAT_CHUNK 0).p F.ITE_STAT_LOADING 1)

/-- The load that runs fails or is aborted from step 3 on (R313): the previous table stays active;
Keeper re-arms the gate with the previous digest unless the condition of R29 holds. -/
def State.loadStops (s : State) (cause : Nat) (rearm : Bool) : State :=
  if s.bar.load.isNone || s.g F.ITE_LOADSTAT_STATE = 4 then s
  else
    let s1 := { s with bar := { s.bar with load := none, chunks := [] } }
    let s2 := (s1.loadEnd 6 cause).answerTable 3 cause
    if rearm then s2.keeperArms else s2

/-- The conditions under which MOD aborts a load (R313). -/
def State.loadGuard (s : State) : State :=
  if s.lift != .outOfService || s.tenancy == .molting then s.loadStops 0x09 true else s

/-- The registers that show the active table and its field configuration (R269, R298). -/
def State.tableShown (s : State) (body : List Byte) : State :=
  let s1 := ((s.setWord F.ITE_TABLE_VERSION.key (BitVec.ofNat 64 (bodyVersion body + 2 ^ 32 * bodyNrule body +
    (if bodySerial body = 0 then 0 else 2 ^ F.ITE_TABLE_BOUND.lo)))).p F.ITE_CRC_CRC (bodyCrc body))
  let img := bodyConfig body
  let w := fun (i : Nat) => img.getD i 0
  let s2 := s1.setWord F.FIN_PCFG_PSCAN.key (w 0)
  let s3 := (List.range 32).foldl (fun (x : State) i => x.setWord (F.FIN_CFG_TYPE i).key (w (1 + i))) s2
  let s4 := (List.range 4).foldl (fun (x : State) i => x.setWord (F.FCNT_CFG_MODE i).key (w (33 + i))) s3
  (List.range 16).foldl (fun (x : State) i => x.setWord (F.FOUT_CFG_DEMAG i).key (w (37 + i))) s4

/-- A report shows that the body has become active (R312 step 5). -/
def State.loadActive (s : State) : State :=
  match s.bar.load with
  | none => s
  | some body => (((s.tableShown body).p F.ITE_LOADSTAT_STATE 4).evt 0x14 2)

/-- Keeper writes the new digest to CMG_DIGEST and arms the gate (R312 step 6); step 5 has set LOAD_DONE. -/
def State.loadFinish (s : State) : State :=
  match s.bar.load with
  | none => s
  | some body =>
    let s1 := { s with bar := { s.bar with load := none, chunks := [] } }
    let s2 := ((s1.setDigestRecord (Config.sha384 body)).keeperArms).loadOver 5 0
    s2.answerTable 0 0

/-- A START of a trip clear: ITE sequence 1 (R309). -/
def State.tripClear (s : State) : State := { s with bar := { s.bar with gateQ := s.bar.gateQ ++ [.tripClear] } }

end Sys2Proof.Machine
end

