-- ==== Sys2Proof/Machine/Mode.lean ====
section
/-!
DEFINITION. Sys2Proof/Machine/Mode.lean: one evaluation of the mode (R47, R94 to R111): requests decided, the ranked causes of the
lift mode, tenancy, power, the other axes, fallbacks, entry effects, and the access map (R114, R115, R150).
-/
namespace Sys2Proof.Machine
open Sys2Proof

/-! ## The access map -/

/-- The grants [9:0] of a column in the current combination, for a host under Plain Host with PLAIN_ALLOWED at 1, or under
Confidential Host, or under neither (R114, R115, R150). -/
def State.pamGrantsFor (s : State) (plain conf : Bool) (col : Nat) : Nat :=
  let molting := s.tenancy == .molting
  let owner := s.tenancy == .owner
  let site := s.lift == .outOfService || s.lift == .positionLost
  let direct := s.lift == .outOfService || s.lift == .inspection
  let fine := s.debug == .observeFine || s.debug == .haltPermitted
  let observe := s.debug != .closed
  let deployed := s.life == .provisioned || s.life == .deployed
  match col with
  | 0 => b2n ((plain && !molting) || conf) + 4 + 16 * b2n (!molting) + 64 * b2n observe + 256 * b2n conf
  | 1 => 2 * b2n (plain && site && !molting) + 8 * b2n (site && !molting || !s.b F.SYS_STAT_KEEPER_UP)
  | 2 => 2 * b2n ((plain && !molting) || conf) + 8 + 256 * b2n conf
  | 3 => 2 * b2n (plain && direct && !molting) + 8 * b2n (direct && !molting)
  | 4 => 8 * b2n (owner && s.lift == .outOfService && deployed && !s.zeroized)
  | 5 => 2 * b2n (plain && owner) + 8 * b2n owner
  | 6 => b2n (plain && !molting && fine) + 4 * b2n fine + 16 * b2n fine + 64 * b2n fine
  | _ => 4 + 8 + 512 * b2n (!molting)

/-- The grants in the current combination. -/
def State.pamGrants (s : State) (col : Nat) : Nat :=
  s.pamGrantsFor (s.attach == .plain && s.b F.MOD_CFG_PLAIN_ALLOWED) (s.attach == .confidential) col

/-- The SYS_PAM registers follow the combination (R116, R151). -/
def State.pamShown (s : State) : State :=
  (List.range 8).foldl (fun (x : State) n =>
    let g := s.pamGrants n
    if x.g (F.SYS_PAM_GRANTS n) = g then x
    else ((x.p (F.SYS_PAM_GRANTS n) g).p (F.SYS_PAM_SEQ n) (s.g F.MOD_SEQ_SEQ)).evt 0 0) s

/-! ## Requests -/

/-- How a request is decided: nothing, deferred, accepted or refused, with its cause (R77 to R83). -/
inductive Verdict where
  | none | defer (cause : Nat) | accept | refuse (cause : Nat)
  deriving DecidableEq, Repr

def State.asked (s : State) (i : Nat) : Bool := s.mod.held.contains i || s.mod.fresh.contains i
def State.waits (s : State) (i : Nat) : Bool := s.mod.held.contains i
def State.reqVal (s : State) (i : Nat) : Nat := s.g (F.MOD_REQ_VALUE i)
def State.reqArg (s : State) (i : Nat) : Nat := s.g (F.MOD_REQ_ARG i)
def State.reqWho (s : State) (i : Nat) : Nat := s.mod.who.getD i 0

/-- No stage waits in CMG. -/
def State.noStage (s : State) : Bool := s.g F.CMG_STAT_WAITING == 0 && s.waitingTags.isEmpty

/-- Every door engine in use is shut, or every door of the landing stands open. -/
def State.doorsShut (s : State) : Bool := s.doorShut 0 && s.doorShut 1
def State.doorsStandOpen (s : State) : Bool :=
  (s.sidesAt (s.g F.CAR_STAT_LANDING)).all (fun n => !s.b (F.DOR_CFG_EN n) || s.doorIs n == 4 || s.doorIs n == 5)

/-- The car is stopped at landing level. -/
def State.stoppedLevel (s : State) : Bool := s.b F.CAR_STAT_STOPPED && s.b F.CAR_STAT_AT_LEVEL

/-- The condition that an Out of Service request waits for (R61). -/
def State.oosReady (s : State) : Bool :=
  s.stoppedLevel && s.noStage && (if s.b F.MOD_CFG_OOS_DOORS then s.doorsStandOpen else s.doorsShut)

/-- The conditions of a Watch request (R49). -/
def State.watchReady (s : State) (lift : LiftMode) (debug : DebugScope) : Bool :=
  lift == .outOfService && s.stoppedLevel && s.doorsShut && s.noStage && debug == .closed

/-! ## The lift mode -/

/-- One cause of R99 that calls for a value: rank, value, entry cause and requester. -/
structure Called where
  rank : Nat
  mode : LiftMode
  cause : Nat
  who : Nat
  /-- It stands in the base mode. -/
  base : Bool
  deriving DecidableEq, Repr

/-- The car is parked at the landing that Recall Phase 2 begins from (R58, R89). -/
def State.recallParked (s : State) : Bool :=
  s.lift == .recall1 && s.stoppedLevel &&
  (s.g F.CAR_STAT_LANDING == s.g F.MOD_CFG_RECALL_LANDING || !s.landValid (s.g F.MOD_CFG_RECALL_LANDING)) && s.doorsStandOpen

/-- Rank 1 by Lock (R99): Lock is in force, or it has been lifted and the job keys are not delivered again. -/
def State.lockCalls (s : State) : Bool := s.bat.lock || (s.mod.lockKeys && s.mod.keysAbsent)

/-- The causes that call for a value, highest rank first (R99), with a base mode. Out of Service in life-cycle Blank or Returned is
recorded as a change of the fuses by Keeper, after a reset too (log entry 163). -/
def State.calledFor (s : State) (base : LiftMode) : List Called :=
  let life := s.fuse.life
  let one : List Called :=
    if life.dead then [⟨1, .outOfService, 0x16, 5, false⟩]
    else if s.bat.zeroized || s.lockCalls then
      [⟨1, if s.mod.parked then .outOfService else .secureDegraded, if s.bat.zeroized then 0x09 else 0x08, 9, false⟩]
    else []
  let opt := fun (b : Bool) (c : Called) => if b then [c] else []
  let r2 := s.inputOn 3 && (s.lift == .recall2 || s.recallParked)
  let insp := s.inputOn 0 || s.inputOn 1
  one ++ opt (s.inputOn 5) ⟨3, .rescue, 3, 1, false⟩ ++ opt s.mod.positionLost ⟨4, .positionLost, s.mod.lostCause, 0, false⟩ ++
  opt r2 ⟨5, .recall2, 3, 1, false⟩ ++ opt (s.inputOn 2) ⟨5, .recall1, 3, 1, false⟩ ++
  opt (base == .recall1) ⟨5, .recall1, s.mod.baseCause, s.mod.baseWho, true⟩ ++ opt insp ⟨6, .inspection, 3, 1, false⟩ ++
  opt (s.inputOn 4) ⟨7, .evacuation, 3, 1, false⟩ ++ opt (s.inputOn 7) ⟨8, .outOfService, 3, 1, false⟩ ++
  opt (base == .outOfService) ⟨8, .outOfService, s.mod.baseCause, s.mod.baseWho, true⟩ ++
  opt (s.mod.keysAbsent && one.isEmpty)
    ⟨9, if s.mod.parked then .outOfService else .secureDegraded, 0x18, 0, false⟩ ++
  opt (s.inputOn 6) ⟨10, .independent, 3, 1, false⟩ ++
  opt (base == .independent) ⟨10, .independent, s.mod.baseCause, s.mod.baseWho, true⟩ ++
  [⟨11, .normal, s.mod.baseCause, s.mod.baseWho, true⟩]

/-- The mask of causes that are called for. -/
def calledMask (l : List Called) (recall2 : Bool) : Nat :=
  ofBits 12 (fun r => l.any (fun c => c.rank == r && !c.base)) + 2 ^ 12 * b2n recall2

/-- The lift mode with its entry cause and requester: the cause's own when it is new, else what ended above it (R93, R100). -/
def State.liftDecided (s : State) (base : LiftMode) (fresh : Bool) (cause who : Nat) : LiftMode × Nat × Nat :=
  match s.calledFor base with
  | [] => (.normal, 0x18, 0)
  | c :: _ =>
    let prev := s.mod.rank
    let top := (List.range 12).find? (fun r => prev.testBit r)
    let own :=
      if (c.rank = 1 || c.rank = 9) && c.mode == .outOfService && s.lift == .secureDegraded then (0x1b, 0)
      else if c.base then
        if fresh then (cause, who)
        else if s.mod.baseCause ≠ 0 then (s.mod.baseCause, s.mod.baseWho)
        else match top with
          | some 4 => (0x06, 0)
          | some 1 => (0x18, 0)
          | some 9 => (0x18, 0)
          | _ => (0x04, 1)
      else if c.rank = 5 && c.mode == .recall2 then (3, 1)
      else if !prev.testBit c.rank then (c.cause, c.who)
      else match top with
        | some 4 => (0x06, 0)
        | some 1 => (0x18, 0)
        | some 9 => (0x18, 0)
        | _ => (0x04, 1)
    (c.mode, own.1, own.2)

/-- The verdict on a request on index 3, with the lift mode that stands without it (R60 to R62, R78 to R82, R97, R102). A deferred
request for Out of Service is refused when an entry of rank 1 or 4 displaces it; input-held modes leave it deferred (R82), a new one as
well (log entry 164). Where a request for Normal is refused for several reasons, log entry 164 gives the cause. -/
def State.judgeLift (s : State) (cur : LiftMode) : Verdict :=
  if !s.asked 3 then .none
  else
    let v := s.reqVal 3
    let zero := s.bat.zeroized
    let anyInput := (List.range 8).any s.inputOn
    let top := (s.calledFor s.mod.base).head?
    let heldByInput := match top with
      | some c => !c.base && (c.rank == 3 || c.rank == 5 || c.rank == 6 || c.rank == 7)
      | none => false
    let displaced := match top with
      | some c => c.rank == 4 || (c.rank == 1 && c.mode == .secureDegraded)
      | none => false
    if s.reqArg 3 ≠ 0 then .refuse 0x01
    else if v = 0 || v = 1 then
      if zero || cur == .secureDegraded then .refuse 0x09
      else if s.fuse.life.dead then .refuse 0x0a
      else if cur == .positionLost || cur == .rescue || anyInput then .refuse 0x08
      else if s.b F.ITE_STAT_TRIP || s.tenancy == .molting then .refuse 0x02
      else .accept
    else if v = 3 then
      if s.reqWho 3 ≠ 3 && s.reqWho 3 ≠ 5 then .refuse 0x0c
      else if zero then .refuse 0x09
      else if s.fuse.life.dead then .refuse 0x0a
      else .accept
    else if v = 6 then
      if s.waits 3 && cur != s.lift && displaced then .refuse (if zero then 0x09 else 0x08)
      else if heldByInput then .defer 0x08
      else if s.oosReady then .accept
      else .defer 0x03
    else .refuse 0x01

/-! ## The other axes -/

/-- The last hardware call on an axis. -/
def State.callOn (s : State) (axis : Nat) : Option AxisCall := (s.mod.calls.filter (fun c => c.axis == axis)).getLast?

/-- An axis' new value with its entry cause and requester. -/
structure Pick where
  value : Nat
  cause : Nat
  who : Nat
  deriving DecidableEq, Repr

/-- The entry cause of an accepted request. -/
def State.acceptCause (s : State) (i : Nat) : Nat := if s.waits i then 0x02 else 0x01

/-- Group role (R63, R69, R96, R97). Without keys a Member request is refused with cause 0x09 (log entry 164). -/
def State.judgeGroup (s : State) (lift : LiftMode) (molting : Bool) : Verdict :=
  if !s.asked 4 then .none
  else
    let v := s.reqVal 4
    if s.reqArg 4 ≠ 0 || (v ≠ 2 && v ≠ 3) then .refuse 0x01
    else if !s.b F.GRP_CFG_EN then .refuse 0x02
    else if v = 3 then .accept
    else if s.bat.zeroized || lift == .secureDegraded then .refuse 0x09
    else if molting || s.timeRole == .free then .refuse 0x02
    else if s.waits 4 && s.mod.groupMajority then .accept
    else .defer 0x0b

/-- The call on axis 2 that this evaluation takes (R54, R97, R109): in life-cycle Deployed; the one that begins a Molt only in Out of
Service or Inspection and in Run. -/
def State.tenReady (s : State) (lift : LiftMode) (c : AxisCall) : Bool :=
  c.value ≠ 2 || s.g F.MOD_CUR_TENANCY = 2 || ((lift == .outOfService || lift == .inspection) && s.power == .run)
def State.tenCall (s : State) (lift : LiftMode) : Option AxisCall :=
  if s.fuse.life == .deployed then (s.callOn 2).filter (s.tenReady lift) else none

/-- A Molt that is accepted while its entry condition fails waits for it: it cannot be cancelled (R584; log entry 161). -/
def State.tenWaits (s : State) (lift : LiftMode) : List AxisCall :=
  if s.fuse.life == .deployed then ((s.callOn 2).filter (fun c => !s.tenReady lift c)).toList else []

/-- A controller's mode (R65, R66, R437). A test mode asked of a controller in Bus-off is refused (log entry 164). -/
def State.judgeBus (s : State) (n : Nat) (lift : LiftMode) : Verdict :=
  let i := 5 + n
  if !s.asked i then .none
  else
    let v := s.reqVal i
    let off := s.bus n == .busOff
    let back := match s.callOn i with | some c => c.cause == 0x0f | none => false
    if s.reqArg i ≠ 0 || 4 < v then .refuse 0x01
    else if v = 0 then (if off && !back then .defer 0x0b else .accept)
    else if off then .refuse 0x02
    else if lift == .outOfService then .accept
    else .refuse 0x02

/-- Time role (R69). -/
def State.judgeTime (s : State) (group : Nat) : Verdict :=
  if !s.asked 7 then .none
  else
    let v := s.reqVal 7
    if s.reqArg 7 ≠ 0 then .refuse 0x01
    else if v = 3 then (if group = 0 || group = 3 then .accept else .refuse 0x02)
    else if v = 2 then .accept
    else .refuse 0x01

/-- Speculation depth (R75). -/
def State.judgeSpec (s : State) : Verdict :=
  if !s.asked 10 then .none
  else
    let v := s.reqVal 10
    let a := s.reqArg 10
    if (v = 0 && a = 0) || (v = 1 && a = 1) || (v = 2 && 2 ≤ a && a ≤ 4) then .accept else .refuse 0x01

/-- Power (R49, R50). -/
def State.judgePower (s : State) (lift : LiftMode) (molting : Bool) : Verdict :=
  if !s.asked 0 then .none
  else if s.reqVal 0 ≠ 2 || s.reqArg 0 ≠ 0 then .refuse 0x01
  else if s.watchReady lift s.debug && !molting && s.power == .run then .accept
  else .refuse 0x02

/-- Shows a verdict once MOD_SEQ is settled. -/
def State.showVerdict (s : State) (i : Nat) (v : Verdict) : State :=
  match v with
  | .none => s
  | .accept => s.reqAccept i
  | .refuse c => s.reqRefuse i c
  | .defer c => s.reqDefer i c

/-- An axis takes its value: the change is recorded in MOD_CAUSEn (R93). -/
def State.enterAxis (s : State) (i : Nat) (f : Fld) (p : Pick) : State :=
  let old := s.g f
  if old = p.value then s
  else
    (((((s.p f p.value).p (F.MOD_CAUSE_VALUE i) p.value).p (F.MOD_CAUSE_FROM i) old).p (F.MOD_CAUSE_CAUSE i) p.cause).p
      (F.MOD_CAUSE_WHO i) p.who).p (F.MOD_CAUSE_SEQ i) (s.g F.MOD_SEQ_SEQ + 1)

/-- The cap on the speculation depth in stops (R76). -/
def specCap (lift : LiftMode) (molting : Bool) : Nat :=
  if molting then 0 else match lift with | .normal => 4 | .independent => 1 | .evacuation => 1 | _ => 0

/-! ## Entry effects -/

/-- Debug consent ends (R664): the page's record and the breakpoints are cleared. -/
def State.consentEnd (s : State) : State :=
  let s1 := (List.range 6).foldl (fun (x : State) i => x.setWord (F.DBG_TDIGEST_DIGEST i).key 0) (s.setWord F.DBG_CONSENT_EXPIRY.key 0)
  { s1 with dbg := { s1.dbg with bps := List.replicate 4 0 } }.evt 7 1

/-- The nonce is cleared (R661). -/
def State.nonceClear (s : State) : State := { s with dbg := { s.dbg with nonce := none } }.p F.DBG_STAT_NONCE 0

/-- Halt ends: the core and DSE go on (R98, R110, R674). -/
def State.haltEnd (s : State) : State :=
  let s1 := ((s.p F.KPX_STAT_HALTED 0).p F.DBG_STAT_HALTED 0).evt 7 2
  (s1.takeIntake).passDue

/-- Why a HALT is refused now (R668). -/
def State.haltRefusal (s : State) : Option Nat :=
  if s.debug != .haltPermitted then some 0x10
  else if s.lift != .outOfService && s.lift != .inspection then some 0x11
  else if !s.b F.CAR_STAT_DZ then some 0x12
  else if s.b F.KPX_STAT_HALTED then some 0x13
  else none

/-- A stage waits in CMG, or Keeper's locked sequence is armed on some page (R668). -/
def State.haltBlocked (s : State) : Bool :=
  !s.noStage || (List.range 0x37).any (fun pg => s.b (lockArmed pg) && s.g (lockOwner pg) == 2)

/-- The debug port's last refusal (R662, R668, R672). -/
def State.dbgRefuse (s : State) (cause : Nat) : State :=
  (((({ s with dbg := { s.dbg with cstate := 3, cause := cause } } : State).p F.DBG_LAST_CAUSE cause).bump F.DBG_COUNT_REFUSED).evt 7 3)

/-- The core halts at an instruction boundary (R669). -/
def State.haltNow (s : State) (cause : Nat) : State :=
  let s1 := (((s.p F.KPX_STAT_HALTED 1).p F.DBG_STAT_HALTED 1).p F.DBG_STAT_PENDING 0).bump F.DBG_COUNT_HALTS
  (({ s1 with core := { s1.core with held := false, passed := true } } : State).evt 7 2).axisCall 0 4 cause 8

/-- A deferred halt is refused as soon as a refusal condition arises (R668). -/
def State.haltGuard (s : State) : State :=
  if s.b F.DBG_STAT_PENDING then
    match s.haltRefusal with
    | some c => (s.p F.DBG_STAT_PENDING 0).dbgRefuse c
    | none => s
  else s

/-- Every hall call is dropped: with an acknowledge, but for the calls outside the fallback sector of an Isolated car (R107). -/
def State.dropHallAll (s : State) : State :=
  let mine := fun (e : Nat) =>
    s.group != .isolated || (s.g (F.GRP_FSECT_LANDINGS (s.g F.GRP_CFG_STATION))).testBit (s.g (F.DSE_CALL0_FROM e))
  (s.dropHall mine true).dropHall (fun _ => true) false

/-- The Molt begins (R109, R583 step 2), as a requester ordered it. -/
def State.moltEntered (s : State) (who : Nat) : State :=
  let s1 : State := { s with
    bat := { s.bat with tenancy := 2 }
    mod := { s.mod with base := .outOfService, baseCause := 0x14, baseWho := who } }
  let s2 := (s1.clearKeys.p F.MOD_CFG_PLAIN_ALLOWED 0).nonceClear
  ((s2.dropHallAll).passDue).p F.TEN_STAT_STEP 3

/-- A move to Returned gives tenancy back to the Owner (R97): what was left of a Molt ends with it (log entry 161). -/
def State.tenancyReturned (s : State) : State :=
  let s1 : State := { s with bat := { s.bat with tenancy := 0, molting := false }, nvm := { s.nvm with moltOrder := [] } }
  ((s1.nonceClear).p F.TEN_STAT_STEP 0).p F.TEN_STAT_PAUSED 0

/-- The Molt completes (R109, R583 step 7). -/
def State.moltCompleted (s : State) (t : Nat) : State :=
  let s1 : State := { s with bat := { s.bat with tenancy := t, molting := true } }
  let s2 := s1.deliverAll t
  let s3 := s2.p F.MOD_CFG_PLAIN_ALLOWED (match s2.tenantConfig t with | some c => (leAt c 7 1) % 2 | none => 0)
  let s4 := if s3.b F.GRP_CFG_EN then s3.makeRequest 4 2 0 6 else s3
  (s4.nonceClear).p F.TEN_STAT_STEP 8

/-- The calls that an entry to a lift mode drops (R106, R107, R58). -/
def State.dropOnEntry (s : State) (lift : LiftMode) : State :=
  match lift with
  | .inspection | .recall1 | .outOfService | .rescue | .positionLost => s.dropHallAll.p F.DSE_CARCALLS_CALLS 0
  | .secureDegraded =>
    s.dropHallAll.p F.DSE_CARCALLS_CALLS (match s.nearestAhead with
      | some l => if (s.g F.DSE_CARCALLS_CALLS).testBit l then 2 ^ l else 0
      | none => 0)
  | .evacuation =>
    let ev := s.g F.MOD_CFG_EVAC_LANDING
    if s.b F.DSE_CARCALLS_CALLS && s.landValid ev then s.p F.DSE_CARCALLS_CALLS (2 ^ ev) else s
  | .independent =>
    if s.grouped then { s with grp := { s.grp with rebid := true } }
    else s.entries.foldl (fun (x : State) e => x.setStatus e 2) s
  | .normal =>
    if s.grouped then { s with grp := { s.grp with rebid := true } }
    else s.entries.foldl (fun (x : State) e => if x.g (F.DSE_CALL0_STATUS e) = 2 then x.setStatus e 1 else x) s
  | .recall2 => s

/-- In Position Lost the relearn starts; while job keys are absent it waits for the evaluation after they are delivered (R104, R351). -/
def State.relearnDue (s : State) : State :=
  if s.mod.positionLost && !s.mod.keysAbsent && !s.b F.CAR_STAT_RELEARNING then s.relearnStart.passDue else s

/-- A change of the lift mode (R105, R106, R351). -/
def State.liftEntered (s : State) (lift : LiftMode) : State :=
  let s1 := (s.dropOnEntry lift).doorsModeChange
  let s2 := if lift == .positionLost then s1.distrust else s1
  (if s2.b F.CAR_STAT_RELEARNING then s2.relearnPhase 0 else s2).passDue

/-- Entry to Isolated drops the hall calls outside the fallback sector without acknowledgement (R107, R109). -/
def State.isolatedEntered (s : State) : State :=
  let own := s.g (F.GRP_FSECT_LANDINGS (s.g F.GRP_CFG_STATION))
  s.dropHall (fun e => !own.testBit (s.g (F.DSE_CALL0_FROM e))) false

/-- Every armed locked sequence is abandoned, without count (R140, R161, R176). -/
def State.abandonAll (s : State) : State :=
  (s.holds.map (·.1)).foldl (fun (x : State) pg =>
    ((x.p (lockArmed pg) 0).p (lockAbandoned pg) 1).p (lockRemain pg) 0)
    { s with holds := [] }

/-- The watched sources that are pending, or whose doorbells are on their way, highest first (R163, R246). -/
def State.watchedPending (s : State) : List Nat :=
  (List.range 512).reverse.filter (fun n =>
    s.watched n && (srcHas s.icu.pend0 n || srcHas s.icu.pend1 n || s.icu.queue.contains n))

/-- Entry to Watch in the order of R161. The doorbells of the entry reach the ICU before it is clock-gated; a watched source that is
pending then starts the wake at once (R163). Second attempts that wait end uncounted (R197). -/
def State.watchEntered (s : State) : State :=
  let s2a := s.abandonAll.pcieDown.sessionsEnd
  let s2 := if s2a.b F.MGT_STAT_LINK then (s2a.p F.MGT_STAT_LINK 0).evt 0x2a 0 else s2a
  let drop := fun (x : State) (n : Nat) =>
    let gone := (x.can n).queue.filter (fun f => !f.tx)
    let y := gone.foldl (fun (z : State) _ => z.lost (cbPage n) 63) (x.setQueue n ((x.can n).queue.filter (fun f => f.tx)))
    y.pb (F.CB_STAT_STB n) true
  let s3 := drop (drop s2 0) 1
  let s4 := if s3.b F.EMC_STAT_TRAINED then s3.p F.EMC_STAT_SELFREF 1 else s3
  let s5 := (s4.sweepAbort.loadStops 0x09 false).pkgFail 7
  let s6 := s5.tsySleep.scheduleWake
  let s7 := (s6.p F.CLK_STAT_PLL_LOCK 0).settle
  let s8 : State := { s7 with
    wake := { s7.wake with
      watch := true, pllStarted := false, recorded := [], waking := false, starter := none, mgtUp := false
      timerArmed := s7.b F.FFY_TIMER_TICKS }
    bar := { s7.bar.linkEnds with shadow := List.replicate 8 none, shadowArmed := false, gateQ := [], stages := [], chunks := [],
                                  squash := none, release := none }
    cpc := if s7.cpc.on then { s7.cpc.disarm with fieldWatch := true, applied := 0, repeatIn := false, watchRepeat := false }
      else s7.cpc }
  s7.watchedPending.foldl State.ffyNotice s8

/-- Keeper answers the mode requests of channels once they are decided or deferred (R636). -/
def State.answerReq (s : State) : State :=
  let w := s.host.waiting
  let s1 := { s with host := { s.host with waiting := w.filter (fun x => match x with | .modReq _ _ _ => false | _ => true) } }
  w.foldl (fun (x : State) y => match y with
    | .modReq ch tag i =>
      let st := x.g (F.MOD_REQ_STATE i)
      x.respond ch tag 0x10 (if st = 3 then 3 else 0) (if st = 3 then x.g (F.MOD_REQ_CAUSE i) else 0)
        (wordBytes (x.word (F.MOD_REQ_VALUE i).key))
    | _ => x) s1

/-! ## The evaluation -/

/-- One evaluation of the mode (R94). -/
def State.evaluate (s : State) : State :=
  let old := s.word F.MOD_CUR_POWER.key
  -- step 1: tamper responses, life-cycle, ZEROIZED
  let zeroRise := s.bat.zeroized && !s.zeroized
  let lifeNow := s.fuse.life
  -- step 2: the lift mode
  let cur := (s.liftDecided s.mod.base false 0 0).1
  let v3 := s.judgeLift cur
  let accepted3 := v3 == .accept
  let base := if accepted3 then LiftMode.ofCode (s.reqVal 3) else s.mod.base
  let ld := s.liftDecided base accepted3 (s.acceptCause 3) (s.reqWho 3)
  let lift := ld.1
  let liftPick : Pick := ⟨lift.code, ld.2.1, ld.2.2⟩
  let forced : Nat × Nat := (ld.2.1, ld.2.2)
  -- step 3: tenancy
  let tenPick : Pick := match s.tenCall lift with
    | some c => ⟨c.value, c.cause, c.who⟩
    | none => ⟨if lifeNow == .deployed then s.bat.tenancy else 0, 0x16, 5⟩
  let tenOld := s.g F.MOD_CUR_TENANCY
  let molting := tenPick.value = 2
  let begins := molting && tenOld ≠ 2
  let ends := !molting && tenOld = 2 && !lifeNow.dead
  let v3' := match v3 with
    | .defer c => if zeroRise then .refuse 0x09 else if begins then .refuse 0x02 else .defer c
    | v => v
  -- step 4: power
  let v0 := s.judgePower lift (decide (molting = true))
  -- step 5: indexes 4 to 10
  let v4 := match s.judgeGroup lift molting with
    | .defer c => if zeroRise then .refuse 0x09 else .defer c
    | v => v
  let grp0 : Pick := match s.callOn 4 with
    | some c => ⟨c.value, c.cause, c.who⟩
    | none => ⟨s.g F.MOD_CUR_GROUP, 0x18, 0⟩
  let grp1 : Pick := if v4 == .accept then
      (if s.reqVal 4 = 3 then ⟨3, s.acceptCause 4, s.reqWho 4⟩
       else ⟨if s.g F.GRP_STAT_LEADER = s.g F.GRP_CFG_STATION then 1 else 2, s.acceptCause 4, s.reqWho 4⟩)
    else grp0
  let grp2 : Pick := if !s.b F.GRP_CFG_EN then ⟨0, 0x18, 6⟩ else grp1
  let v7 := s.judgeTime grp2.value
  let time0 : Pick := match s.callOn 7 with
    | some c => ⟨c.value, c.cause, c.who⟩
    | none => ⟨s.g F.MOD_CUR_TIME, 0x18, 0⟩
  let time1 : Pick := if v7 == .accept then ⟨s.reqVal 7, s.acceptCause 7, s.reqWho 7⟩ else time0
  let isolate := lift == .secureDegraded || s.bat.zeroized || molting
  let grp3 : Pick := if isolate && (grp2.value = 1 || grp2.value = 2) then
      ⟨3, if begins then 0x14 else if zeroRise then 0x09 else if lift == .secureDegraded then forced.1 else 0x18,
        if begins then tenPick.who else if zeroRise then 9 else if lift == .secureDegraded then forced.2 else 0⟩
    else grp2
  -- Free-running beside Leader or Member falls to Follower, with the cause of the group's change (R97, R98)
  let time2 : Pick := if time1.value = 3 && (grp3.value = 1 || grp3.value = 2) then ⟨2, grp3.cause, grp3.who⟩ else time1
  let busPick := fun (n : Nat) =>
    let i := 5 + n
    let f := if n = 0 then F.MOD_CUR_CB0 else F.MOD_CUR_CB1
    let now := s.g f
    let p0 : Pick := match s.callOn i with
      | some c => ⟨c.value, c.cause, c.who⟩
      | none => ⟨now, 0x18, 0⟩
    let p1 : Pick := if s.judgeBus n lift == .accept && p0.cause ≠ 0x0f then ⟨s.reqVal i, s.acceptCause i, s.reqWho i⟩ else p0
    -- a test mode entered by request leaves with Out of Service (R96, R98); the hardware entry of R67 stays
    let byReq := s.g (F.MOD_CAUSE_CAUSE i) = 0x01 || s.g (F.MOD_CAUSE_CAUSE i) = 0x02
    if p1.value = now && 1 ≤ now && now ≤ 4 && byReq && lift != .outOfService then (⟨0, forced.1, forced.2⟩ : Pick) else p1
  let b0 := busPick 0
  let b1 := busPick 1
  -- host attachment (R70, R96, R97)
  let up := s.b F.PCI_LINK_UP
  let conf := s.host.setUp || s.g F.HBX_STATE_STATE = 2
  let mayConf := lift != .secureDegraded && !s.bat.zeroized && !lifeNow.dead && !molting
  let watch := v0 == .accept
  let att := if !up || watch then 0 else if conf && mayConf then 2 else 1
  let attPick : Pick := ⟨att, if att = 0 || s.g F.MOD_CUR_HOST = 0 then 0x10 else 0x11, 0⟩
  -- debug (R73, R74, R97)
  let dbg0 : Pick := match s.callOn 9 with
    | some c => ⟨c.value, c.cause, c.who⟩
    | none => ⟨s.g F.MOD_CUR_DEBUG, 0x18, 0⟩
  let dbgBar := s.bat.zeroized || lifeNow.dead || molting || watch
  let dbg1 : Pick := if dbgBar && dbg0.value ≠ 0 then
      (if begins then ⟨0, 0x14, tenPick.who⟩ else if s.bat.zeroized then ⟨0, 0x09, 9⟩ else if lifeNow.dead then ⟨0, 0x16, 5⟩
       else if watch then ⟨0, s.acceptCause 0, s.reqWho 0⟩ else ⟨0, 0x18, 0⟩) else dbg0
  let v9 : Verdict := match s.callOn 9 with
    | some c => if c.who ≠ 8 then .none else if dbg1.value = c.value then .accept else .refuse 0x02
    | none => .none
  -- Halt leaves the matrix (R96, R97, R110)
  let pw0 : Pick := match s.callOn 0 with
    | some c => ⟨c.value, c.cause, c.who⟩
    | none => ⟨s.g F.MOD_CUR_POWER, 0x18, 0⟩
  let haltOk := dbg1.value = 3 && (lift == .outOfService || lift == .inspection) && !molting
  let pw1 : Pick := if watch then ⟨2, s.acceptCause 0, s.reqWho 0⟩
    else if pw0.value = 4 && !haltOk then
      (if dbg1.value ≠ 3 then ⟨3, dbg1.cause, dbg1.who⟩ else if molting then ⟨3, 0x14, tenPick.who⟩ else ⟨3, forced.1, forced.2⟩)
    else if pw0.value = 2 then ⟨3, 0x17, 0⟩
    else pw0
  let dbg2 : Pick := if dbg1.value = 3 && pw1.value ≠ 4 && !s.b F.CAR_STAT_DZ then ⟨2, 0x1c, 0⟩ else dbg1
  -- speculation depth (R75, R76); a change of SPEC_STOPS alone is recorded as one of index 10, with FROM equal to VALUE (log entry 171),
  -- and a rise that no request made as cause 0x1A, requester 0 (log entry 172)
  let v10 := s.judgeSpec
  let want := if v10 == .accept then s.reqArg 10 else s.mod.spec
  let eff := min want (specCap lift molting)
  let spec : Pick := ⟨if eff = 0 then 0 else if eff = 1 then 1 else 2,
    if v10 == .accept && eff = want then s.acceptCause 10 else 0x1a, if v10 == .accept && eff = want then s.reqWho 10 else 0⟩
  let insp := if lift == .inspection then b2n (s.inputOn 0) + 2 * b2n (s.inputOn 1) else 0
  -- the values are entered
  let e0 := s.enterAxis 1 F.MOD_CUR_LIFECYCLE ⟨lifeNow.code, 0x16, 5⟩
  let e1 := (e0.pb F.MOD_CUR_ZEROIZED s.bat.zeroized).enterAxis 2 F.MOD_CUR_TENANCY tenPick
  let e2 := ((e1.enterAxis 3 F.MOD_CUR_LIFT liftPick).p F.MOD_CUR_INSP_SRC insp).enterAxis 0 F.MOD_CUR_POWER pw1
  let e3 := ((e2.enterAxis 4 F.MOD_CUR_GROUP grp3).enterAxis 5 F.MOD_CUR_CB0 b0).enterAxis 6 F.MOD_CUR_CB1 b1
  let e4 := ((e3.enterAxis 7 F.MOD_CUR_TIME time2).enterAxis 8 F.MOD_CUR_HOST attPick).enterAxis 9 F.MOD_CUR_DEBUG dbg2
  let e5 := if e4.g F.MOD_CUR_SPEC = spec.value && e4.g F.MOD_CUR_SPEC_STOPS ≠ eff then
      ((((e4.p (F.MOD_CAUSE_VALUE 10) spec.value).p (F.MOD_CAUSE_FROM 10) spec.value).p (F.MOD_CAUSE_CAUSE 10) spec.cause).p
        (F.MOD_CAUSE_WHO 10) spec.who).p (F.MOD_CAUSE_SEQ 10) (e4.g F.MOD_SEQ_SEQ + 1)
    else e4.enterAxis 10 F.MOD_CUR_SPEC spec
  let e6 := e5.p F.MOD_CUR_SPEC_STOPS eff
  let changed := e6.word F.MOD_CUR_POWER.key != old
  let e7 := if changed then (e6.wrapInc F.MOD_SEQ_SEQ).evt 8 0 else e6
  -- verdicts, and what MOD remembers
  let e8 := (((((((e7.showVerdict 0 v0).showVerdict 3 v3').showVerdict 4 v4).showVerdict 5 (s.judgeBus 0 lift)).showVerdict 6
    (s.judgeBus 1 lift)).showVerdict 7 v7).showVerdict 9 v9).showVerdict 10 v10
  -- an accepted Molt order is decided with the evaluation that begins the Molt
  let e8m := if begins then e8.p (F.MOD_REQ_SEQ 2) (e8.g F.MOD_SEQ_SEQ) else e8
  let r2 := s.inputOn 3
  let e9 : State := { e8m with mod := { e8m.mod with
      base := base, baseCause := 0, baseWho := 0, calls := s.tenWaits lift, spec := want
      lockKeys := s.lockCalls
      rank := calledMask (s.calledFor base) r2
      groupMajority := if s.waits 4 then s.mod.groupMajority else false } }
  let e10 := [0, 1].foldl (fun (x : State) n =>
    if s.judgeBus n lift == .defer 0x0b && !(s.can n).recovering then
      (x.setCan n { x.can n with recovering := true }).p (F.CB_ERR_RECOV n) 0
    else x) e9
  -- entry effects
  let liftNew := lift != s.lift
  let grpNew := grp3.value ≠ s.g F.MOD_CUR_GROUP
  let f1 := if begins then e10.moltEntered tenPick.who else if ends then e10.moltCompleted tenPick.value
    else if tenPick.value ≠ tenOld then e10.tenancyReturned else e10
  let f2 := if zeroRise then (f1.hbxEnd).p F.MOD_CFG_PLAIN_ALLOWED 0 else f1
  let f3 := if liftNew || grpNew || begins then f2.squashAll (if liftNew then 3 else 4) else f2
  let f4 := if liftNew then f3.liftEntered lift else f3
  let f4r := if lift == .positionLost then f4.relearnDue else f4
  let f5 := if grpNew && grp3.value = 3 then f4r.isolatedEntered else f4r
  let f6 := if conf && att ≠ 2 then f5.spdmEnd else f5
  let f7 := if att = 2 && s.host.setUp then ({ f6 with host := { f6.host with setUp := false } }).hbxState 2 else f6
  let f8 := if dbg2.value = 0 && (s.g F.MOD_CUR_DEBUG ≠ 0 || dbg0.value ≠ 0) then f7.consentEnd else f7
  let f9 := if s.b F.KPX_STAT_HALTED && pw1.value ≠ 4 then f8.haltEnd else f8
  let f10 := if time2.value ≠ s.g F.MOD_CUR_TIME then f9.roleEntered else f9
  let f11 := (f10.canSync 0).canSync 1
  let f12 := f11.loadGuard
  let f13 := if (lift != .outOfService && lift != .inspection) || molting then f12.sweepAbort else f12
  let f14 := (List.range (b2n (e1.word F.MOD_CUR_POWER.key != e0.word F.MOD_CUR_POWER.key) +
    b2n (dbg2.value ≠ s.g F.MOD_CUR_DEBUG))).foldl (fun (x : State) _ => x.mseq) f13
  let f15 := if eff < s.g F.MOD_CUR_SPEC_STOPS then f14.passCause 8 else if eff ≠ s.g F.MOD_CUR_SPEC_STOPS then f14.passDue else f14
  let f16 := (f15.pamShown).regate
  let f17 := (if changed then f16.statusAll else f16).answerReq
  if watch then f17.watchEntered else f17

/-- MOD evaluates while the frame period runs: not in Watch, not before the PLL locks (R47, R111). -/
def effModEvaluation (s : State) : State := if s.canLive then s.evaluate.haltGuard else s

/-- Parking in Secure-degraded is complete: the doors are open and the brake has dropped (R106); while RESCUE is active parking
waits (R103). -/
def effSecureDegradedParked (s : State) : State :=
  if s.canLive && s.lift == .secureDegraded && !s.rescueActive then
    ({ s with mod := { s.mod with parked := true, base := .outOfService, baseCause := 0x1b, baseWho := 0 } }).evaluate
  else s

/-- A mapped field input has held a level for IN_STABLE frames (R57); 0 acts as 1 (R88). -/
def effModeInputChange (k : Nat) (s : State) : State :=
  match s.mod.inputs[k]? with
  | none => s
  | some m =>
    if max 1 (s.g F.MOD_CFG_IN_STABLE) ≤ m.frames && m.active != m.level then
      { s with mod := { s.mod with inputs := s.mod.inputs.set k { m with active := m.level } } }
    else s

/-- Writes of MOD_REQn by an accessor that SYS_PAM2 grants: a request, or the cancel of a deferred one (R80, R81). On indexes 1, 2, 8
and 9 the write is a violation (R92). -/
def State.writeReq (s : State) (i v arg who : Nat) : State :=
  if i = 1 || i = 2 || i = 8 || i = 9 || 10 < i then s.violation 8
  else if v = 0xff then s.cancelRequest i arg who
  else s.makeRequest i v arg who

end Sys2Proof.Machine
end

