-- ==== Sys2Proof/Machine/Inbound.lean ====
section
/-!
DEFINITION. Sys2Proof/Machine/Inbound.lean: an inbound frame at the logic die (R258 steps 5 to 7): outcomes of both lanes (R262,
R263, R195), the field-side shadows (R128, R278), the slots rebuilt (R327), the gate found disarmed (R332), silence (R29, R266,
R267) and watch frames (R268, R274).
-/
namespace Sys2Proof.Machine
open Sys2Proof

/-- The three acts of R29: every stage squashed, Position Lost, the lasting event. -/
def State.linkDown (s : State) : State :=
  let s1 := s.squashAll 3
  { s1 with mod := { s1.mod with positionLost := true, lostCause := 0x07 } }.evt 0x10 2

/-- The logic die empties its shadow of the slots and holds the gate disarmed. -/
def State.shadowEmpty (s : State) : State :=
  { s with bar := { s.bar with shadow := List.replicate 8 none, shadowArmed := false, sent := [], stages := [], release := none } }

/-! ## Outcomes of the two lanes -/

/-- The outbound frame of the slot is finished: the report that covers it follows, one later if the coming inbound frame is a repeat.
A frame lost on both attempts is covered by none; its stage writes are judged with the next report. -/
def Barrier.frameFinished (b : Barrier) (kept repeatComes : Bool) : Barrier :=
  let w := some (b2n repeatComes)
  { b with
    outFails := 0
    sent := b.sent.map (fun p => if p.1.isNone then (w, p.2) else p)
    due := if kept then b.due.map (fun d => if d.wait.isNone then { d with wait := w } else d) else b.due.filter (fun d => d.wait.isSome) }

/-- A frame lost on both attempts: what it asks for again (R195, R262). -/
def State.outLost (s : State) : State :=
  let elems := ((s.bar.due.filter (fun d => d.wait.isNone)).map Due.elems).flatten
  { s with bar := (s.bar.gatherAgain elems).frameLost s.bar.out }

/-- The acknowledge word for the outbound frame (R262, R263): OK, a failed first attempt, or a lasting failure, which also fails a
table load in step 4 (R313). -/
def State.outAck (s : State) (ok repeatComes : Bool) : State :=
  let fails := s.bar.outFails
  let done := fun (x : State) (kept : Bool) => { x with bar := x.bar.frameFinished kept repeatComes }
  if ok then (if fails = 1 then (done s true).transient 0x10 2 else done s true)
  else if fails = 0 then { s with bar := { s.bar with outFails := 1 } }
  else
    let s1 := ((done s.outLost false).lasting 0x10 3).evt 0x10 2
    if s1.g F.ITE_LOADSTAT_STATE = 3 then s1.loadStops 0x07 true else s1

/-- The Carapace's side of the acknowledge word for the inbound frame (R262, R264): the edges of a frame that is acknowledged have been
carried; a frame that is not is repeated once, and the edges of a repeat that fails too go into the next frame. -/
def Carapace.inAck (c : Carapace) (ok : Bool) : Carapace :=
  let carried := { c with repeatIn := false, inFlight := { c.inFlight with edges := 0 } }
  if ok then carried
  else if c.inFlight.retry then { carried with report := { c.report with edges := c.report.edges ||| c.inFlight.edges } }
  else { c with repeatIn := true }

/-- The counts and events of a lasting inbound frame, on FLD and on MOD (R195, R196, R263). -/
def State.inLasting (s : State) : State := (((s.lasting 0x10 1).bump (hdrTrouble 8 1)).evt 0x10 2).evt 8 2

/-- A failed inbound frame (R195, R263): on the second attempt its content is lasting-failed; the elements whose results it may have
carried are fetched again, and the next frame is the report that follows. -/
def State.inFailed (s : State) : State :=
  if s.bar.inFails = 0 then { s with bar := { s.bar with inFails := 1 } }
  else
    let s1 := ({ s with bar := { s.bar with inFails := 0 }, car := { s.car with afterLasting := true } } : State).inLasting
    let elems := ((s1.bar.due.filter (fun d => d.wait == some 0)).map Due.elems).flatten
    let b : Barrier := { s1.bar with
      sent := s1.bar.sent.map (fun (p : Option Nat × Stage) => (p.1.map (fun n => n - 1), p.2))
      due := s1.bar.due.map (fun d => { d with wait := d.wait.map (fun n => n - 1), elems := if d.wait == some 0 then [] else d.elems }) }
    { s1 with bar := b.gatherAgain elems }

/-- The frames that a new report covers, oldest first; the others come one report nearer. -/
def Barrier.covered (b : Barrier) : List Due := b.due.filter (fun d => d.wait == some 0)
def Barrier.uncover (b : Barrier) : Barrier :=
  { b with due := (b.due.filter (fun d => d.wait != some 0)).map (fun d => { d with wait := d.wait.map (fun n => n - 1) }) }

/-! ## Shadows -/

/-- The enables of FIN_RISEEN and FIN_FALLEN that the covered frames carried (R128). -/
def State.finEnables (s : State) (cov : List Due) : State :=
  cov.foldl (fun (x : State) d =>
    let y := match d.rise with | some v => x.p F.FIN_RISEEN_EN v | none => x
    match d.fall with | some v => y.p F.FIN_FALLEN_EN v | none => y) s

/-- Inputs and their edges (R128, R264). A change recorded on an input whose state has come back had both directions (log entry 23). -/
def State.finShadow (s : State) (inputs e : Nat) : State :=
  let prev := s.g F.FIN_STATE_STATE
  let same := 0xffffffff ^^^ (prev ^^^ inputs)
  let rise := e &&& (inputs ||| same)
  let fall := e &&& ((0xffffffff ^^^ inputs) ||| same)
  let hit := (rise &&& s.g F.FIN_RISEEN_EN) ||| (fall &&& s.g F.FIN_FALLEN_EN)
  let s1 := (s.p F.FIN_STATE_STATE inputs).p F.FIN_EDGE_EDGE (s.g F.FIN_EDGE_EDGE ||| e)
  (List.range 4).foldl (fun (x : State) g => x.evtIf (fld hit (8 * g) 8 != 0) 0x11 g) s1

/-- The field configuration as the pages show it, in the order of R269. -/
def State.fieldWords (s : State) : List Word :=
  (s.word F.FIN_PCFG_PSCAN.key :: (List.range 32).map (fun i => s.word (F.FIN_CFG_TYPE i).key)) ++
  (List.range 4).map (fun u => s.word (F.FCNT_CFG_MODE u).key) ++ (List.range 16).map (fun c => s.word (F.FOUT_CFG_DEMAG c).key)

/-- The units that a report shows started again: those that a covered frame reset (R279), and those that a table's configuration changes
(R270). -/
def State.unitsReset (s : State) (f : InFrame) (cov : List Due) : Nat :=
  let moved := match s.bar.load with
    | some body => if f.loadDone then ofBits 4 (unitMoved s.fieldWords (bodyConfig body)) else 0
    | none => 0
  cov.foldl (fun a d => a ||| d.frame.fcntReset) moved

/-- Counter values, extended to 64 bits (R278, R279), their events and results. A gate of GATE_MS is 50 slots a millisecond long, so a unit in
Frequency mode has a result after that many (log entry 20). -/
def State.fcntShadow (s : State) (f : InFrame) (resets : Nat) : State :=
  let s1 := (List.range 4).foldl (fun (x : State) u =>
    let mode := x.g (F.FCNT_CFG_MODE u)
    let quad := 2 ≤ mode && mode ≤ 4 && u % 2 = 0
    let now := f.counters.getD u 0
    let d := sgn 32 (unsgn 32 ((now : Int) - (x.bar.counters.getD u 0 : Int)))
    let reset := resets.testBit u
    let x1 := if mode = 5 || mode = 6 then x.p (F.FCNT_VAL_VALUE u) now
      else if reset then x.ps (F.FCNT_VAL_VALUE u) (sgn 32 now)
      else x.ps (F.FCNT_VAL_VALUE u) (x.gs (F.FCNT_VAL_VALUE u) + d)
    let gate := min 1000 (max 1 (x.g (F.FCNT_CFG_GATE_MS u)))
    let povf := f.povf.testBit u
    let qerr := f.qerr.testBit u
    let hz := if povf then 0 else if mode = 6 then now * 1000 / gate else if mode = 5 then 50000000 / now else 0
    let result := (mode = 5 || mode = 6) && (now != 0 || (!reset && (x.b (F.FCNT_STAT_RESULT u) ||
      (mode = 6 && decide (50 * gate < x.bar.unitAge.getD u 0)))))
    let x2 := (x1.evtIf qerr 0x13 u).evtIf (povf && !x.b (F.FCNT_STAT_POVF u)) 0x13 (4 + u)
    let x3 := if qerr then x2.bump (F.FCNT_STAT_QERR_SCANS u) else x2
    let x4 := if quad && !reset && d != 0 then x3.pb (F.FCNT_STAT_DOWN u) (decide (d < 0)) else x3
    ((x4.pb (F.FCNT_STAT_RESULT u) result).pb (F.FCNT_STAT_POVF u) povf).p (F.FCNT_HZ_HZ u) hz) s
  { s1 with bar := { s1.bar with
      counters := f.counters, unitAge := s1.bar.unitAge.zipIdx.map (fun (p : Nat × Nat) => if resets.testBit p.2 then 0 else p.1) } }

/-- A status bit of FOUT with its event and its LOG class on a change to 1 (R284, R286). -/
def State.foutBit (s : State) (fl : Fld) (v : Bool) (bit cls : Nat) : State :=
  let s1 := s.pb fl v
  if v && !s.b fl then (s1.evt 0x12 bit).classInc cls else s1

/-- Outputs (R284, R286, R288). -/
def State.foutShadow (s : State) (f : InFrame) : State :=
  let was := s.g F.FOUT_APPLIED_APPLIED
  let s1 := (List.range 16).foldl (fun (x : State) c =>
    if f.applied.testBit c && !was.testBit c then x.bump (F.FOUT_ONCNT_COUNT c) else x) s
  let s2 := ((s1.p F.FOUT_APPLIED_APPLIED f.applied).p F.FOUT_APPLIED_PERMIT f.permit).p F.FOUT_INHIBIT_INH f.inhibited
  let s3 := (s2.foutBit F.FOUT_STAT_TSD f.tsd 3 59).foutBit F.FOUT_STAT_ILIM f.ilim 2 60
  let s4 := if f.sweep then s3 else s3.foutBit F.FOUT_STAT_FAULT f.fault 4 61
  { s4 with bar := { s4.bar with testFault := f.fault && f.sweep } }

/-- One FOUT_SET of a covered frame on the commands that the logic die holds (R282, R283, R288, R328): the commands after it, and whether it
was not applied to a channel it selects. -/
def setJudged (armed : Bool) (permit inhibited : Nat) (cmd : Nat) (f : OutFrame) : Nat × Bool :=
  let open_ := fun (ch : Nat) => armed && permit.testBit ch && !inhibited.testBit ch
  let sel := fun (ch : Nat) => f.setMask.testBit ch
  (ofBits 16 (fun ch => if sel ch && open_ ch then f.setValue.testBit ch else cmd.testBit ch),
   (List.range 16).any (fun ch => sel ch && !open_ ch && (!armed || inhibited.testBit ch || f.setValue.testBit ch != cmd.testBit ch)))

/-- The channels' commands on the logic die, and what FOUT_TROUBLE.LOST counts of a report (R282, R288, R328): FOUT_SETs not applied, and
commits that an inhibited channel discards. The applied states put the commands right (log entry 20). -/
def State.foutJudge (s : State) (f : InFrame) (cov : List Due) (wasArmed : Bool) (coms : List Stage) : State :=
  let sets := cov.foldl (fun (a : Nat × Nat) d =>
    let r := setJudged (wasArmed && f.armed && !d.frame.offAll) f.permit f.inhibited a.1 d.frame
    (r.1, a.2 + b2n r.2)) (s.bar.cmd, 0)
  let cmd := coms.foldl (fun (a : Nat) st =>
    let m := st.outMask ^^^ (st.outMask &&& f.inhibited)
    (a ^^^ (a &&& m)) ||| (st.outValue &&& m)) sets.1
  let lost := sets.2 + (coms.filter (fun st => st.outMask &&& f.inhibited != 0)).length
  let shown := if f.tsd || f.sweep then 0 else f.permit % 2 ^ 16 ^^^ (f.permit % 2 ^ 16 &&& f.inhibited)
  let put := if f.armed then f.applied ||| (cmd ^^^ (cmd &&& shown)) else 0
  (List.range lost).foldl (fun (x : State) _ => x.lost 0x12 63) { s with bar := { s.bar with cmd := put } }

/-- PWR_STAT.VFLD_OK follows the Carapace's monitor; a change sets PWR_EVT.VFLD (R30, R187). -/
def State.vfldShown (s : State) (ok : Bool) : State := if s.b F.PWR_STAT_VFLD_OK = ok then s else (s.pb F.PWR_STAT_VFLD_OK ok).evt 2 0

/-- Temperature, VFLD and the link's own status (R30, R187, R267). -/
def State.fldShadow (s : State) (f : InFrame) : State :=
  let s1 := ((((s.p F.FLD_SEQ_IN f.seq).p F.FLD_CTEMP_TEMP f.temp).pb F.FLD_STAT_WATCH f.watching).pb F.FLD_STAT_DROPPED f.dropped)
  ({ s1 with bar := { s1.bar with vfldMv := f.vfldMv } } : State).vfldShown f.vfldOk

/-- The interlock engine: table, trips and permits (R307 to R309). A trip that a covered trip clear has left latched ignored it. -/
def State.iteShadow (s : State) (f : InFrame) (cov : List Due) : State :=
  let cause := if f.trip then f.tripCause else 0
  let latched := f.trip && cause ≠ s.g F.ITE_STAT_TRIP_CAUSE
  let s1 := ((s.pb F.ITE_STAT_ACTIVE f.tableOk).pb F.ITE_STAT_TRIP f.trip).p F.ITE_STAT_TRIP_CAUSE cause
  let s2 := if latched then
      let y := ((s1.p F.ITE_TRIPREC_CAUSE cause).bump F.ITE_TRIPREC_COUNT).evt 0x14 0
      ((if cause = 1 then y.p F.ITE_TRIPREC_RULE f.tripRule else y).classInc 31).squashAll 9
    else s1
  let s3 := s2.evtIf (!f.trip && s.b F.ITE_STAT_TRIP) 0x14 3
  let s4 := if f.permit ≠ s.g F.ITE_PERMIT_GRANT then (s3.p F.ITE_PERMIT_GRANT f.permit).evt 0x14 1 else s3
  if f.trip && cov.any (fun d => d.frame.gate == .tripClear) then s4.lost 0x14 63 else s4

/-! ## The slots and the gate -/

/-- The stages that a report shows accepted (R320, R327): the highest of those sent at or below LAST_TAG, as many as the bitmap has
bits, in the order of their slots. -/
def acceptedStages (sent : List (Option Nat × Stage)) (lastTag bitmap : Nat) : List (Nat × Stage) :=
  let slots := bitsBelow 8 bitmap
  let cand := (sent.map (·.2)).filter (fun st => tagGe lastTag st.tag)
  slots.zip (cand.drop (cand.length - slots.length))

/-- What a slot holds after the scan that a report covers, and the stages it shows committed and squashed there. -/
structure SlotStory where
  now : Option Stage
  committed : List Stage
  squashed : Nat
  deriving DecidableEq, Repr

/-- One slot rebuilt from the bitmaps (R327). Of two stages that left one slot, the older left it squashed where the slot was. -/
def slotStory (old new : Option Stage) (waiting com sq : Bool) : SlotStory :=
  let l := fun (o : Option Stage) => o.toList
  if waiting then { now := if new.isSome then new else old, committed := if com then l old else [], squashed := b2n sq }
  else match new with
    | none => { now := none, committed := if com then l old else [], squashed := b2n sq }
    | some st =>
      if sq && com then { now := none, committed := [st], squashed := 1 }
      else { now := none, committed := if com then l old ++ [st] else [], squashed := b2n sq }

/-- A slot register (R325). -/
def State.slotShown (s : State) (i : Nat) (o : Option Stage) : State :=
  let k := (F.CMG_SLOT_TAG i).key
  match o with
  | none => s.setWord k 0
  | some st =>
    (((((((s.setWord k 0).p (F.CMG_SLOT_TAG i) st.tag).p (F.CMG_SLOT_PCLASS i) st.pclass).pb (F.CMG_SLOT_RELEASE i) st.release).p
      (F.CMG_SLOT_VALID i) 1).pb (F.CMG_SLOT_RELEASED i) st.released).p (F.CMG_SLOT_OUT_MASK i) st.outMask).p
      (F.CMG_SLOT_OUT_VALUE i) st.outValue

/-- The highest of the tags in their order (R317). -/
def topTag (l : List Nat) : Option Nat :=
  l.foldl (fun (a : Option Nat) t => match a with | none => some t | some x => if tagGt t x then some t else some x) none

/-- CMG in a report (R326, R327, R331, R334), before DSE hears of it: the committed stages, and the pages. An arm that
a covered frame carried and that leaves the gate refusing was refused. -/
def State.cmgShadow (s : State) (f : InFrame) (cov : List Due) : List Stage × State :=
  let ops := cov.map (fun d => (d.frame.squash, d.frame.release))
  let acc := acceptedStages s.bar.sent f.lastTag f.accepted
  let stories := (List.range 8).map (fun i => slotStory (s.bar.shadow.getD i none) ((acc.find? (fun p => p.1 == i)).map (·.2))
    (f.waiting.testBit i) (f.committed.testBit i) (f.squashed.testBit i))
  let slots := ops.foldl (fun (l : List (Option Stage)) op =>
    match op.2 with | some r => releaseSlots r op.1 l | none => l) (stories.map SlotStory.now)
  let coms := (stories.map SlotStory.committed).flatten
  let tags := coms.map Stage.tag
  let arming := f.armed && !s.b F.CMG_STAT_ARMED
  let arms := (cov.filter (fun d => match d.frame.gate with | .arm _ => true | _ => false)).length
  let refused := if f.refusing && f.tableOk && (!s.b F.CMG_STAT_REFUSING || f.armIncomplete = s.b F.CMG_STAT_ARM_INCOMPLETE) then max arms (b2n (!s.b F.CMG_STAT_REFUSING)) else 0
  let s0 := if arming then ((s.p F.CMG_TAGS_COMMIT 0).p F.CMG_COUNT_COMMITS 0).p F.CMG_COUNT_SQUASHED 0 else s
  let s1 := ((((s0.pb F.CMG_STAT_ARMED f.armed).pb F.CMG_STAT_REFUSING f.refusing).pb F.CMG_STAT_DROPPED f.dropped).pb
    F.CMG_STAT_ARM_INCOMPLETE f.armIncomplete).p F.CMG_STAT_WAITING f.waiting
  let s2 := s1.p F.CMG_TAGS_LAST f.lastTag
  let top := match topTag (tags ++ (if s2.b F.CMG_COUNT_COMMITS then [s2.g F.CMG_TAGS_COMMIT] else [])) with
    | some t => s2.p F.CMG_TAGS_COMMIT t
    | none => s2
  let s3 := match (ops.filterMap (·.1)).getLast? with | some t => top.p F.CMG_TAGS_SQUASH t | none => top
  let nsq := (stories.map SlotStory.squashed).sum
  let s4 := (s3.addSat F.CMG_COUNT_COMMITS tags.length).addSat F.CMG_COUNT_SQUASHED nsq
  let s5 := slots.zipIdx.foldl (fun (x : State) p => x.slotShown p.2 p.1) s4
  let races := (ops.filter (fun op => match op.1, op.2 with | some t, some r => tagGe r t | _, _ => false)).length
  let s6 := (List.range (min races f.lostInc)).foldl (fun (x : State) _ => x.lost 0x15 32) s5
  let s7 := (List.range (f.lostInc - min races f.lostInc)).foldl (fun (x : State) _ => x.lost 0x15 63) s6
  let s8 := (((s7.evtIf (f.committed != 0) 0x15 0).evtIf (f.squashed != 0) 0x15 1).evtIf arming 0x15 2).evtIf (f.lostInc != 0) 0x15 4
  let s9 := (List.range refused).foldl (fun (x : State) _ => (x.evt 0x15 3).classInc 33) s8
  let accTags := acc.map (fun p => p.2.tag)
  let s10 : State := { s9 with
    bar := { s9.bar with
      shadow := slots, shadowArmed := f.armed || s9.bar.shadowArmed
      sent := s9.bar.sent.filter (fun p => !tagGe f.lastTag p.2.tag) }
    dse := { s9.dse with planned := s9.dse.planned.map (fun p => if accTags.contains p.tag then { p with accepted := true } else p) } }
  (coms, s10)

/-- A stage write that the report of its frame does not show accepted (R397, code 11). -/
def State.stagesJudged (s : State) : State :=
  let due := (s.bar.sent.filter (fun p => p.1 == some 0)).map (fun p => p.2.tag)
  let left := (s.bar.sent.filter (fun p => p.1 != some 0)).map (fun p => (p.1.map (fun n => n - 1), p.2))
  let s1 : State := { s with bar := { s.bar with sent := left } }
  match s1.dse.planned.find? (fun p => due.contains p.tag && !p.committed && !p.accepted) with
  | some p => s1.squashFrom p.tag 11
  | none => s1

/-- The gate is found disarmed though no disarm was commanded (R332). -/
def State.gateCheck (s : State) (f : InFrame) : State :=
  if f.armed || !s.bar.shadowArmed then (if f.armed then s else { s with bar := { s.bar with disarming := false } })
  else if s.bar.disarming then { s with bar := { s.bar with shadowArmed := false, disarming := false } }
  else (s.linkDown).shadowEmpty.dseGateLost

/-- A withdrawn permit, or a squash of a waiting stage for it, ends the test of the held channel (R291). -/
def State.sweepCheck (s before : State) (f : InFrame) : State :=
  if s.bar.sweep.isNone then s
  else
    let c := s.g F.FOUT_SWEEPSTAT_CHANNEL
    let withdrawn := (before.g F.ITE_PERMIT_GRANT).testBit c && !f.permit.testBit c
    let hit := (List.range 8).any (fun i => f.squashed.testBit i &&
      (match before.bar.shadow.getD i none with | some st => st.outMask.testBit c | none => false))
    if withdrawn || hit then s.sweepSkip else s

/-! ## Mode inputs, gather, table load -/

/-- Every mode input counts the frames that its level has stood (R57, R90). -/
def State.inputFrames (s : State) : State :=
  let inputs := s.g F.FIN_STATE_STATE
  let step := fun (p : ModeInput × Nat) =>
    let lvl := selActive (fld (s.g F.MOD_INSEL_SEL) (8 * p.2) 8) inputs
    if lvl = p.1.level then { p.1 with frames := satTo 16 (p.1.frames + 1) } else { p.1 with level := lvl, frames := 1 }
  { s with mod := { s.mod with inputs := s.mod.inputs.zipIdx.map step } }

/-- Gather results (R293 to R295): the newest covered frame asked for them, slot by slot; what a report does not answer is asked for
again. -/
def State.gatherShadow (s : State) (f : InFrame) (cov : List Due) : State :=
  let asked := (cov.getLast?.map Due.elems).getD []
  let older := (cov.dropLast.map Due.elems).flatten
  let pairs := asked.zip f.gather
  let answered := pairs.filter (fun p => p.2.valid || p.2.fault)
  let silent := asked.filter (fun i => !answered.any (fun p => p.1 == i))
  let s1 := answered.foldl (fun (x : State) p => x.gatherResult p.1 p.2) s
  ({ s1 with bar := s1.bar.gatherAgain (older ++ silent) } : State).gatherDeliver

/-- Chunks sent, and how the load ends on the Carapace (R312 step 5, R313). -/
def State.loadShadow (s : State) (f : InFrame) : State :=
  if s.g F.ITE_LOADSTAT_STATE ≠ 3 then s
  else
    let s1 := s.p F.ITE_LOADSTAT_CHUNK (640 - s.bar.chunks.length)
    if f.loadDone then s1.loadActive else if f.loadFail then s1.loadStops 0x08 true else s1

/-- The content of a valid inbound frame (R258 step 5), with the outbound frames that it covers. -/
def State.takeFrame (s : State) (f : InFrame) : State :=
  let silent := s.b F.FLD_STAT_SILENT
  let wasArmed := s.b F.CMG_STAT_ARMED
  let cov := s.bar.covered
  let s0 : State := { s with bar := s.bar.uncover }
  let s1 := (((((s0.p F.FLD_STAT_SILENT 0).p F.SYS_STAT_BARRIER_UP 1).fldShadow f).finEnables cov).finShadow f.inputs f.edges).fcntShadow f
    (s.unitsReset f cov)
  let s2 := (s1.foutShadow f).loadShadow f
  let s3 := s2.iteShadow f cov
  let c := s3.cmgShadow f cov
  let s4 := ((((c.2.foutJudge f cov wasArmed c.1).stagesJudged).gateCheck f).sweepCheck s f)
  let s5 := if silent && f.dropped then ((s4.evt 0x10 1).lost 0x10 27).keeperArms else s4
  let s6 := (s5.gatherShadow f cov).inputFrames
  let s7 := s6.carFrame f.edges
  let s8 := if s6.b F.CAR_STAT_VALID && !s7.b F.CAR_STAT_VALID then s7.squashAll 6 else s7
  let s9 := ((s8.doorFrame 0).doorFrame 1).commitReport (c.1.map Stage.tag) f.permit
  let sel := s9.g F.DSE_CFG_FULL_IN
  let s10 := s9.pb F.DSE_STAT_FULL (selActive sel f.inputs)
  if s9.b F.DSE_STAT_FULL = s10.b F.DSE_STAT_FULL then s10 else s10.passDue

/-- One inbound slot (R258 steps 5 to 7). No frame comes while the Carapace is off or in field-watch. Each die takes the acknowledge word that
reaches it (R261). -/
def State.inbound (s : State) (env : InEnv) : State :=
  let c := s.cpc
  let talks := c.on && !c.fieldWatch
  let valid := env.frameOk && talks
  let f := c.inFlight
  let repeated := f.retry && s.bar.lastInSeq == some f.seq
  let s0 : State := { s with
    logUpsets := s.logUpsets ++ env.logUpsets, car := { s.car with frame := s.car.frame + 1 }
    bar := { s.bar with unitAge := s.bar.unitAge.map (fun n => n + 1) } }
  let s1 :=
    if !valid then s0.inFailed
    else
      let x : State := { s0 with bar := { s0.bar with inFails := 0, lastInSeq := some f.seq } }
      if repeated then (x.p F.FLD_STAT_SILENT 0).p F.SYS_STAT_BARRIER_UP 1
      else
        let y := if s0.bar.inFails = 1 && f.retry then (x.transient 0x10 0).bump (hdrTrouble 8 0) else x
        y.takeFrame f
  let s2 : State := if talks then { s1 with cpc := s1.cpc.inAck (ackCross env.ackIn valid f.seq f.seq) } else s1
  s2.outAck (c.on && ackCross env.ackOut c.heardOut (c.lastOutSeq.getD 0) s.bar.out.seq) (!valid && s2.cpc.repeatIn)

/-- INBOUND_FRAME (R258). The link carries frames from boot step F1 on, outside Watch. -/
def effInboundFrame (env : InEnv) (s : State) : State :=
  if s.linkRuns then (s.inbound env).haltGuard else s

/-- SILENCE_DROP (R27): the Carapace's own timer. In Watch the Carapace does not apply it (R162). -/
def effSilenceDrop (s : State) : State := if s.cpc.on then { s with cpc := s.cpc.silenceDrop } else s

/-- BARRIER_SILENCE (R29, R266), with what it ends: a sweep (R292), a gather (R296), a table load (R313). -/
def effBarrierSilence (s : State) : State :=
  if s.linkRuns then
    let s1 := ((s.p F.FLD_STAT_SILENT 1).p F.SYS_STAT_BARRIER_UP 0).lost 0x10 26
    (((s1.linkDown).sweepAbort.gatherAbort).loadStops 0x09 false)
  else s

/-! ## Watch (R162, R268, R274) -/

/-- A pulsed sample in field-watch reaches every filter, and each filter that is met flips (R274). -/
def Carapace.watchSample (c : Carapace) (raw : Nat) : Carapace :=
  (List.range 32).foldl (fun (x : Carapace) i => x.filterChange i) (c.sampleInputs raw (fun _ => true))

/-- The outbound watch frame of the slot (R261 to R263, R268): new, or the repeat of one that was not acknowledged. -/
def State.watchOut (s : State) (lanes : WatchLanes) : State :=
  let again := s.bar.watchLink.outFails = 1
  let seq := if again then s.bar.watchLink.seq else (s.g F.FLD_SEQ_OUT + 1) % 65536
  let fails := fun (x : State) (n : Nat) => { x with bar := { x.bar with watchLink := { x.bar.watchLink with seq := seq, outFails := n } } }
  let s1 := s.p F.FLD_SEQ_OUT seq
  if ackCross lanes.ackOut lanes.outOk seq seq then (if again then (fails s1 0).transient 0x10 2 else fails s1 0)
  else if again then ((fails s1 0).lasting 0x10 3).evt 0x10 2
  else fails s1 1

/-- The Carapace in a watch slot (R268, R274): it samples every input, and sends a new frame or repeats the last one. -/
def Carapace.watchSlot (c : Carapace) (raw : Nat) (vfldOk : Bool) : Carapace :=
  let d : Carapace := { ({ c with micros := c.micros + 10000 } : Carapace).watchSample raw with vfldOk := vfldOk }
  if c.watchRepeat then d else { d with inSeq := (d.inSeq + 1) % 65536, watchVfld := d.vfldOk, watchStates := d.filt }

/-- The acknowledge word for the inbound watch frame: changes that it showed have been carried (R264, R268). -/
def Carapace.watchAck (c : Carapace) (ok : Bool) : Carapace :=
  { c with watchRepeat := !ok && !c.watchRepeat, watchEdges := if ok then c.filt ^^^ c.watchStates else c.watchEdges }

/-- The inbound watch frame at the logic die (R261 to R263, R268, R274): each state that differs from the one before sets its edge. -/
def State.watchIn (s : State) (ok : Bool) : State :=
  let c := s.cpc
  let link := s.bar.watchLink
  let fails := fun (n : Nat) => { s with bar := { s.bar with watchLink := { link with inFails := n } } }
  if !ok then (if link.inFails = 0 then fails 1 else (fails 0).inLasting)
  else if c.watchRepeat && link.last == some c.inSeq then fails 0
  else
    let x : State := { s with bar := { s.bar with watchLink := { link with inFails := 0, last := some c.inSeq } } }
    let y := if link.inFails = 1 && c.watchRepeat then (x.transient 0x10 0).bump (hdrTrouble 8 0) else x
    ((y.p F.FLD_SEQ_IN c.inSeq).finShadow c.watchStates (y.g F.FIN_STATE_STATE ^^^ c.watchStates)).vfldShown c.watchVfld

/-- A watch frame crosses in each direction (R162, R268, R274); `late` says that more than 30 ms passed since the last one, which is counted
on the wake. -/
def effWatchFrame (lanes : WatchLanes) (raw : Nat) (vfldOk late : Bool) (s : State) : State :=
  if !(s.wake.watch && s.cpc.on && s.cpc.fieldWatch) then s
  else
    let s1 := s.watchOut lanes
    let s2 : State := { s1 with cpc := s1.cpc.watchSlot raw vfldOk, bar := { s1.bar with watchGap := s1.bar.watchGap || late } }
    let s3 := s2.watchIn lanes.inOk
    { s3 with cpc := s3.cpc.watchAck (ackCross lanes.ackIn lanes.inOk s2.cpc.inSeq s2.cpc.inSeq) }

/-! ## Field-side events of the Carapace -/

/-- TABLE_LOAD_DONE (R312 step 6). -/
def effTableLoadDone (s : State) : State :=
  if s.g F.ITE_LOADSTAT_STATE = 4 && s.keeperServes then s.loadFinish else s

end Sys2Proof.Machine
end

