-- ==== Sys2Proof/Machine/Emc.lean ====
section
/-!
DEFINITION. Sys2Proof/Machine/Emc.lean: external memory: training (R589, R590), the partitions and the check region (R591, R595),
keys (R542, R615), the scrub (R597, R598), refused accesses (R596).
-/
namespace Sys2Proof.Machine
open Sys2Proof

/-- The device size in MiB behind a density code (R590). -/
def deviceMib : Nat → Nat | 1 => 256 | 2 => 512 | 3 => 1024 | 4 => 2048 | _ => 0

/-- The declaration of LPDDR4X in the management configuration (R590, R649): the byte after the images of MGT_CFG, MGT_ADDR0,
MGT_ADDR1, MGT_GW0 and MGT_GW1 (log entry 25). -/
def State.declared4x (s : State) : Bool := bitAt (leAt s.nvm.mgtConfig 40 1) 0

/-- Training in boot step 4 or on the return of VDDQ (R589, R590): whether EMC runs, and what it leaves. -/
def State.train (s : State) (t : Training) : Bool × State :=
  let s0 : State := { s with wake := { s.wake with ddrResetN := true } }
  let s1 := s0.pb F.EMC_CFG_LP4X s.declared4x
  let dev := deviceMib t.density
  let size := fun (x : State) => (x.p F.EMC_SIZE_DEVICE_MIB dev).p F.EMC_SIZE_DATA_MIB (dev * 7 / 8)
  if dev = 0 || !s.b F.PWR_STAT_VDDQ_OK then
    (false, ((size (s1.p F.EMC_CFG_DENSITY 0)).p F.EMC_STAT_TRAINED 0).emcShown)
  else
    let s2 := size (s1.p F.EMC_CFG_DENSITY t.density)
    match t.attempts with
    | .first => (true, ((((s2.p F.EMC_TRAIN_STEP 5).p F.EMC_TRAIN_FAIL 0).p F.EMC_STAT_TRAINED 1).evt 0x2b 2).emcShown)
    | .second =>
      (true, (((((s2.p F.EMC_TRAIN_STEP 5).p F.EMC_TRAIN_FAIL 0).p F.EMC_STAT_TRAINED 1).transient 0x2b 22).evt 0x2b 2).emcShown)
    | .lasting =>
      (false, ((((((s2.p F.EMC_TRAIN_STEP (t.failedStep - 1)).p F.EMC_TRAIN_FAIL t.failedStep).p F.EMC_STAT_TRAINED 0).lasting 0x2b
        23).evt 0x2b 2).evt 0x2b 0).emcShown)

/-! ## Keys and contents -/

/-- Keeper derives the EMC key of a tenant and delivers it (R542), after the root's own check (R553); without an Operational Root
there is none. -/
def State.emcDeliver (s : State) (t : Nat) : State :=
  let q := s.rootCheck
  { q.2 with emc := { q.2.emc with delivered := if q.1 then q.2.bat.opRoot.map (fun r => (t, q.2.ctr 5, q.2.ctr 6, r)) else none } }

/-- The contents of external memory become unreadable: every unlisted byte reads as a fresh fill (log entry 5). -/
def State.freshFill (s : State) : State :=
  { s.dropExt with memFill := s.freeCount + 2, freeCount := s.freeCount + 1 }

/-- EMC loads the key delivered to it (R615). Under another key than the contents were written with, they are unreadable. -/
def State.emcLoadKey (s : State) : State :=
  match s.emc.delivered with
  | none => s
  | some k =>
    let s1 := if s.emc.written = some k then s else s.freshFill
    { s1 with emc := { s1.emc with key := some k, written := some k } }.emcShown

/-- A scrub starts (R597): EMC is stopped while it runs. -/
def State.scrubStart (s : State) : State :=
  if s.emc.key.isNone || !s.b F.EMC_STAT_TRAINED then s
  else
    (((({ s with emc := { s.emc with scrubOwed := false } }.p F.EMC_SCRUB_DONE_MIB 0).p F.EMC_SCRUB_RUNNING 1).p
      F.EMC_STAT_SCRUBBING 1).emcShown)

/-- The scrub ends (R597): the data region holds zeros under the loaded key. -/
def State.scrubEnd (s : State) : State :=
  let s1 : State := { s.dropExt with memFill := 0, emc := { s.emc with written := s.emc.key } }
  ((((s1.p F.EMC_SCRUB_DONE_MIB (s.g F.EMC_SIZE_DATA_MIB)).p F.EMC_SCRUB_RUNNING 0).p F.EMC_STAT_SCRUBBING 0).evt 0x2b 1).emcShown

/-! ## Accesses -/

/-- A right to external memory: Keeper load, Keeper store, PKG read. -/
inductive EmcRight where
  | keeperLoad | keeperStore | pkgRead
  deriving DecidableEq, Repr

/-- The size of the fitted device in bytes: the external region of R42. -/
def State.extSize (s : State) : Nat := s.g F.EMC_SIZE_DEVICE_MIB * 2 ^ 20
def State.region (s : State) (a : Nat) : Region := regionOf s.extSize a

/-- A partition grants a right. -/
def State.partGrants (s : State) (i : Nat) (r : EmcRight) : Bool :=
  match r with
  | .keeperLoad => s.b (F.EMC_PART_KR i)
  | .keeperStore => s.b (F.EMC_PART_KW i)
  | .pkgRead => s.b (F.EMC_PART_PR i)

/-- The partition that decides an address: the lowest-numbered one that holds it (R595). -/
def State.partOf (s : State) (a : Nat) : Option Nat :=
  (List.range 4).find? (fun i =>
    let lo := 0x80000000 + s.g (F.EMC_PART_BASE i) * 2 ^ 24
    decide (lo ≤ a) && decide (a < lo + s.g (F.EMC_PART_SIZE i) * 2 ^ 24))

/-- Why an access to external memory is not served: EMC stopped (class 58, R596); the check region or no granting partition (class
63, R591, R595). -/
def State.emcRefuses (s : State) (a : Nat) (r : EmcRight) : Option Nat :=
  if s.emcStops then some 58
  else if s.g F.EMC_SIZE_DATA_MIB * 2 ^ 20 ≤ a - 0x80000000 then some 63
  else match s.partOf a with
    | some i => if s.partGrants i r then none else some 63
    | none => some 63

/-- What ECC does to a read of a unit (R593): corrections and outcomes are counted; a lasting failure leaves nothing to use. -/
def State.eccRead (s : State) (a : Nat) (e : Ecc) : Bool × State :=
  match e with
  | .ok => (true, s)
  | .corrected => (true, s.bump F.EMC_ECC_CORRECTED)
  | .transient => (true, (s.bump F.EMC_ECC_UNCORR).transient 0x2b 4)
  | .lasting => (false, ((((s.bump F.EMC_ECC_UNCORR).lasting 0x2b 5).p F.EMC_ERRADDR_ADDR (a / 32 * 32)).evt 0x2b 0))

/-- A Keeper load of `n` bytes from external memory (R593, R595, R596). -/
def State.extLoad (s : State) (a n : Nat) (e : Ecc) : Nat × State :=
  match s.emcRefuses a .keeperLoad with
  | some c => (0, s.lost 0x2b c)
  | none =>
    let r := s.eccRead a e
    (if r.1 then s.loadLe a n else 0, r.2)

/-- A Keeper store of `n` bytes: a write narrower than a data unit reads the unit first (R592, R593). -/
def State.extStore (s : State) (a n v : Nat) (e : Ecc) : State :=
  match s.emcRefuses a .keeperStore with
  | some c => s.lost 0x2b c
  | none =>
    let r := s.eccRead a e
    if r.1 then r.2.storeLe a n v else r.2

/-- Keeper writes a block of bytes from an address, in accesses of eight bytes; a refused access is counted (R167, R595, R596). -/
def State.extFill (s : State) (a : Nat) (b : List Byte) : State :=
  match s.emcRefuses a .keeperStore with
  | some c => (List.range ((b.length + 7) / 8)).foldl (fun (x : State) _ => x.lost 0x2b c) s
  | none => s.putBytes a b

/-! ## The commands -/

/-- VDDQ_LOSS (R167, R598). -/
def effVddqLoss (s : State) : State :=
  if !s.b F.PWR_STAT_VDDQ_OK then s
  else
    let owed := s.b F.EMC_SCRUB_RUNNING || s.emc.scrubOwed
    let s1 := ((s.p F.PWR_STAT_VDDQ_OK 0).evtIf (!s.wake.inReset) 2 2).p F.EMC_STAT_TRAINED 0
    (((({ s1 with emc := { s1.emc with scrubOwed := owed } }.p F.EMC_SCRUB_RUNNING 0).p F.EMC_STAT_SCRUBBING 0).emcShown))

/-- Training as in boot step 4, with the tenant's EMC key after it (R167, R178); while tenancy is Molting no tenant is current. -/
def State.emcStart (s : State) (t : Training) : Bool × State :=
  let r := s.train t
  if r.1 && r.2.tenancy != .molting then (true, (r.2.emcDeliver r.2.tenantNo).emcLoadKey) else r

/-- VDDQ_RETURN (R167): Keeper retrains EMC as in boot step 4, if it runs; a stopped scrub starts again (R598). -/
def effVddqReturn (t : Training) (s : State) : State :=
  if s.b F.PWR_STAT_VDDQ_OK then s
  else
    let s1 := (s.p F.PWR_STAT_VDDQ_OK 1).evtIf (!s.wake.inReset) 2 2
    let s2 := if s1.b F.SYS_STAT_FENCE_UP then (s1.emcStart t).2 else s1
    (if s2.emc.scrubOwed then s2.scrubStart else s2)

/-- EMC_REFRESH (R589): an all-bank refresh while EMC runs; in Watch the device refreshes itself. -/
def effEmcRefresh (s : State) : State :=
  if s.b F.EMC_STAT_TRAINED && !s.b F.EMC_STAT_SELFREF then { s with emc := { s.emc with refreshes := s.emc.refreshes + 1 } } else s

/-- EMC_KEYCTL written by Keeper (R615): load, clear, scrub. -/
def State.emcKeyctl (s : State) (load clear scrub : Bool) : State :=
  let s1 := if load then s.emcLoadKey else s
  let s2 := if clear then s1.emcKeyClear else s1
  if scrub then s2.scrubStart else s2

end Sys2Proof.Machine
end

