-- ==== Sys2Proof/Machine/Lva.lean ====
section
/-!
DEFINITION. Sys2Proof/Machine/Lva.lean: applets: the image and its checks (R530, R532), residency (R531, R533, R534), the queue of
invocations (R520, R522), the end of an entry (R518, R522).
-/
namespace Sys2Proof.Machine
open Sys2Proof

/-! ## The image (R530) -/

def imgTenant (b : List Byte) : Nat := leAt b 0x06 1
def imgVersion (b : List Byte) : Nat := leAt b 0x08 4
def imgSerial (b : List Byte) : Nat := leAt b 0x10 8
def imgCodeLen (b : List Byte) : Nat := leAt b 0x20 4
def imgDataLen (b : List Byte) : Nat := leAt b 0x24 4
def imgBssLen (b : List Byte) : Nat := leAt b 0x28 4
def imgInOff (b : List Byte) : Nat := leAt b 0x2c 2
def imgInCap (b : List Byte) : Nat := leAt b 0x2e 2
def imgEntry (b : List Byte) (k : Nat) : Nat := leAt b (0x30 + 2 * k) 2
def imgTickMs (b : List Byte) : Nat := leAt b 0x36 2
def imgGrantSvc (b : List Byte) : Nat := leAt b 0x38 4
def imgGrantMod (b : List Byte) : Nat := leAt b 0x3c 2
def imgJobs (b : List Byte) : List Nat := (List.range 4).map (fun k => leAt b (0x40 + 2 * k) 2)
def imgPagew (b : List Byte) : List Nat := (List.range 8).map (fun k => leAt b (0x48 + 4 * k) 4)
def imgCode (b : List Byte) : List Byte := slice b 128 (imgCodeLen b)
def imgData (b : List Byte) : List Byte := slice b (128 + imgCodeLen b) (imgDataLen b)

/-- The rules of the header's fields and the image length (R530). -/
def imgHeaderOk (b : List Byte) : Bool :=
  let zero := fun (at_ n : Nat) => leAt b at_ n == 0
  let code := imgCodeLen b
  leAt b 0 4 == 0x41564c51 && leAt b 4 2 == 1 && imgTenant b < 2 && zero 7 1 && zero 0xc 4 &&
  code % 4 == 0 && 4 ≤ code && code ≤ 32768 && imgDataLen b + imgBssLen b ≤ 16384 &&
  imgInOff b % 8 == 0 && imgInOff b + imgInCap b ≤ 16384 &&
  (List.range 3).all (fun k => imgEntry b k == 0xffff || (imgEntry b k % 4 == 0 && imgEntry b k < code)) &&
  imgGrantMod b &&& 0xfb07 == 0 && zero 0x3e 2 && (imgPagew b).all (fun w => w / 2 ^ 20 == 0) && zero 0x68 24 &&
  b.length == 224 + code + imgDataLen b

/-- Job numbers that exist: CB0's 0 to 15, CB1's 0x100 to 0x13F (R441). -/
def jobNumberOk (j : Nat) : Bool := j < 16 || (0x100 ≤ j && j < 0x140)

/-- A PAGEW entry that no load accepts (R532, cause 7). -/
def pagewBad (w : Nat) : Bool :=
  if w = 0 then false
  else
    let page := w % 256
    let off := fld w 8 12 * 8
    0x30 ≤ page || (rowsOf page).isEmpty ||
    (match rowAt page off with | some r => r.wcol == 4 || r.wcol == 7 | none => false)

/-- The first check of R532 that fails, before the store to secure NVM. -/
def State.appletCause (s : State) (slot : Nat) (img : List Byte) (ck : LoadCheck) : Option Nat :=
  let life := s.life
  if s.tenancy == .molting || s.zeroized || !(life == .provisioned || life == .deployed) then some 0x08
  else if !imgHeaderOk img then some 0x01
  else if imgSerial img ≠ 0 && BitVec.ofNat 64 (imgSerial img) != s.fuse.serial then some 0x02
  else if imgTenant img ≠ s.tenantNo then some 0x03
  else if imgTenant img = 1 && (s.g F.LVA_RESV_SLOTS).testBit slot then some 0x05
  else if !s.slotValid (slotApplet (imgTenant img)) || !ck.signatureOk then some 0x04
  else if (imgPagew img).any pagewBad || (imgJobs img).any (fun j => j != 0xffff && !jobNumberOk j) then some 0x07
  else if !ck.writeOk then some 0x06
  else none

/-! ## Slots and the queue -/

/-- The stored image of a slot. -/
def State.appletImage (s : State) (slot : Nat) : Option (List Byte) := (s.nvm.applets.find? (fun p => p.1 == slot)).map (·.2)
def State.resident (s : State) (slot : Nat) : Bool := (s.g F.LVA_STAT_RESIDENT).testBit slot
def State.slotFaulted (s : State) (slot : Nat) : Bool := (s.g F.LVA_STAT_FAULTED).testBit slot

/-- The addresses of a slot's code and data areas (R502). -/
def codeBase (slot : Nat) : Nat := 0x28040000 + slot * 0x8000
def dataBase (slot : Nat) : Nat := 0x20020000 + slot * 0x4000

/-- LVA_STAT.QUEUED follows the queue. -/
def State.lvaQueue (s : State) (q : List Invocation) : State :=
  ({ s with lva := { s.lva with queue := q } }).p F.LVA_STAT_QUEUED q.length

/-- The sender of a Message entry is told that it was refused (R519, R641). -/
def State.refuseSender (s : State) (v : Invocation) : State :=
  if v.kind = 1 && v.channel < 0x1000 then s.respond v.channel v.tag 0x20 3 0 [] else s

/-- An invocation arrives (R519, R522): dropped and counted where the slot is faulted or the queue is full. An entry that the header
does not have is not invoked (R521). -/
def State.invoke (s : State) (v : Invocation) : State :=
  match s.appletImage v.slot with
  | none => (s.lost 0x36 63).refuseSender v
  | some img =>
    if s.slotFaulted v.slot || !s.resident v.slot then (s.lost 0x36 63).refuseSender v
    else if imgEntry img v.kind = 0xffff then s.refuseSender v
    else if 32 ≤ s.lva.queue.length then (s.lost 0x36 63).refuseSender v
    else s.lvaQueue (s.lva.queue ++ [v])

/-- Every handle of a slot closes (R527). -/
def State.closeApplet (s : State) (slot : Nat) : State :=
  { s with key := { s.key with handles := s.key.handles.filter (fun h => h.applet != slot) } }

/-- The registers of a slot show its header. -/
def State.slotHeader (s : State) (slot : Nat) (img : List Byte) : State :=
  ((((s.p (F.LVA_SLOT_TENANT slot) (imgTenant img)).p (F.LVA_SLOT_VERSION slot) (imgVersion img)).p (F.LVA_SIZE_CODE_LEN slot)
    (imgCodeLen img)).p (F.LVA_SIZE_DATA_LEN slot) (imgDataLen img)).p (F.LVA_SIZE_BSS_LEN slot) (imgBssLen img)

/-- A residency start (R531). -/
def State.residencyStart (s : State) (slot : Nat) : State :=
  match s.appletImage slot with
  | none => s
  | some img =>
    let s1 := ((s.closeApplet slot).dropRange (dataBase slot) (dataBase slot + 0x4000)).putBytes (dataBase slot) (imgData img)
    let s2 := (((s1.slotHeader slot img).p (F.LVA_STAT_RESIDENT.bit slot) 1).p (F.LVA_STAT_FAULTED.bit slot) 0).p
      (F.LVA_SLOT_STATE slot) 2
    let s3 : State := { s2 with lva := { s2.lva with ticks := s2.lva.ticks.set slot 0 } }
    s3.invoke { slot := slot, kind := 0, channel := 0, tag := 0, data := [] }

/-- A slot stops being resident: its handles close and ATT clears its entry (R527, R600). -/
def State.residencyEnd (s : State) (slot : Nat) : State :=
  if s.resident slot then
    ((((s.closeApplet slot).p (F.LVA_STAT_RESIDENT.bit slot) 0).p (F.LVA_SLOT_STATE slot) 1).measClear (6 + slot))
  else s

/-- Invocations of a slot leave the queue, each counted and refused to its sender (R519). -/
def State.dropQueued (s : State) (hit : Invocation → Bool) : State :=
  let gone := s.lva.queue.filter hit
  gone.foldl (fun (x : State) v => (x.lost 0x36 63).refuseSender v) (s.lvaQueue (s.lva.queue.filter (fun v => !hit v)))

/-- The core leaves the applet's entry: it is at Keeper privilege again, with no exception in hand, at a place of Keeper's code that
the manual does not give (a free value). -/
def State.leaveEntry (s : State) : State :=
  let s1 := ((((s.p F.KPX_STATUS_PRIV 0).p F.KPX_STATUS_INTRAP 0).p F.LVA_STAT_BUSY 0).p F.LVA_STAT_RUNNING 0)
  let d := s1.draw
  { d.2 with lva := { d.2.lva with running := none, given := 0 }, core := { d.2.core with pc := d.1 &&& ~~~(3 : Word) } }

/-- The running entry ends, reported to its sender as refused (R533, R534). -/
def State.entryRefused (s : State) : State :=
  match s.lva.running with
  | none => s
  | some v => ((s.leaveEntry).p (F.LVA_SLOT_STATE v.slot) 2).refuseSender v

/-- The running entry faults (R518). -/
def State.entryFaulted (s : State) (cause offset : Nat) : State :=
  match s.lva.running with
  | none => s
  | some v =>
    let s1 := ((((((s.leaveEntry).p (F.LVA_SLOT_STATE v.slot) 4).p (F.LVA_STAT_FAULTED.bit v.slot) 1).p (F.LVA_FAULT_CAUSE v.slot)
      cause).bump (F.LVA_FAULT_COUNT v.slot)).p (F.LVA_FAULT_TRAPPC v.slot) offset).evt 0x36 1
    (s1.refuseSender v).dropQueued (fun w => w.slot == v.slot)

/-- The running entry completes with EXIT (R525): a Message entry's result goes to its sender; a Tick entry uses up the ticks it was
given. -/
def State.entryExit (s : State) (x1 : Nat) : State :=
  match s.lva.running with
  | none => s
  | some v =>
    let s0 : State := if v.kind = 2 then
      { s with lva := { s.lva with ticks := s.lva.ticks.set v.slot (s.lva.ticks.getD v.slot 0 - s.lva.given) } } else s
    let s1 := ((s0.leaveEntry).p (F.LVA_SLOT_STATE v.slot) 2).bump (F.LVA_RUN_ENTRIES v.slot)
    if v.kind = 1 && v.channel < 0x1000 then s1.respond v.channel v.tag 0x20 0 0 (leBytes 2 x1) else s1

/-! ## Loading (R532, R533) -/

/-- The steps of R533 on an image that has passed its checks. -/
def State.appletStore (s : State) (slot : Nat) (img : List Byte) : State :=
  let s1 := match s.lva.running with | some v => if v.slot = slot then s.entryRefused else s | none => s
  let s2 := s1.residencyEnd slot
  let s3 : State := { s2 with nvm := { s2.nvm with
      applets := (slot, img) :: s2.nvm.applets.filter (fun p => p.1 != slot) } }
  let s4 := (s3.dropRange (codeBase slot) (codeBase slot + 0x8000)).putBytes (codeBase slot) (imgCode img)
  let s5 := s4.measure (6 + slot) (Config.sha384 (img.take (img.length - 96))) (imgVersion img)
  s5.residencyStart slot

/-- LVA sequence 1 on an image (R532): whether it is loaded, with LVA_LOADSTAT. -/
def State.appletLoad (s : State) (slot : Nat) (img : List Byte) (ck : LoadCheck) : State :=
  match s.appletCause slot img ck with
  | some c => ((s.p F.LVA_LOADSTAT_STATE 4).p F.LVA_LOADSTAT_CAUSE c).evt 0x36 0
  | none => (((s.p F.LVA_LOADSTAT_STATE 3).p F.LVA_LOADSTAT_CAUSE 0).appletStore slot img).evt 0x36 0

/-- The image that lies at an address of on-chip SRAM: its length is what its own header states (R530, R532). -/
def State.imageAt (s : State) (a : Nat) : List Byte :=
  let h := s.bytes a 128
  s.bytes a (224 + min 32768 (imgCodeLen h) + min 16384 (imgDataLen h))

/-- Residency starts for every stored slot of a tenant whose image passes, each measured (R178 step 5, R531, R583 step 8). The
result shows whether every one passed. -/
def State.startApplets (s : State) (t : Nat) (oks : List Bool) : State :=
  (List.range 8).foldl (fun (x : State) slot =>
    match x.appletImage slot with
    | none => x
    | some img =>
      let y := (x.slotHeader slot img).p (F.LVA_SLOT_STATE slot) 1
      if imgTenant img = t && oks.getD slot true && x.slotValid (slotApplet t) then
        (y.measure (6 + slot) (Config.sha384 (img.take (img.length - 96))) (imgVersion img)).residencyStart slot
      else y) s

/-- A Molt reset on LVA (R534, R539): no slot is resident, and tick and message invocations are dropped. -/
def State.lvaMolt (s : State) : State :=
  let s1 := s.entryRefused
  let s2 := s1.dropQueued (fun v => v.kind != 0)
  let s3 := s2.lvaQueue []
  (List.range 8).foldl (fun (x : State) slot => x.residencyEnd slot) s3

/-! ## The commands -/

/-- APPLET_TICK (R520, R522): a tick falls due for a resident slot with TICK_MS not 0. -/
def effAppletTick (slot : Nat) (s : State) : State :=
  match s.appletImage slot with
  | none => s
  | some img =>
    if !s.resident slot || imgTickMs img = 0 then s
    else
      let s1 : State := { s with lva := { s.lva with ticks := s.lva.ticks.set slot (s.lva.ticks.getD slot 0 + 1) } }
      if s1.lva.queue.any (fun v => v.slot == slot && v.kind == 2) then s1
      else (s1.invoke { slot := slot, kind := 2, channel := 0, tag := 0, data := [] })

/-- The register values of an entry (R521). -/
def entryRegs (v : Invocation) (ticks : Nat) : List Word :=
  let r := fun (i : Nat) => if i = 1 then v.kind else if i = 2 then
      (if v.kind = 0 then v.slot else if v.kind = 1 then v.channel else ticks)
    else if i = 3 then (if v.kind = 1 then v.data.length else 0) else if i = 15 then 0x14000 else 0
  (List.range 16).map (fun i => BitVec.ofNat 64 (r i))

/-- APPLET_ENTRY (R521, R522): Keeper starts the first entry of the queue when none runs and the core is free to. -/
def effAppletEntry (s : State) : State :=
  match s.lva.queue with
  | [] => s
  | v :: rest =>
    if s.lva.running.isSome || s.power != .run || s.b F.KPX_STAT_LOCKUP || !s.b F.SYS_STAT_FENCE_UP then s
    else match s.appletImage v.slot with
      | none => s.lvaQueue rest
      | some img =>
        let s1 := s.lvaQueue rest
        let ticks := s1.lva.ticks.getD v.slot 0
        let s2 := if v.kind = 1 then s1.putBytes (dataBase v.slot + imgInOff img) (v.data.take (imgInCap img)) else s1
        let s3 := ((((s2.p (F.LVA_SLOT_STATE v.slot) 3).p F.LVA_STAT_RUNNING v.slot).p F.LVA_STAT_BUSY 1).p F.KPX_ASLOT_SLOT
          v.slot).p F.KPX_ASLOT_MAPPED 1
        let s4 := (((s3.p F.KPX_STATUS_PRIV 1).p F.KPX_STATUS_RETPRIV 1).p F.KPX_STATUS_INTRAP 0).p F.KPX_TRAPPC_PC (imgEntry img v.kind)
        { s4 with
          core := { s4.core with x := entryRegs v ticks, pc := BitVec.ofNat 64 (imgEntry img v.kind), idle := false, held := false }
          lva := { s4.lva with running := some v, given := if v.kind = 2 then ticks else 0 } }

end Sys2Proof.Machine
end

