-- ==== Sys2Proof/Machine/Access.lean ====
section
/-!
DEFINITION. Sys2Proof/Machine/Access.lean: accesses to the page space (R119 to R144): which pages and columns grant an accessor,
what a register reads with the copies it shows, the common header, the windows of R135, locked sequences (R136 to R141), the
violation rule (R142, R143) and the site record (R181).
-/
namespace Sys2Proof.Machine
open Sys2Proof

/-! ## Pages and columns -/

/-- A Karpex-owned page (R118, R123). -/
def karpexPage (page : Nat) : Bool := decide (0x30 ≤ page)

/-- Keeper, for itself or on behalf of a management session (R113). -/
def isKeeper : Accessor → Bool | .keeper => true | .mgmt => true | _ => false

/-- The page space is clocked by PCLK (R153): it takes accesses while the PLL is locked, outside Watch and power-on reset. -/
def State.clocked (s : State) : Bool := s.canLive

/-- A column grants a read of a page (R114, R115, R118, R150). Column 9 stands for the Karpex-owned pages. -/
def State.mayRead (s : State) (acc : Accessor) (col page : Nat) : Bool :=
  if karpexPage page then isKeeper acc
  else
    let g := s.g (F.SYS_PAM_GRANTS col)
    match acc with
    | .host => g.testBit 0 && (!g.testBit 8 || page == 0x28)
    | .hostCmd => (s.pamGrantsFor true false col).testBit 0
    | .keeper => g.testBit 2
    | .mgmt => g.testBit 2
    | .applet => g.testBit 4
    | .debug => g.testBit 6

/-- A column grants a write to a page. A management session always passes SYS_PAM5; SYS_PAM7 grants PKG by its SUB bit (R114). -/
def State.mayWrite (s : State) (acc : Accessor) (col page : Nat) : Bool :=
  if karpexPage page then isKeeper acc
  else
    let g := s.g (F.SYS_PAM_GRANTS col)
    match acc with
    | .host => g.testBit 1 && (!g.testBit 8 || page == 0x28)
    | .hostCmd => (s.pamGrantsFor true false col).testBit 1
    | .keeper => if col = 7 && page = 0x1c then g.testBit 9 else g.testBit 3
    | .mgmt => if col = 7 && page = 0x1c then g.testBit 9 else g.testBit 3 || col == 5
    | .applet => false
    | .debug => false

/-- The accessor reaches the page at all (R115, R123): SYS_PAM0 is what every page access of the host rests on. -/
def State.reaches (s : State) (acc : Accessor) (page : Nat) : Bool :=
  match acc with
  | .applet => false
  | .debug => false
  | _ => s.mayRead acc 0 page

/-- The columns of a register: its row's, with the T0 registers and groups of R251. -/
def readCol (page off : Nat) : Nat :=
  if page = 5 && ((0x100 ≤ off && off < 0x140) || (0x180 ≤ off && off < 0x1c0)) then 7
  else match rowAt page off with | some r => r.rcol | none => 0
def writeCol (page off : Nat) : Nat :=
  if page = 5 && 0x400 ≤ off && off < 0x600 && off % 0x40 = 0 then 7
  else if page = 5 && off = 0x90 then 8
  else match rowAt page off with | some r => r.wcol | none => 8

/-! ## Windows (R135) -/

def State.windowOf (s : State) (page : Nat) : Option Window :=
  match page with
  | 0x18 => some s.carWin
  | 0x1b => some s.callWin
  | 0x21 => some s.jobWin
  | 0x31 => some s.keyWin
  | _ => none
def Window.get (w : Window) : Accessor → Nat
  | .host => w.host
  | .hostCmd => w.host
  | .debug => w.debug
  | _ => w.keeper
def Window.put (w : Window) (acc : Accessor) (j : Nat) : Window :=
  match acc with
  | .host => { w with host := j }
  | .hostCmd => { w with host := j }
  | .debug => { w with debug := j }
  | _ => { w with keeper := j }

/-- The first entry that an index shows: KEY_SWIN above 208 acts as 208. -/
def shownFrom (page j : Nat) : Nat := if page = 0x31 then min 208 j else j

/-- The offset of the register behind a page offset, with the accessor's window index. -/
def State.absOff (s : State) (acc : Accessor) (page off : Nat) : Nat :=
  if off < 0x400 then off
  else match s.windowOf page with
    | some w => off + 0x40 * shownFrom page (w.get acc)
    | none => off

/-- Moves an accessor's window. -/
def State.setWindow (s : State) (acc : Accessor) (page j : Nat) : State :=
  match page with
  | 0x18 => { s with carWin := s.carWin.put acc j }
  | 0x1b => { s with callWin := s.callWin.put acc j }
  | 0x21 => { s with jobWin := s.jobWin.put acc j }
  | 0x31 => { s with keyWin := s.keyWin.put acc j }
  | _ => s

/-! ## What a register reads -/

/-- ID (R129): type, version, instance. -/
def idWord (page : Nat) : Word :=
  let t := if page = 0x1a then 0x19 else if page = 0x21 then 0x20 else page
  let inst := if page = 0x1a || page = 0x21 then 1 else 0
  BitVec.ofNat 64 (t * 2 ^ 48 + (if page = 0 then 0x4100 else 1) * 2 ^ 32 + inst)

/-- The effective level of a sensor (R565): the higher of the configured level, where 3 acts as 2, and the floor. -/
def State.tmpLevel (s : State) (i : Nat) : Nat :=
  max (min 2 (fld (s.g F.TMP_LEVEL_LEVEL) (2 * i) 2)) (min 2 (fld s.fuse.tmpFloor (2 * i) 2))
def State.tmpEff (s : State) : Nat := (List.range 11).foldl (fun a i => a + s.tmpLevel i * 4 ^ i) 0

/-- A slot is bad somewhere. -/
def State.someBad (s : State) : Bool := (List.range 4).any (fun k => s.b (F.KEY_BAD_BAD k))

/-- MOD_CUR as it reads: software reads POWER as Run, and the debug port reads Halt while the core is halted (R51; log
entry 61). -/
def State.modCur (s : State) (acc : Accessor) : Word :=
  let w := s.word F.MOD_CUR_POWER.key
  if acc = .debug && s.power == .halt then w else setBits w 0 3 3

/-- Ones of a field that a register shows beside its image. -/
def shown (w : Word) (f : Fld) (v : Nat) : Word := setBits w f.lo f.w v

/-- Sixty-four of a target's sources. -/
def srcWord (x : BitVec 512) (k : Nat) : Word := BitVec.ofNat 64 (x.toNat >>> (64 * k))

/-- What the register at an offset (window resolved) reads, without side effect (R12, R232). -/
def State.peek (s : State) (acc : Accessor) (page off : Nat) : Word :=
  let w := s.word (regKey page off)
  if off = 0 then idWord page
  else if off = 0x18 then
    match page with
    | 4 => shown (shown w F.LOG_STAT_SAT_ANY (b2n (s.b F.LOG_SAT_SAT))) F.LOG_STAT_BAD_ANY (b2n (s.b F.LOG_BAD_BAD))
    | 5 => shown (shown (shown w F.ICU_STAT_REQ0 (b2n (s.requestLine false))) F.ICU_STAT_REQ1 (b2n (s.requestLine true)))
        F.ICU_STAT_DBQ_LEVEL s.icu.queue.length
    | 6 => shown w F.FFY_STAT_ARMED (b2n s.ffyArmed)
    | 0x1b => shown (shown w F.DSE_STAT_FROZEN (b2n (s.power == .halt))) F.DSE_STAT_NOLAND (b2n s.noLand)
    | 0x22 => shown w F.TSY_STAT_ROLE s.timeRole.code
    | 0x23 => shown w F.GRP_STAT_ROLE s.group.code
    | 0x30 => shown w F.KPX_STAT_ROMOFF (s.g F.KPX_CTL_ROMOFF)
    | 0x31 => shown (shown (shown w F.KEY_STAT_OPROOT (s.g F.KEY_ROOT_PRESENT)) F.KEY_STAT_SUSPENDED (b2n s.bat.lock))
        F.KEY_STAT_BAD_ANY (b2n s.someBad)
    | 0x33 => shown (shown (shown w F.TMP_STAT_LOCK (b2n s.bat.lock)) F.TMP_STAT_ZEROIZED (s.g F.MOD_CUR_ZEROIZED))
        F.TMP_STAT_LATCHED (s.g F.TMP_LATCH_VALID)
    | 0x34 => s.tenStat
    | _ => w
  else
    match page, off with
    | 0, 0x80 => s.fuse.serial
    | 0, 0x88 => shown (shown (shown (shown (shown w F.SYS_LIFECYCLE_STATE (s.g F.MOD_CUR_LIFECYCLE)) F.SYS_LIFECYCLE_ZEROIZED
        (s.g F.MOD_CUR_ZEROIZED)) F.SYS_LIFECYCLE_BSCAN_FUSE (b2n s.fuse.bscan)) F.SYS_LIFECYCLE_DPROTO_FUSE (b2n s.fuse.dproto))
        F.SYS_LIFECYCLE_KEEPER_FLOOR s.fuse.keeperFloor
    | 8, 0x80 => s.modCur acc
    | 5, 0x80 => BitVec.ofNat 64 (s.claimPeek false)
    | 5, 0x90 => BitVec.ofNat 64 (s.claimPeek true)
    | 0x28, 0xa8 => BitVec.ofNat 64 s.hbxPeek
    | 0x18, 0xe0 => BitVec.ofNat 64 (s.carWin.get acc)
    | 0x1b, 0x100 => BitVec.ofNat 64 (s.callWin.get acc)
    | 0x21, 0xd8 => BitVec.ofNat 64 (s.jobWin.get acc)
    | 0x31, 0xe0 => BitVec.ofNat 64 (s.keyWin.get acc)
    | 0x2a, 0x80 => BitVec.ofNat 64 (0x0a * 2 ^ 40 + s.fuse.serial.toNat % 2 ^ 40)
    | 0x33, 0x88 => BitVec.ofNat 64 s.fuse.tmpFloor
    | 0x33, 0x90 => BitVec.ofNat 64 s.tmpEff
    | _, _ =>
      if page = 5 && 0x100 ≤ off && off < 0x200 then
        let k := (off - 0x100) / 8
        srcWord (if k < 8 then s.icu.pend0 else if k < 16 then s.icu.pend1 else if k < 24 then s.icu.insv0 else s.icu.insv1) (k % 8)
      else if (page = 0x20 || page = 0x21) && off = 0xd0 then BitVec.ofNat 64 (s.g (F.CB_RX_STAT_LEVEL (page - 0x20)))
      else if (page = 0x20 || page = 0x21) && off = 0xb8 then
        shown w (F.CB_TXQ_STAT_HEAD_ARB (page - 0x20)) (b2n (s.headArb (page - 0x20)))
      else if (page = 0x20 || page = 0x21) && isKeeper acc && off = 0xf8 then (s.can (page - 0x20)).stageHead
      else if (page = 0x20 || page = 0x21) && isKeeper acc && 0x100 ≤ off && off < 0x140 then
        (s.can (page - 0x20)).stageData.getD ((off - 0x100) / 8) 0
      else if page = 0x31 && 0x400 ≤ off && (off - 0x400) % 0x40 = 0 && (off - 0x400) / 0x40 < 256 then
        shown w (F.KEY_POL_CLASS ((off - 0x400) / 0x40)) (slotClass ((off - 0x400) / 0x40))
      else w

/-- A write-only field reads zero; a register that keeps what was written only for its action keeps nothing. -/
def writeOnly (page off : Nat) : Bool :=
  off == 0x38 ||
  (match page with
   | 3 => off == 0x98
   | 4 => off == 0x80 || off == 0x88
   | 5 => off == 0x88 || off == 0x98
   | 0x10 => off == 0xc8 || off == 0xd0
   | _ => false)

/-- The class of LOG that an offset shows. -/
def logClassAt (page off : Nat) : Option Nat :=
  if page = 4 && 0x100 ≤ off && off < 0x300 && off % 8 = 0 then some ((off - 0x100) / 8) else none

/-- A read of a page register by an accessor, with what it leaves: an unassigned page (R120), a withheld access (R142, R143), the
parity check of a LOG entry (R210), and the side effects of R231, R428 and HBX_CLAIM. The host and Keeper, also on behalf of a
management session (R113, R504, R639), have the side effect; the debug port (R12), an applet (R504) and a command of the host channel
(R639) read the peek value, and so does Keeper at ICU_CLAIM1 (R232). -/
def State.readAs (s : State) (acc : Accessor) (page off : Nat) : Word × State :=
  if !pageAssigned page then (0, s.lost 0 53)
  else
    let o := s.absOff acc page off
    if !s.mayRead acc (readCol page o) page then (0, s.violation page)
    else if writeOnly page o then (0, s)
    else
      match logClassAt page o with
      | some c =>
        let r := if s.isBadClass c then (true, s) else s.classCheck c
        (r.2.word (regKey page o), r.2)
      | none =>
        let v := s.peek acc page o
        let act :=
          if page = 5 && o = 0x80 && isKeeper acc then s.claimSrc false (s.claimPeek false)
          else if page = 5 && o = 0x90 && acc = .host then s.claimSrc true (s.claimPeek true)
          else if page = 0x28 && o = 0xa8 && (acc = .host || isKeeper acc) then s.claimSrc true s.hbxPeek
          else if (page = 0x20 || page = 0x21) && o = 0xd0 && (acc = .host || isKeeper acc) then s.rxPop (page - 0x20)
          else s
        (v, act)

/-! ## The common header (R129 to R133) -/

/-- The EVT bits of a page that mean something. -/
def evtMask (page : Nat) : Nat := match rowAt page 0x20 with | some r => r.w1c | none => 0

/-- A W1C write to EVT: the selected bits become 0 and post nothing. -/
def State.evtClear (s : State) (page : Nat) (v : Word) : State :=
  let f := hdrEvt page
  s.setWord f.key (s.word f.key &&& ~~~(v &&& BitVec.ofNat 64 (evtMask page)))

/-- A write to EVTEN; a bit that rises while its EVT bit is 1 posts (R130). -/
def State.evtenWrite (s : State) (page : Nat) (v : Word) : State :=
  let f := hdrEvten page
  let old := (s.word f.key).toNat
  let new := v &&& BitVec.ofNat 64 (evtMask page)
  let s1 := s.setWord f.key new
  (List.range 64).foldl (fun (x : State) b =>
    if new.toNat.testBit b && !old.testBit b && x.b ((hdrEvt page).bit b) then x.post (evtSource page b) else x) s1

/-- A TRCLR write (R132). -/
def State.trclr (s : State) (page v : Nat) : State :=
  (List.range 4).foldl (fun (x : State) i => if v.testBit i then x.p (hdrTrouble page i) 0 else x) s

/-! ## Locked sequences (R136 to R141) -/

/-- The sequences of a page: number, write column (9 on a Karpex-owned page), registers in order. -/
def sequences (page : Nat) : List (Nat × Nat × List Nat) :=
  match page with
  | 0x00 => [(1, 1, [0x90, 0x98])]
  | 0x03 => [(1, 1, [0x98]), (2, 7, [0x98])]
  | 0x12 => [(1, 3, [0x98])]
  | 0x14 => [(1, 3, [0x90]), (2, 7, [0xc0, 0xc8]), (3, 4, [0xc0, 0xc8])]
  | 0x15 => [(1, 7, [0x80])]
  | 0x1c => [(1, 7, [0x80, 0x88, 0x90])]
  | 0x31 => [(1, 9, [0x88, 0x90, 0x80])]
  | 0x34 => [(1, 9, [0x80, 0x88]), (2, 9, [0x90, 0x98])]
  | 0x35 => [(1, 9, [0x80, 0x88, 0x90]), (2, 9, [0x90])]
  | 0x36 => [(1, 9, [0x88, 0x90])]
  | _ => []

/-- The sequence that a number names, and the one that is armed. -/
def seqOf (page n : Nat) : Option (Nat × Nat × List Nat) := (sequences page).find? (fun q => q.1 == n)
def State.armed (s : State) (page : Nat) : Option (Nat × Nat × List Nat) :=
  if s.b (lockArmed page) then seqOf page (s.g (lockSeq page)) else none

/-- A locked register (R136). -/
def lockedReg (page off : Nat) : Bool := (sequences page).any (fun q => q.2.2.contains off)

/-- OWNER: 1 host, 2 Keeper. -/
def ownerOf : Accessor → Nat | .host => 1 | .hostCmd => 1 | _ => 2

/-- The holding copy of a page. -/
def State.heldOf (s : State) (page : Nat) : List (Nat × Word) := ((s.holds.find? (fun h => h.1 == page)).map (·.2)).getD []
def State.dropHeld (s : State) (page : Nat) : State := { s with holds := s.holds.filter (fun h => h.1 != page) }

/-- A sequence is abandoned (R140). -/
def State.abandon (s : State) (page : Nat) (count : Bool) : State :=
  let s1 := (((s.dropHeld page).p (lockArmed page) 0).p (lockAbandoned page) 1).p (lockRemain page) 0
  if count then s1.lost page 52 else s1

/-- A LOCK write of a sequence number with an ARM value (R136, R137, R139, R140). -/
def State.lockWrite (s : State) (acc : Accessor) (page seq arm : Nat) : State :=
  if arm ≠ 0x4c4b then (if s.reaches acc page then s.lost page 63 else s.violation page)
  else if seq = 0 then
    if !s.reaches acc page then s.violation page
    else if s.b (lockArmed page) && s.g (lockOwner page) = ownerOf acc then s.abandon page false else s
  else
    match seqOf page seq with
    | none => if s.reaches acc page then s.lost page 63 else s.violation page
    | some q =>
      if !s.mayWrite acc q.2.1 page then s.violation page
      else if s.b (lockArmed page) then s.lost page 63
      else
        let s1 := ((((((s.p (lockArmed page) 1).p (lockAbandoned page) 0).p (lockDone page) 0).p (lockSeq page) seq).p
          (lockRemain page) 4096).p (lockOwner page) (ownerOf acc))
        { s1 with holds := (page, []) :: s1.holds.filter (fun h => h.1 != page) }

/-- The lock once the final write is made (R139). -/
def State.lockFinish (s : State) (page : Nat) : State := (((s.dropHeld page).p (lockArmed page) 0).p (lockDone page) 1).p (lockRemain page) 0

/-- The held writes and the final one applied in order, each under the bits that its register takes (R138). -/
def State.applyHeld (s : State) (page : Nat) (l : List (Nat × Word)) : State :=
  l.foldl (fun (y : State) (p : Nat × Word) =>
    match rowAt page p.1 with
    | some r =>
      if writeOnly page p.1 then y
      else y.setWord (regKey page p.1) (underMask (y.word (regKey page p.1)) p.2 (r.rw ||| (if r.wcol = 8 then r.km else 0)))
    | none => y) s

/-- One write to a locked register (R138, R139, R141): what the final write applies, as sequence number and writes in order. -/
def State.seqStep (s : State) (acc : Accessor) (page off : Nat) (v : Word) : Option (Nat × List (Nat × Word)) × State :=
  match s.armed page with
  | none =>
    let may := (sequences page).any (fun q => q.2.2.contains off && s.mayWrite acc q.2.1 page)
    (none, if may then s.lost page 63 else s.violation page)
  | some q =>
    if !s.mayWrite acc q.2.1 page then (none, s.violation page)
    else if s.g (lockOwner page) ≠ ownerOf acc then (none, s.lost page 63)
    else
      let done := s.heldOf page
      if q.2.2.getD done.length 0x1000 ≠ off then (none, s.lost page 63)
      else
        let now := done ++ [(off, v)]
        if now.length < q.2.2.length then
          (none, { s with holds := (page, now) :: s.holds.filter (fun h => h.1 != page) })
        else
          (some (q.1, now), s.lockFinish page)

/-- The final write of a sequence at hand: what it completes, where the row names the sequences that it may end. -/
def State.finalWrite (s : State) (acc : Accessor) (page off : Nat) (v : Word) (act : Nat → State → State) : State :=
  match s.seqStep acc page off v with
  | (none, x) => x
  | (some (n, l), x) => act n (x.applyHeld page l)

/-! ## The site record (R181) -/

/-- A granted write to a register under SYS_PAM1 reaches the site record, but for the asset label and RST_CMD. -/
def State.siteKeep (s : State) (page off : Nat) : State :=
  if writeCol page off = 1 && page ≠ 0 then
    let key := regKey page off
    { s with nvm := { s.nvm with site := cellPut resetWord key (s.word key) s.nvm.site } }
  else s

end Sys2Proof.Machine
end

