-- ==== Sys2Proof/Machine/Store.lean ====
section
/-!
DEFINITION. Sys2Proof/Machine/Store.lean: configuration registers as a granted write changes them (R134, R346, R358), the site record
restored (R181), the writes of the field pages (R279, R283, R288 to R296, R309), and what happens on the Carapace between two
scans (R272 to R286).
-/
namespace Sys2Proof.Machine
open Sys2Proof

/-! ## Configuration registers -/

/-- A register takes a value under a mask. -/
def State.putMasked (s : State) (page off : Nat) (v : Word) (mask : Nat) : State :=
  s.setWord (regKey page off) (underMask (s.word (regKey page off)) v mask)

/-- CAR_CFG or CAR_SCALE takes a value: a change of the unit or of the scale while VALID is 1 is a position deviation (R346). -/
def State.carStore (s : State) (off : Nat) (v : Word) (mask : Nat) : State :=
  let s1 := s.putMasked 0x18 off v mask
  let moved := s.g F.CAR_CFG_UNIT ≠ s1.g F.CAR_CFG_UNIT || s.g F.CAR_SCALE_SCALE ≠ s1.g F.CAR_SCALE_SCALE
  if moved && s.b F.CAR_STAT_VALID then (s1.deviation).squashAll 6 else s1

/-- DOR_CFG takes a value: an engine whose EN is set starts in UNKNOWN (R358), or in PARK while job keys are absent (R367). -/
def State.dorStore (s : State) (n : Nat) (v : Word) (mask : Nat) : State :=
  let s1 := s.putMasked (dorPage n) 0x80 v mask
  if s1.b (F.DOR_CFG_EN n) && !s.b (F.DOR_CFG_EN n) && s1.doorIs n ≠ 10 then s1.doorTo n (if s1.keysGone then 10 else 0) else s1

/-- MOD_INSEL takes a value (R90): an input that is disabled is not active, and one whose field changes is filtered afresh (R57). -/
def State.inselStore (s : State) (v : Word) (mask : Nat) : State :=
  let s1 := s.putMasked 8 0x98 v mask
  let refresh := fun (p : ModeInput × Nat) =>
    let new := fld (s1.g F.MOD_INSEL_SEL) (8 * p.2) 8
    if new = fld (s.g F.MOD_INSEL_SEL) (8 * p.2) 8 then p.1 else if new.testBit 7 then { p.1 with frames := 0 } else ⟨false, 0, false⟩
  { s1 with mod := { s1.mod with inputs := s1.mod.inputs.zipIdx.map refresh } }

/-- A register of plain settings takes a value (R134). -/
def State.configStore (s : State) (page off : Nat) (v : Word) (mask : Nat) : State :=
  if page = 8 && off = 0x98 then s.inselStore v mask
  else if page = 0x18 && (off = 0x80 || off = 0x88) then s.carStore off v mask
  else if page = 0x19 && off = 0x80 then s.dorStore 0 v mask
  else if page = 0x1a && off = 0x80 then s.dorStore 1 v mask
  else s.putMasked page off v mask

/-- Boot step 4: Keeper writes every image of the site record back to its register (R181). -/
def State.siteRestore (s : State) : State :=
  s.nvm.site.foldl (fun (x : State) p =>
    match rowAt (p.1 / 0x100000) (p.1 % 0x100000) with
    | some r => x.configStore (p.1 / 0x100000) (p.1 % 0x100000) p.2 r.rw
    | none => x) s

/-! ## Field pages -/

/-- FOUT_SET: the last write of a frame period that selects a channel stands (R283). -/
def State.foutSet (s : State) (value mask : Nat) : State :=
  let keep := s.bar.setMask &&& (0xffff ^^^ mask)
  { s with bar := { s.bar with setValue := (s.bar.setValue &&& keep) ||| (value &&& mask), setMask := s.bar.setMask ||| mask } }

/-- FCNT_RESET (R279); on CAR's unit a reset while VALID is 1 is a position deviation (R346), and one during a relearn starts it
again. -/
def State.fcntReset (s : State) (units : Nat) : State :=
  let s1 : State := { s with bar := { s.bar with fcntReset := s.bar.fcntReset ||| units } }
  if !units.testBit s.carUnit then s1
  else if s.b F.CAR_STAT_VALID then (s1.deviation).squashAll 6
  else if s.b F.CAR_STAT_RELEARNING then s1.relearnStart
  else s1

/-- FOUT sequence 1 (R288). -/
def State.uninhibit (s : State) (ch : Nat) : State := { s with bar := { s.bar with uninhibit := s.bar.uninhibit ||| ch } }

/-- FOUT_SWEEP: START and ABORT (R289, R292). -/
def State.sweepWrite (s : State) (v : Nat) : State :=
  let s1 := if v.testBit 33 then s.sweepAbort else s
  if v.testBit 32 then s1.sweepStart (fld v 0 16) (v.testBit 16) (v.testBit 17) (fld v 24 8) else s1

/-! ## Between two scans on the Carapace -/

/-- A pulsed input's window ends and it is sampled (R272). -/
def effPulsedSample (raw : BitVec 32) (s : State) : State :=
  if s.cpc.on && !s.cpc.fieldWatch then { s with cpc := s.cpc.sampleInputs raw.toNat (fun i => s.cpc.finMode i == 1) } else s

/-- An input has differed for FILTER + 1 samples (R273). -/
def effInputFilterChange (i : Nat) (s : State) : State :=
  if s.cpc.on then { s with cpc := s.cpc.filterChange i } else s

/-- A counter unit is replaced. -/
def Carapace.unitSet (c : Carapace) (u : Nat) (f : CUnit → CUnit) : Carapace :=
  { c with units := c.units.zipIdx.map (fun (p : CUnit × Nat) => if p.2 = u then f p.1 else p.1) }

/-- A unit in Period mode has seen no edge for 2^32 cycles (R275); in field-watch its value holds (R280). -/
def effPeriodOverflow (u : Nat) (s : State) : State :=
  if s.cpc.on && !s.cpc.fieldWatch && s.cpc.unitMode u = 5 && decide (2 ^ 32 ≤ (s.cpc.units.getD u CUnit.fresh).since) then
    { s with cpc := s.cpc.unitSet u (fun x => { x with value := 0, povf := true, timing := false, since := 0 }) }
  else s

/-- A gate of GATE_MS ends (R275); in field-watch its value holds (R280). -/
def effFrequencyGateEnd (u : Nat) (s : State) : State :=
  let gate := 50 * min 1000 (max 1 (s.cpc.cfg (33 + u) 16 10))
  if s.cpc.on && !s.cpc.fieldWatch && s.cpc.unitMode u = 6 && decide (gate ≤ (s.cpc.units.getD u CUnit.fresh).gateScans) then
    { s with cpc := s.cpc.unitSet u (fun x => { x with value := x.gateEdges % 2 ^ 32, gateEdges := 0, gateScans := 0 }) }
  else s

/-- A driven channel's junction reaches 170 °C: it turns off and TSD is set (R284). -/
def effThermalShutdown (ch : Nat) (s : State) : State :=
  if s.cpc.on && s.cpc.applied.testBit ch then
    { s with cpc := { s.cpc with tsd := s.cpc.tsd ||| 2 ^ ch, applied := s.cpc.applied ^^^ 2 ^ ch } }
  else s

/-- A driven channel enters current limit (R284). -/
def effCurrentLimit (ch : Nat) (s : State) : State :=
  if s.cpc.on && s.cpc.applied.testBit ch then { s with cpc := { s.cpc with ilim := s.cpc.ilim ||| 2 ^ ch } } else s

/-- A channel shows a fault: an off channel's pad above 10 V, or an on channel low for two scans, the latter only while VFLD_OK is 1
(R286). -/
def effOutputFault (ch : Nat) (s : State) : State :=
  if s.cpc.on && (!s.cpc.applied.testBit ch || s.cpc.vfldOk) then
    { s with cpc := { s.cpc with faults := s.cpc.faults ||| 2 ^ ch } }
  else s

/-! ## The Carapace's supplies -/

/-- VISO_IN_LOSS (R30): the Carapace stops and every output turns off; the logic die hears nothing more. -/
def effVisoInLoss (s : State) : State :=
  if !s.cpc.viso then s
  else
    let s1 := (s.p F.PWR_STAT_ISO_OK 0)
    { s1 with cpc := { s1.cpc.disarm with viso := false, applied := 0 } }

/-- VFLD_CHANGE (R30): the Carapace's own monitor; the next frame reports it. -/
def effVfldChange (ok : Bool) (s : State) : State := if s.cpc.on then { s with cpc := { s.cpc with vfldOk := ok } } else s

end Sys2Proof.Machine
end

