-- ==== Sys2Proof/Machine/Attest.lean ====
section
/-!
DEFINITION. Sys2Proof/Machine/Attest.lean: reports (R602 to R608) in their CBOR encoding, and the writes of the measurement entries
(R599, R600, R614).
-/
namespace Sys2Proof.Machine
open Sys2Proof

/-! ## CBOR (RFC 8949, core deterministic) -/

/-- The head of an item: major type and argument. -/
def cborHead (major n : Nat) : List Byte :=
  let be := fun (k : Nat) => (leBytes k n).reverse
  let b := fun (i : Nat) => BitVec.ofNat 8 (32 * major + i)
  if n < 24 then [b n] else if n < 2 ^ 8 then b 24 :: be 1 else if n < 2 ^ 16 then b 25 :: be 2
  else if n < 2 ^ 32 then b 26 :: be 4 else b 27 :: be 8

def cborUint (n : Nat) : List Byte := cborHead 0 n
def cborBytes (l : List Byte) : List Byte := cborHead 2 l.length ++ l
def cborArray (l : List (List Byte)) : List Byte := cborHead 4 l.length ++ l.flatten
/-- A map whose keys are small unsigned integers in rising order. -/
def cborMap (l : List (Nat × List Byte)) : List Byte := cborHead 5 l.length ++ (l.map (fun p => cborUint p.1 ++ p.2)).flatten
def cborBool (b : Bool) : List Byte := [if b then 0xf5 else 0xf4]
def cborNull : List Byte := [0xf6]
def cborOr (l : Option (List Byte)) : List Byte := l.getD cborNull

/-- A digest as 48 bytes, byte 0 first (R315, R603). -/
def digestBytes48 (d : BitVec 384) : List Byte := leBytes 48 d.toNat

/-! ## What a report says (R603) -/

/-- The SHA-384 value that six page registers hold. -/
def State.digestRegs (s : State) (f : Nat → Fld) : List Byte := ((List.range 6).map (fun k => leBytes 8 (s.g (f k)))).flatten

/-- One measurement entry: index, version, digest. -/
def State.measEntry (s : State) (m : Nat) : List Byte :=
  if s.b (F.ATT_INFO_PRESENT m) then
    cborArray [cborUint m, cborUint (s.g (F.ATT_INFO_VERSION m)), cborBytes (leBytes 8 (s.g (F.ATT_DIG0_DIGEST m)) ++
      leBytes 8 (s.g (F.ATT_DIG1_DIGEST m)) ++ leBytes 8 (s.g (F.ATT_DIG2_DIGEST m)) ++ leBytes 8 (s.g (F.ATT_DIG3_DIGEST m)) ++
      leBytes 8 (s.g (F.ATT_DIG4_DIGEST m)) ++ leBytes 8 (s.g (F.ATT_DIG5_DIGEST m)))]
  else cborArray [cborUint m, cborNull, cborNull]

/-- The debug state (R613). -/
def State.reportDebug (s : State) : List Byte :=
  let closed := s.debug == .closed
  let o := fun (b : List Byte) => if closed then cborNull else b
  cborMap [(1, cborUint (State.debug s).code), (2, o (cborBytes (s.digestRegs F.DBG_TDIGEST_DIGEST))), (3, o (cborUint (s.g F.DBG_CONSENT_TENANT))),
    (4, o (cborUint (s.g F.DBG_CONSENT_SCOPE))), (5, o (cborUint (s.g F.DBG_CONSENT_EXPIRY))), (6, cborUint (s.ctr 3)),
    (7, cborUint (s.g F.DBG_COUNT_ACCEPTED))]

/-- Slots of a class that are valid, and bad; a zeroized module shows none valid in the tenant classes. -/
def State.classCounts (s : State) (c : Nat) : List Byte :=
  let mine := (List.range 256).filter (fun n => slotClass n == c)
  let valid := if s.zeroized && 2 ≤ c then 0 else (mine.filter s.slotValid).length
  cborArray [cborUint valid, cborUint (mine.filter (fun n => s.b (F.KEY_POL_BAD n))).length]

/-- The partition layout. -/
def State.reportParts (s : State) : List Byte :=
  let emc := cborArray ((List.range 4).map (fun i => cborUint (s.word (F.EMC_PART_BASE i).key).toNat))
  let slot := fun (i : Nat) => cborArray [cborUint (s.g (F.LVA_SLOT_STATE i)), cborUint (s.g (F.LVA_SLOT_TENANT i)),
    cborBytes (slice ((s.appletImage i).getD []) 0x18 8), cborUint (s.g (F.LVA_SLOT_VERSION i))]
  cborMap [(1, emc), (2, cborArray ((List.range 8).map slot)), (3, cborArray ((List.range 4).map s.classCounts))]

/-- The public key of the current tenant's package-receive slot. -/
def State.receiveKey (s : State) : Option (List Byte) :=
  let n := slotPackage s.tenantNo
  if s.tenancy == .molting || !s.slotValid n then none
  else some (cborBytes ((List.range 97).map (Config.ecPublicByte (s.slotOf n).bytes)))

/-- Keys 2 to 6 and 8, which both forms carry; key 4 is the counter after its increment. -/
def State.reportFull (s : State) (nonce : List Byte) : List Byte :=
  let cfg := fun (p v : Fld) => if s.b p then cborUint (s.g v) else cborNull
  cborMap [(1, cborUint 1), (2, cborUint s.fuse.serial.toNat), (3, cborBytes nonce), (4, cborUint (s.ctr 4)),
    (5, cborUint (s.g F.MOD_CUR_LIFECYCLE)), (6, cborBool s.zeroized), (7, cborBool s.bat.lock),
    (8, cborUint (s.g F.MOD_CUR_TENANCY)), (9, if s.tenancy == .molting then cborUint (s.g F.TEN_STAT_TARGET) else cborNull),
    (10, cborArray ((List.range 14).map s.measEntry)),
    (11, cborMap [(1, cborUint s.fuse.keeperFloor), (2, cborUint s.fuse.tmpFloor), (3, cborBool s.fuse.bscan),
      (4, cborBool s.fuse.dproto)]),
    (12, s.reportDebug), (13, s.reportParts),
    (14, cborMap [(0, cborUint (s.ctr 0)), (5, cborUint (s.ctr 5)), (6, cborUint (s.ctr 6)), (7, cborUint (s.ctr 7))]),
    (15, cborArray [cfg F.TEN_CFGVER0_PRESENT F.TEN_CFGVER0_VERSION, cfg F.TEN_CFGVER1_PRESENT F.TEN_CFGVER1_VERSION]),
    (16, cborMap [(1, cborUint (s.g F.TMP_LATCH_SEEN)), (2, cborUint s.tmpEff)]), (17, cborOr s.receiveKey),
    (18, cborUint (s.g F.CLK_UPTIME_US)), (19, cborUint (s.g F.ATT_STAT_MSEQ))]

/-- The payload of the certificate-only form (R604). -/
def State.reportCert (s : State) (nonce : List Byte) : List Byte :=
  cborMap [(1, cborUint 2), (2, cborUint s.fuse.serial.toNat), (3, cborBytes nonce), (4, cborUint (s.ctr 4)),
    (5, cborUint (s.g F.MOD_CUR_LIFECYCLE)), (6, cborBool s.zeroized), (8, cborUint (s.g F.MOD_CUR_TENANCY))]

/-! ## Signing (R602) -/

/-- The protected header {1: −35}. -/
def protectedHeader : List Byte := [0xa1, 0x01, 0x38, 0x22]

/-- The first 16 bytes of SHA-384 over the identity public key. -/
def keyId : List Byte := (digestBytes48 (Config.sha384 identityPublic)).take 16

/-- "Signature1". -/
def labelSig1 : List Byte := ascii [0x53, 0x69, 0x67, 0x6e, 0x61, 0x74, 0x75, 0x72, 0x65, 0x31]

/-- The COSE_Sign1 object over a payload, signed with the identity key. -/
def State.coseSign (s : State) (payload : List Byte) : List Byte × State :=
  let msg := cborArray [cborHead 3 10 ++ labelSig1, cborBytes protectedHeader, cborBytes [], cborBytes payload]
  let sig := (List.range 96).map (Config.ecdsaSignByte identityKey msg s.freeCount)
  let obj := 0xd2 :: cborArray [cborBytes protectedHeader, cborMap [(4, cborBytes keyId)], cborBytes payload, cborBytes sig]
  (obj, { s with freeCount := s.freeCount + 1 })

/-- A full report (R603, R606): counter 4 rises first, and the last four are kept. -/
def State.issueFull (s : State) (nonce : List Byte) : List Byte × State :=
  let s1 := s.ctrStep 4
  let r := s1.coseSign (s1.reportFull nonce)
  let s2 := [2, 1, 0].foldl (fun (x : State) k => x.setWord (F.ATT_RECENT_COUNT (k + 1)).key (x.word (F.ATT_RECENT_COUNT k).key)) r.2
  let s3 := (s2.p (F.ATT_RECENT_COUNT 0) (s1.ctr 4)).p (F.ATT_RECENT_MSEQ 0) (s1.g F.ATT_STAT_MSEQ)
  (r.1, { s3 with ten := { s3.ten with reports := (Config.sha384 r.1 :: s3.ten.reports).take 4, issued := r.1 } }.evt 0x35 0)

/-- A stored certificate (R607): 0 the identity certificate, 1 the device CA's. -/
def certificate (k : Nat) : List Byte := (List.range (Config.certLength k)).map (Config.certByte k)

/-- The certificate-only form (R604, R606). -/
def State.issueCert (s : State) (nonce : List Byte) : List Byte × State :=
  let s1 := s.ctrStep 4
  let r := s1.coseSign (s1.reportCert nonce)
  let obj := cborArray [cborArray [cborBytes (certificate 0), cborBytes (certificate 1)], r.1]
  (obj, { r.2 with ten := { r.2.ten with issued := obj } }.evt 0x35 0)

/-- Full reports are refused in Returned (R605). -/
def State.reportsFull (s : State) : Bool := s.life != .returned

/-! ## Measurement entries (R600, R614) -/

/-- The ROM's 64 KiB (R501). -/
def romImage : List Byte := (List.range 0x10000).map Config.romByte

/-- The Keeper image's digest. -/
def State.keeperDigest (s : State) : BitVec 384 :=
  match s.nvm.keeperImage with | some b => Config.sha384 b | none => Config.keeperDigest

/-- What the ROM measures at boot step 3 before it sets ROMOFF (R599, R600). -/
def State.measureRoot (s : State) : State :=
  let s1 := (s.measure 0 (Config.sha384 romImage) Config.romRevision.toNat).measure 1 s.keeperDigest s.nvm.keeperVersion
  (s1.p F.KPX_CTL_ROMOFF 1).p F.ATT_STAT_SEALED 1

/-- An ATT_MEAS final write of ATT sequence `seq` (R600, R614): entry, mode and version. -/
def State.attMeas (s : State) (seq entry mode version : Nat) : State :=
  let sealed := s.b F.KPX_CTL_ROMOFF && entry < 2
  if (seq = 1) ≠ (mode = 0) || 13 < entry || sealed then s.lost 0x35 63
  else if mode = 0 then
    if entry = 3 || entry = 4 then s.lost 0x35 63
    else s.measure entry (Config.sha384 (s.bytes (s.g F.ATT_SRC_ADDR) (s.g F.ATT_LEN_LEN))) version
  else if mode = 1 then (if entry = 3 then s.measure 3 s.digestRecord version else s.lost 0x35 63)
  else if mode = 2 then (if entry = 4 then s.measure 4 s.dse.pkgDigest version else s.lost 0x35 63)
  else s.measClear entry

end Sys2Proof.Machine
end

