-- ==== Sys2Proof/Machine/Tenancy.lean ====
section
/-!
DEFINITION. Sys2Proof/Machine/Tenancy.lean: tenant configurations (R577, R578), Molt orders (R579 to R582), the Molt (R583, R584)
and the Molt reset (R170, R243, R412, R534, R539).
-/
namespace Sys2Proof.Machine
open Sys2Proof

/-! ## Tenant configurations (R577, R578) -/

/-- Whether `n` bytes from an offset are zero. -/
def zeroAt (b : List Byte) (start n : Nat) : Bool := (slice b start n).all (fun x => x == 0)

/-- The job entry of an index: its offset, the JOB_CFG image, the master slot. -/
def jobEntry (i : Nat) : Nat := 0x100 + 24 * i
def cfgJob (c : List Byte) (i : Nat) : Nat := leAt c (jobEntry i) 8
def cfgMasterAt (c : List Byte) (i : Nat) : Nat := leAt c (jobEntry i + 16) 1

/-- MAGIC, FORMAT, TENANT, FLAGS and the zero fields of a configuration. -/
def configFormOk (b : List Byte) : Bool :=
  b.length == 2272 && leAt b 0 4 == 0x46435451 && leAt b 4 2 == 1 && decide (leAt b 6 1 < 2) && decide (leAt b 7 1 < 2) &&
  zeroAt b 0xc 4 && zeroAt b 0x18 40 && zeroAt b 0xf0 16 && (List.range 80).all (fun i => zeroAt b (jobEntry i + 17) 7)

/-- The kinds that CB0 jobs 0 to 3 have (R455). -/
def kindsOk (b : List Byte) : Bool := (List.range 4).all (fun i => fld (cfgJob b i) 1 3 == i + 1)

/-- A slot of a tenant's class that is valid and allows a use. -/
def State.tenantSlot (s : State) (t n useBit : Nat) : Bool :=
  slotClass n == 2 + t && s.slotValid n && (s.g (F.KEY_POL_USES n)).testBit useBit

/-- The check of R578 that fails first. -/
def State.configCause (s : State) (b : List Byte) (signatureOk : Bool) : Option Nat :=
  let t := leAt b 6 1
  if !configFormOk b then some 1
  else if leAt b 0x10 8 ≠ 0 && BitVec.ofNat 64 (leAt b 0x10 8) != s.fuse.serial then some 2
  else if !s.slotValid (slotAuthority t) || !signatureOk then some 3
  else if leAt b 8 4 < s.ctr (11 + t) then some 4
  else if !kindsOk b || (List.range 80).any (fun i => cfgMasterAt b i != 0xff && !s.tenantSlot t (cfgMasterAt b i) 5) then some 5
  else none

/-- Keeper computes the group's configuration digest (R482). -/
def State.cfgDigest (s : State) : State :=
  let grp := setBits (s.word F.GRP_CFG_EN.key) F.GRP_CFG_STATION.lo F.GRP_CFG_STATION.w 0
  let tsy := setBits (setBits (setBits (s.word F.TSY_CFG_CYCLE_MS.key) F.TSY_CFG_RANK.lo F.TSY_CFG_RANK.w 0) F.TSY_CFG_MASTER_OK.lo 1 0)
    F.TSY_CFG_FREE.lo 1 0
  let msg := wordBytes grp ++ ((List.range 8).map (fun i => wordBytes (s.word (F.GRP_FSECT_LANDINGS i).key))).flatten ++ wordBytes tsy ++
    leBytes 2 (fld (s.word F.MOD_CFG_RECALL_LANDING.key).toNat 0 16)
  let d := (Config.sha384 msg).toNat
  (List.range 6).foldl (fun (x : State) k => x.setWord (F.GRP_CFGDIG_DIGEST k).key (BitVec.ofNat 64 (d / 2 ^ (64 * k)))) s

/-- A register that Keeper alone writes takes an image (R134). -/
def State.keeperPut (s : State) (page off : Nat) (v : Nat) : State :=
  match rowAt page off with
  | some r => s.putMasked page off (BitVec.ofNat 64 v) r.km
  | none => s

/-- The partitions of a configuration (R595). -/
def State.applyParts (s : State) (c : List Byte) : State :=
  (List.range 4).foldl (fun (x : State) i => x.keeperPut 0x2b (0xa0 + 8 * i) (leAt c (0xd0 + 8 * i) 8)) s

/-- Keeper applies a configuration and measures it into entry 5 (R578, R599); PLAIN_ALLOWED is set where R178, R109 and R577 say. -/
def State.applyConfig (s : State) (c : List Byte) : State :=
  let bus := fun (x : State) (n : Nat) =>
    let at_ := 0x40 + 0x20 * n
    let y := (x.keeperPut (cbPage n) 0x80 (leAt c at_ 8)).keeperPut (cbPage n) 0x98 (leAt c (at_ + 24) 8)
    (y.writeTiming n false (BitVec.ofNat 64 (leAt c (at_ + 8) 8))).writeTiming n true (BitVec.ofNat 64 (leAt c (at_ + 16) 8))
  let s1 := bus (bus s 0) 1
  let s2 := (s1.keeperPut 0x22 0x80 (leAt c 0x80 8)).keeperPut 0x23 0x80 (leAt c 0x88 8)
  let s3 := (List.range 8).foldl (fun (x : State) i => x.keeperPut 0x23 (0x100 + 8 * i) (leAt c (0x90 + 8 * i) 8)) s2
  let s4 := (List.range 80).foldl (fun (x : State) i =>
    let n := if i < 16 then 0 else 1
    let j := if i < 16 then i else i - 16
    (x.keeperPut (cbPage n) (0x400 + 0x40 * j) (cfgJob c i)).keeperPut (cbPage n) (0x408 + 0x40 * j) (leAt c (jobEntry i + 8) 8))
    (s3.applyParts c)
  let s5 : State := { s4 with ten := { s4.ten with applied := some c } }
  (s5.cfgDigest).measure 5 (Config.sha384 (c.take 2176)) (leAt c 8 4)

/-- Keys are delivered for a tenant, unless Lock is in force or ZEROIZED holds (R568, R571). -/
def State.deliverFor (s : State) (t : Nat) : State := if s.bat.lock || s.bat.zeroized then s else s.deliverAll t

/-- TEN sequence 2 (R578): whether the image is stored, with its cause; a configuration of the current tenant is applied at once in
Out of Service. -/
def State.configLoad (s : State) (b : List Byte) (signatureOk : Bool) : Option Nat × State :=
  match s.configCause b signatureOk with
  | some c => (some c, (((s.p F.TEN_CFGSTAT_STATE 3).p F.TEN_CFGSTAT_CAUSE c).lost 0x34 63).evt 0x34 3)
  | none =>
    let t := leAt b 6 1
    let v := leAt b 8 4
    let c := b.take 2176
    let s1 : State := { s with nvm := if t = 1 then { s.nvm with config1 := some c } else { s.nvm with config0 := some c } }
    let s2 := (s1.p (if t = 1 then F.TEN_CFGVER1_VERSION else F.TEN_CFGVER0_VERSION) v).p
      (if t = 1 then F.TEN_CFGVER1_PRESENT else F.TEN_CFGVER0_PRESENT) 1
    let s3 := (((s2.ctrRaise (11 + t) v).p F.TEN_CFGSTAT_STATE 2).p F.TEN_CFGSTAT_CAUSE 0).evt 0x34 3
    let now := s.tenancy != .molting && t = s.tenantNo && s.lift == .outOfService
    (none, if now then ((s3.applyConfig c).plainAllow (leAt c 7 1)).deliverFor t else s3)

/-! ## Molt orders (R579 to R582) -/

def ordTarget (o : List Byte) : Nat := leAt o 6 1
def ordSigner (o : List Byte) : Nat := leAt o 7 1

/-- The incoming tenant is ready (R581, cause 0x07). -/
def State.incomingReady (s : State) (t : Nat) : Bool :=
  match s.tenantConfig t with
  | none => false
  | some c =>
    s.slotValid (slotAuthority t) && s.slotValid (slotTime t) && (!bitAt (leAt c 0x88 8) 0 || s.slotValid (slotGroup t)) &&
    (List.range 80).all (fun i => !bitAt (cfgJob c i) 0 || cfgMasterAt c i == 0xff || s.slotValid (cfgMasterAt c i))

/-- The check of R581 that fails first: TEN cause and MOD_REQ2 cause. A Molt that has been accepted and has not completed counts as
tenancy Molting. -/
def State.orderCause (s : State) (o : List Byte) (signatureOk : Bool) : Option (Nat × Nat) :=
  let t := ordTarget o
  let g := ordSigner o
  if s.tenancy == .molting || s.bat.molting then some (0x0a, 0x02)
  else if s.life != .deployed then some (0x08, 0x0a)
  else if s.bat.lock || s.zeroized then some (0x09, 0x09)
  else if o.length ≠ 160 || leAt o 0 4 ≠ 0x544c4d51 || leAt o 4 2 ≠ 1 || 1 < t || 1 < g || !zeroAt o 0x14 12 || t = s.tenantNo then
    some (0x01, 0x01)
  else if BitVec.ofNat 64 (leAt o 8 8) != s.fuse.serial then some (0x02, 0x01)
  else if (g = 1 && !(t = 0 && s.tenancy == .contractor)) || !s.slotValid (slotAuthority g) then some (0x03, 0x01)
  else if !signatureOk then some (0x04, 0x01)
  else if leAt o 0x10 4 ≠ s.ctr 5 + 1 then some (0x05, 0x01)
  else if !(s.lift == .outOfService || s.lift == .inspection) || s.power != .run then some (0x06, 0x02)
  else if !s.incomingReady t then some (0x07, 0x09)
  else none

/-- A sequence or load that defers an order (R582). -/
def State.orderBlocked (s : State) : Bool :=
  [0x31, 0x14, 0x36, 0x34].any (fun pg => s.b (lockArmed pg)) || s.bar.load.isSome || s.b F.PKG_STAT_LOADING

/-- Keeper answers the Molt orders that wait (R636, R640). -/
def State.answerMolt (s : State) (status detail : Nat) : State :=
  let w := s.host.waiting
  let s1 := { s with host := { s.host with waiting := w.filter (fun x => match x with | .molt _ _ => false | _ => true) } }
  w.foldl (fun (x : State) y => match y with | .molt ch tag => x.respond ch tag 0x31 status detail [] | _ => x) s1

/-- An order is refused. -/
def State.orderRefuse (s : State) (t : Nat) (c : Nat × Nat) : State :=
  let s0 : State := { s with ten := { s.ten with deferred := none } }
  let s1 := ((s0.p F.TEN_STAT_CAUSE c.1).evt 0x34 2).lost 0x34 63
  let s2 := ((s1.p (F.MOD_REQ_VALUE 2) t).p (F.MOD_REQ_ARG 2) 0).reqRefuse 2 c.2
  if s2.bat.molting then s2 else s2.answerMolt 3 c.1

/-- An order is accepted: Molt step 1 (R583). MOD_CAUSE2 will name its requester (R93). -/
def State.orderAccept (s : State) (o : List Byte) : State :=
  let t := ordTarget o
  let s1 : State := { s with
    ten := { s.ten with deferred := none }, nvm := { s.nvm with moltOrder := o }
    bat := { s.bat with moltTarget := t, molting := true } }
  let s2 := (((s1.p F.TEN_STAT_TARGET t).p F.TEN_STAT_STEP 2).p F.TEN_STAT_PAUSED 0).evt 0x34 0
  (((s2.p (F.MOD_REQ_VALUE 2) t).p (F.MOD_REQ_ARG 2) 0).reqAccept 2).axisCall 2 2 0x14 s.ten.orderWho

/-- An order is presented, or checked again (R581, R582). -/
def State.orderTake (s : State) (o : List Byte) (signatureOk again : Bool) : State :=
  let s0 := if s.ten.deferred.isSome && !again then
      ({ s with ten := { s.ten with deferred := none } }.lost 8 51).reqDrop 2 else s
  let t := ordTarget o
  match s0.orderCause o signatureOk with
  | some c => s0.orderRefuse t c
  | none =>
    if s0.orderBlocked then
      ({ s0 with ten := { s0.ten with deferred := some o } }.p (F.MOD_REQ_VALUE 2) t).reqDefer 2 5
    else s0.orderAccept o

/-- A requester presents an order (R579, R93). A new order replaces one that waits (R80). -/
def State.orderPresent (s : State) (o : List Byte) (signatureOk : Bool) (who : Nat) : State :=
  { s with ten := { s.ten with orderWho := who } }.orderTake o signatureOk false

/-! ## The Molt reset -/

/-- The call table, the car calls and the plan are no longer valid (R170, R585). The tags go on (R389). -/
def State.dseMolt (s : State) : State :=
  let s1 := s.entries.foldl (fun (x : State) e => (x.setWord (F.DSE_CALL0_VALID e).key 0).setWord (F.DSE_CALL1_SINCE e).key 0) s
  let s2 := ((s1.p F.DSE_STAT_ENTRIES 0).p F.DSE_CARCALLS_CALLS 0).setWord F.DSE_PLAN_LEN.key 0
  let s3 := s2.setDse { s2.dse with intake := [], due := false, causes := [], acks := [], seqs := [], target := none, doorOwed := false }
  s3.pkgInvalid

/-- A controller's job state, with the authenticated frames of its FIFO (R170, R583 step 4). -/
def State.jobsMolt (s : State) (n : Nat) : State :=
  let s1 := (List.range (jobCount n)).foldl (fun (x : State) j =>
    ((x.setWord (F.CB_JOB_STAT_KEYED n j).key (resetWord (F.CB_JOB_STAT_KEYED n j).key)).setWord (regKey (cbPage n) (0x418 + 0x40 * j)) 0).setWord
      (regKey (cbPage n) (0x420 + 0x40 * j)) 0) s
  let c := s1.can n
  (s1.setCan n { c with fifo := c.fifo.filter (fun f => !f.header.getLsbD 37), keys := [], timeKey := none, groupKey := none
                        recent := [], payloads := [] }).fifoShown n

/-- T1 forgets what is pending and in service (R243). -/
def State.icuMolt (s : State) : State :=
  let s1 : State := { s with icu := { s.icu with pend1 := 0, rel1 := 0, insv1 := 0 } }
  (List.range 8).foldl (fun (x : State) i =>
    ((x.p (F.ICU_GSTAT_COUNT (8 + i)) 0).p (F.ICU_GSTAT_ELAPSED (8 + i)) 0).p (F.ICU_GSTAT_RUNNING (8 + i)) 0) s1

/-- A reset is recorded in RST_CAUSE (R188). -/
def State.resetRecord (s : State) (typ src : Nat) : State :=
  s.setWord F.RST_CAUSE_TYPE.key (BitVec.ofNat 64 (typ + 2 ^ 8 * src + 2 ^ 32 * (s.g F.PWR_BTIME_S % 2 ^ 32)))

/-- The Molt reset (R170, R243, R412, R534, R539, R558). As any reset it ends a sweep and a gather (R292, R296). -/
def State.moltReset (s : State) : State :=
  let s1 := ((s.abandonAll.sweepAbort.gatherAbort.bump F.RST_COUNT_MOLT).resetRecord 4 2)
  let s2 := ((s1.dseMolt).spdmEnd).hbxEnd
  let s3 := (s2.jobsMolt 0).jobsMolt 1
  let s4 := ({ s3 with emc := { s3.emc with delivered := none } }.emcKeyClear)
  ((s4.lvaMolt).ephClear).icuMolt

/-! ## The Molt (R583, R584) -/

/-- A Molt is under way under tenancy Molting. -/
def State.moltRuns (s : State) : Bool := s.bat.molting && s.tenancy == .molting

/-- Lock or a zeroization holds the Molt before steps 5, 6 and 7 (R584). -/
def State.moltHeld (s : State) : Bool := s.bat.lock || s.bat.zeroized

/-- Step 7: the next evaluation is told. -/
def State.moltStep7 (s : State) : State :=
  let s1 := s.p F.TEN_STAT_STEP 7
  if s1.moltHeld then s1.p F.TEN_STAT_PAUSED 1
  else (s1.p F.TEN_STAT_PAUSED 0).axisCall 2 s1.bat.moltTarget 0x15 5

/-- Step 6: the incoming configuration is applied and measured. -/
def State.moltStep6 (s : State) : State :=
  let s1 := s.p F.TEN_STAT_STEP 6
  if s1.moltHeld then s1.p F.TEN_STAT_PAUSED 1
  else
    (match s1.tenantConfig s1.bat.moltTarget with | some c => s1.applyConfig c | none => s1).moltStep7

/-- External memory is scrubbed; where EMC is disabled there is no data unit to write and the scrub has ended. -/
def State.moltScrub (s : State) : State :=
  if s.b F.EMC_STAT_TRAINED then s.scrubStart
  else if s.b F.PWR_STAT_VDDQ_OK then s.moltStep6
  else { s with emc := { s.emc with scrubOwed := true } }

/-- Step 5: the incoming EMC key, the partitions and the scrub. -/
def State.moltStep5 (s : State) : State :=
  let s1 := s.p F.TEN_STAT_STEP 5
  if s1.moltHeld then s1.p F.TEN_STAT_PAUSED 1
  else
    let t := s1.bat.moltTarget
    let s2 := ((s1.p F.TEN_STAT_PAUSED 0).emcDeliver t).emcLoadKey
    (match s2.tenantConfig t with | some c => s2.applyParts c | none => s2).moltScrub

/-- Steps 3 to 5 (MOLT_PREPARE). -/
def State.moltPrepare (s : State) : State :=
  let s1 := (s.ctrStep 5).stagingClear
  let s2 : State := { s1 with key := { s1.key with handles := [] } }
  let s3 := (s2.entryRefused).setDse { s2.entryRefused.dse with pkgKey := none }
  ((s3.p F.TEN_STAT_STEP 4).moltReset).moltStep5

/-- The Molt goes on where a pause held it (R584). A scrub of step 5 that still runs ends it. -/
def State.moltResume (s : State) : State :=
  if !s.moltRuns || s.moltHeld || !s.b F.TEN_STAT_PAUSED then s
  else
    let s1 := s.p F.TEN_STAT_PAUSED 0
    match s.g F.TEN_STAT_STEP with
    | 5 => s1.moltStep5
    | 6 => s1.moltStep6
    | 7 => s1.moltStep7
    | _ => s1

/-- A Lock or a zeroization during a Molt: the next of steps 5 to 7 waits (R584). -/
def State.moltPause (s : State) : State :=
  if s.moltRuns && s.g F.TEN_STAT_STEP = 7 then
    { s with mod := { s.mod with calls := s.mod.calls.filter (fun c => c.axis != 2) } }.p F.TEN_STAT_PAUSED 1
  else s

/-! ## The commands -/

/-- MOLT_PREPARE: steps 3 to 5, once tenancy is Molting. -/
def effMoltPrepare (s : State) : State := if s.moltRuns && s.g F.TEN_STAT_STEP = 3 then s.moltPrepare else s

/-- SCRUB_DONE (R597); a Molt goes on with step 6. -/
def effScrubDone (s : State) : State :=
  if s.b F.EMC_SCRUB_RUNNING then
    let s1 := s.scrubEnd
    (if s1.moltRuns && s1.g F.TEN_STAT_STEP = 5 then s1.moltStep6 else s1)
  else s

/-- MOLT_FINISH: step 8 (R583, R608). -/
def effMoltFinish (appletsOk : List Bool) (s : State) : State :=
  if s.bat.molting && s.tenancy != .molting && s.g F.TEN_STAT_STEP = 8 && s.keeperServes then
    let s1 := s.startApplets s.tenantNo appletsOk
    let r := s1.issueFull (slice s1.nvm.moltOrder 0x20 32)
    let s2 : State := { r.2 with
      ten := { r.2.ten with moltReport := r.1 }, nvm := { r.2.nvm with moltOrder := [] }, bat := { r.2.bat with molting := false } }
    let s3 := ((s2.p F.TEN_LAST_MOLTS (s2.ctr 5)).p F.TEN_LAST_BTIME (s2.g F.PWR_BTIME_S % 2 ^ 32)).p F.TEN_STAT_STEP 0
    ((s3.evt 0x34 1).answerMolt 0 0)
  else s

/-- MOLT_ORDER_RECHECK (R582). -/
def effMoltOrderRecheck (signatureOk : Bool) (s : State) : State :=
  match s.ten.deferred with
  | some o => if s.orderBlocked then s else (s.orderTake o signatureOk true)
  | none => s

end Sys2Proof.Machine
end

