-- ==== Sys2Proof/Machine/Tamper.lean ====
section
/-!
DEFINITION. Sys2Proof/Machine/Tamper.lean: tamper anomalies and their levels (R564 to R568, R570), the lift of Lock (R569), the
fence link's failures (R23, R24), the consent clock (R559, R664).
-/
namespace Sys2Proof.Machine
open Sys2Proof

/-! ## Anomalies -/

/-- The sensors that are armed (R564): the lids only where they are fitted; clock from the first PLL lock; glitch, lockup and fence
link only while the 641 runs; the clock detector stays armed to the next power-on reset (R155). -/
def State.tmpArmed (s : State) : Nat :=
  let live := !s.wake.inReset
  ofBits 11 (fun i =>
    if i = 1 then s.b F.TMP_CFG_LID0_EN
    else if i = 2 then s.b F.TMP_CFG_LID1_EN
    else if i = 5 then live && s.b F.CLK_STAT_ANOMALY_ARMED
    else if i = 6 || i = 7 then live
    else if i = 8 || i = 9 then live && !s.wake.watch
    else true)

/-- The sensors whose condition stands for a time and shows in TMP_STAT.ACTIVE; a glitch, a lockup and a failed frame are over as they
happen. -/
def tmpStanding : Nat := 0x43f

/-- The tamper latch takes the sensors of one sample (R566). -/
def State.tmpLatch (s : State) (new : Nat) (hold : Bool) : State :=
  let s1 := s.p F.TMP_LATCH_SEEN (s.g F.TMP_LATCH_SEEN ||| new)
  if s.b F.TMP_LATCH_VALID then s1
  else
    (((s1.p F.TMP_LATCH_FIRST (Nat.log2 new)).p F.TMP_LATCH_VALID 1).pb F.TMP_LATCH_IN_HOLD hold).p F.TMP_LATCH_BTIME
      (s.g F.PWR_BTIME_S % 2 ^ 32)

/-- One sensor's anomaly is counted and its event bit set (R566, R567). -/
def State.tmpCount (s : State) (i : Nat) : State :=
  let l := s.tmpLevel i
  let f := if l = 0 then F.TMP_CNT_ALARM i else if l = 1 then F.TMP_CNT_LOCK i else F.TMP_CNT_ZEROIZE i
  (((s.bump f).classInc (48 + l)).evt 0x33 i).evtIf (l == 0) 0x33 17

/-- Lock comes into force (R568). -/
def State.lockNow (s : State) : State :=
  if s.bat.lock then s.evt 0x33 18
  else
    let s1 : State := { s with bat := { s.bat with lock := true }, mod := { s.mod with parked := false } }
    (((((s1.ephClear).clearKeys).mseq).evt 0x33 18).moltPause)

/-- The Molt waits where a zeroization has stopped its scrub (R584). -/
def State.moltStopped (s : State) : State :=
  let s1 := s.moltPause
  if s1.moltRuns && s1.g F.TEN_STAT_STEP = 5 then s1.p F.TEN_STAT_PAUSED 1 else s1

/-- A zeroization outside Battery Hold, with its event (R570). -/
def State.zeroizeEvent (s : State) : State := ((s.zeroizeNow false).moltStopped).evt 0x33 19

/-- The response to the anomalies of one sample: the highest level among them is applied once (R566). -/
def State.tmpRespond (s : State) (new : Nat) : State :=
  let l := bitsBelow 11 new
  let s1 := l.foldl (fun (x : State) i => x.tmpCount i) s
  let s2 := if l.any (fun i => decide (1 ≤ s.tmpLevel i)) then s1.lockNow else s1
  if l.any (fun i => s.tmpLevel i == 2) then s2.zeroizeEvent else s2

/-- Anomalies arise. While the logic and Karpex dies are down, only the battery domain acts: it latches, and zeroizes at Zeroize
level; VBAT collapse there zeroizes at every level (R570, R567; When things fall together). -/
def State.tamper (s : State) (new : Nat) : State :=
  if new = 0 then s
  else if s.wake.inReset then
    let s1 := s.tmpLatch new (s.power == .batteryHold)
    let s2 : State := { s1 with bat := { s1.bat with inHold := s1.bat.inHold ||| new } }
    if new.testBit 0 || (bitsBelow 11 new).any (fun i => s.tmpLevel i == 2) then s2.zeroizeNow true else s2
  else (s.tmpLatch new false).tmpRespond new

/-- TAMPER_ANOMALY (R564, R566): one sample shows the conditions of the sensors; those newly shown are anomalies. -/
def effTamperAnomaly (sensors : BitVec 11) (s : State) : State :=
  let seen := sensors.toNat &&& s.tmpArmed
  let before := s.g F.TMP_STAT_ACTIVE
  let s1 := (s.p F.TMP_STAT_ACTIVE (seen &&& tmpStanding)).pb F.TMP_STAT_MESH_OK (!seen.testBit 10)
  (s1.tamper (seen &&& (0x7ff ^^^ before)))

/-- Boot step 3 takes in what happened in Battery Hold (R567, R570): the anomalies are counted and posted, Lock is applied, and a
zeroization runs its other steps. -/
def State.tmpBoot (s : State) : State :=
  let new := s.bat.inHold
  let s0 : State := { s with bat := { s.bat with inHold := 0 } }
  let l := bitsBelow 11 new
  let s1 := l.foldl (fun (x : State) i => x.tmpCount i) s0
  let z := new.testBit 0 || l.any (fun i => s.tmpLevel i == 2)
  let s2 := if z || l.any (fun i => decide (1 ≤ s.tmpLevel i)) then s1.lockNow else s1
  let s3 := if z then s2.evt 0x33 19 else s2
  if s3.bat.zeroized then (s3.zeroizeDies).nvmSlotsErase else s3

/-! ## Lift of Lock, latch and counts -/

/-- A sensor whose effective level is Lock or Zeroize still shows its condition (R569). -/
def State.lockStands (s : State) : Bool :=
  (bitsBelow 11 (s.g F.TMP_STAT_ACTIVE)).any (fun i => decide (1 ≤ s.tmpLevel i))

/-- TMP_CLR.LOCK_LIFT (R569): job keys are not delivered while tenancy is Molting (R584). -/
def State.lockLift (s : State) : State :=
  if !s.bat.lock then s
  else if s.lockStands then s.lost 0x33 63
  else
    let s1 := ({ s with bat := { s.bat with lock := false } } : State).mseq
    let s2 := if s1.tenancy == .molting then s1 else s1.deliverFor s1.tenantNo
    (s2.evt 0x33 16).moltResume

/-- A write of TMP_CLR (R569, R575). -/
def State.tmpClr (s : State) (v : Nat) : State :=
  let s1 := if v.testBit 0 then s.setWord F.TMP_LATCH_VALID.key 0 else s
  let s2 := if v.testBit 1 then s1.lockLift else s1
  if v.testBit 2 then (List.range 11).foldl (fun (x : State) i => x.setWord (F.TMP_CNT_ALARM i).key 0) s2 else s2

/-- A write of TMP_LEVEL stores, for each sensor, the higher of the value and the floor (R565). -/
def State.tmpLevelStore (s : State) (v : Nat) : State :=
  s.p F.TMP_LEVEL_LEVEL ((List.range 11).foldl (fun a i => a + max (fld v (2 * i) 2) (fld s.fuse.tmpFloor (2 * i) 2) * 4 ^ i) 0)

/-! ## Fence link -/

/-- FENCE_AUTH_FAIL (R23, R24): keys are cleared and sensor 9 has an anomaly; class 47 counts the frame. -/
def effFenceAuthFail (s : State) : State :=
  if s.b F.SYS_STAT_FENCE_UP then (((s.classInc 47).clearKeys).tamper 0x200) else s

/-- FENCE_REVOKE (R23): the Karpex die sends a revoke. -/
def effFenceRevoke (s : State) : State := if s.b F.SYS_STAT_FENCE_UP then s.clearKeys else s

/-! ## The consent clock -/

/-- Consent ends at its expiry (R664). -/
def State.consentExpiry (s : State) : State :=
  if s.debug != .closed && s.g F.DBG_CONSENT_EXPIRY ≤ s.ctr 3 then s.axisCall 9 0 0x13 0 else s

/-- CONSENT_CLOCK_TICK (R559): 3600 s of CLK_UPTIME have passed. -/
def effConsentClockTick (s : State) : State := if s.wake.inReset then s else ((s.ctrStep 3).consentExpiry)

end Sys2Proof.Machine
end

