-- ==== Sys2Proof/Machine/KeyCmd.lean ====
section
/-!
DEFINITION. Sys2Proof/Machine/KeyCmd.lean: the KEY commands (R572) with imports (R554 to R556), life-cycle moves (R573) and
re-provisioning (R574), and the counter commands (R560).
-/
namespace Sys2Proof.Machine
open Sys2Proof

/-! ## How a command ends -/

/-- A command ends well: KEY_CMDSTAT, KEY_EVT.DONE. -/
def State.keyDone (s : State) (slot : Nat) : State :=
  (((s.p F.KEY_CMDSTAT_STATE 2).p F.KEY_CMDSTAT_CAUSE 0).p F.KEY_CMDSTAT_SLOT slot).evt 0x31 1

/-- A command fails with a cause, and counts (R575). -/
def State.keyFail (s : State) (slot cause : Nat) : State :=
  ((((s.p F.KEY_CMDSTAT_STATE 3).p F.KEY_CMDSTAT_CAUSE cause).p F.KEY_CMDSTAT_SLOT slot).evt 0x31 1).lost 0x31 63

/-- A command fails where the manual names no cause for it: the cause is a free value (log entry 30). -/
def State.keyFailOpen (s : State) (slot : Nat) : State := let d := s.draw; d.2.keyFail slot (d.1.toNat % 256)

/-- What a command answered: done, or the cause that KEY_CMDSTAT shows. -/
def State.keyCause (s : State) : Option Nat := if s.g F.KEY_CMDSTAT_STATE = 2 then none else some (s.g F.KEY_CMDSTAT_CAUSE)

/-! ## Policies (R547) -/

/-- The uses that a TYPE allows. -/
def usesOf : Nat → Nat | 0 => 0x003 | 1 => 0x20c | 2 => 0x100 | 3 => 0x0f0 | _ => 0
def usesOk (typ uses : Nat) : Bool := decide (typ < 4) && (uses &&& (0xffff ^^^ usesOf typ)) == 0

/-- The bytes of a TYPE's content. -/
def contentLen : Nat → Nat | 1 => 48 | 2 => 97 | _ => 32

/-- The TYPE of a fixed slot (R549). -/
def fixedType (n : Nat) : Option Nat :=
  if n = 80 || n = 96 || n = 97 || n = 98 || n = 102 || n = 176 || n = 177 || n = 181 then some 2
  else if n = 99 || n = 100 || n = 178 || n = 179 then some 3
  else if n = 101 || n = 180 then some 1
  else none

/-! ## GENERATE, DELETE, CHECK, DELIVER -/

/-- GENERATE (R572): a device-class slot is filled from the DRBG under KEY_POLICY. -/
def State.keyGenerate (s : State) (n : Nat) (ck : KeyCheck) : State :=
  let pol := (s.word F.KEY_POLICY_RAW.key).toNat
  let typ := fld pol 6 2
  let uses := fld pol 16 10
  if slotClass n ≠ 0 || !usesOk typ uses then s.keyFail n 0x01
  else if typ ≠ 2 && !s.b F.KEY_ROOT_PRESENT then s.keyFail n 0x02
  else if s.b (F.KEY_POL_BAD n) then s.keyFail n 0x0a
  else if 64 ≤ n && !ck.programOk then s.keyFail n 0x06
  else
    let r := s.drbg (contentLen typ)
    (r.2.slotFill n typ uses (pol.testBit 5) r.1).keyDone n

/-- DELETE (R572). -/
def State.keyDelete (s : State) (n : Nat) (ck : KeyCheck) : State :=
  if 64 ≤ n && !ck.programOk then s.keyFail n 0x06 else (s.slotDelete n).keyDone n

/-- CHECK (R551, R552). What a check of an empty slot finds the manual does not say: a free value decides (log entry 30). -/
def State.keyCheck (s : State) (n : Nat) : State :=
  if s.b (F.KEY_POL_BAD n) then s.keyFail n 0x0a
  else if !s.b (F.KEY_POL_VALID n) then
    let d := s.draw
    if d.1.getLsbD 0 then d.2.keyDone n else d.2.keyFailOpen n
  else
    let r := s.slotCheck n
    if r.1 then r.2.keyDone n else r.2.keyFail n 0x05

/-- The bus and number that a job number names (R441). -/
def jobPlace (j : Nat) : Nat × Nat := (j / 256, j % 256)

/-- DELIVER (R561, R572): one job's key at the epoch that counter 7 shows; none while Molting (R55). The root is checked before the slot's KEK is derived from it
(R548, R553). -/
def State.keyDeliver (s : State) (n job : Nat) : State :=
  if s.bat.lock then s.keyFail n 0x09
  else if s.tenancy == .molting then s.keyFailOpen n
  else if s.b (F.KEY_POL_BAD n) then s.keyFail n 0x0a
  else if !s.b (F.KEY_POL_VALID n) || !(s.g (F.KEY_POL_USES n)).testBit 5 || !jobNumberOk job || s.bat.zeroized then s.keyFailOpen n
  else
    let q := if 64 ≤ n then s.rootCheck else (true, s)
    if !q.1 then q.2.keyFail n 0x05
    else
      let r := q.2.slotUse n
      match r.1 with
      | none => r.2.keyFail n 0x05
      | some m =>
        let p := jobPlace job
        let s1 := r.2.keyJob p.1 p.2 (jobKeyOf m p.1 p.2 (r.2.ctr 7))
        let gone := s1.someUnkeyed
        let s2 : State := { s1 with mod := { s1.mod with keysAbsent := gone } }
        (if gone then s2 else s2.doorsUnpark).keyDone n

/-! ## IMPORT (R554 to R556) -/

def impSlot (b : List Byte) : Nat := leAt b 4 1
def impType (b : List Byte) : Nat := leAt b 5 1
def impUses (b : List Byte) : Nat := leAt b 6 2
def impSeq (b : List Byte) : Nat := leAt b 9 4

/-- The slot that signs an import into a slot, and the counter of its class; none for a device-class slot. -/
def impAuthority (n : Nat) : Option (Nat × Nat) :=
  if n = 181 then some (102, 9)
  else match slotClass n with
    | 1 => some (80, 8)
    | 2 => some (102, 9)
    | 3 => some (181, 10)
    | _ => none

/-- The fields of a blob (R547, R549, R554). -/
def impFieldsOk (b : List Byte) : Bool :=
  let t := impType b
  let n := impSlot b
  leAt b 0 4 == 0x4d494b51 && (t == 0xff || usesOk t (impUses b)) && leAt b 8 1 < 2 && zeroAt b 0xd 3 &&
  (t == 0 || t == 1 || t == 3 || zeroAt b 0x10 97) && zeroAt b 0x71 15 && (t != 0xff || zeroAt b 0x80 128) &&
  (impAuthority n).isSome && (t == 0xff || (match fixedType n with | some f => f == t && leAt b 8 1 == 0 | none => true))

/-- The content that a blob carries (R554, R555). -/
def State.impContent (s : State) (b : List Byte) : List Byte :=
  if impType b = 2 then slice b 0x80 97
  else
    let z := (List.range 48).map (Config.ecdhByte s.importKey (slice b 0x10 97))
    let k := hkdf z [] (labelKim ++ wordBytes s.fuse.serial ++ leBytes 1 (impSlot b)) 32
    let n := contentLen (impType b)
    (List.range n).map (Config.gcmOpenByte k (List.replicate 12 0) (b.take 16) (slice b 0x80 n))

/-- The checks of R556 up to the root's own, in their order: the first cause that fails. -/
def State.impCause (s : State) (b : List Byte) (ck : KeyCheck) (authOk : Bool) : Option Nat :=
  let t := impType b
  let secret := t == 0 || t == 1 || t == 3
  let n := impSlot b
  let au := (impAuthority n).getD (0, 0)
  let own := s.fuse.life == .blank && (n == 80 || n == 102)
  if s.bat.lock then some 0x09
  else if !impFieldsOk b then some 0x01
  else if secret && !s.b F.KEY_ROOT_PRESENT then some 0x02
  else if !ck.signatureOk || !(own || authOk) then some 0x03
  else if impSeq b ≤ s.ctr au.2 then some 0x08
  else if secret && !ck.tagOk then some 0x04
  else if s.b (F.KEY_POL_BAD n) then some 0x0a
  else if !ck.programOk then some 0x06
  else none

/-- IMPORT of a blob. -/
def State.keyImportOf (s : State) (b : List Byte) (slot : Nat) (ck : KeyCheck) : State :=
  let n := impSlot b
  let t := impType b
  let own := s.fuse.life == .blank && (n == 80 || n == 102)
  let au := (impAuthority n).getD (0, 0)
  -- the authority's slot is read only where the checks before the signature pass
  let early := s.bat.lock || !impFieldsOk b || ((t == 0 || t == 1 || t == 3) && !s.b F.KEY_ROOT_PRESENT)
  let u := if early || own then (some [], s) else s.slotUse au.1
  if !early && !own && u.1.isNone && s.slotValid au.1 then u.2.keyFail slot 0x05
  else match u.2.impCause b ck u.1.isSome with
    | some c => u.2.keyFail slot c
    | none =>
      let q := if t = 2 || t = 0xff then (true, u.2) else u.2.rootCheck
      if !q.1 then q.2.keyFail slot 0x05
      else
        let s1 := if t = 0xff then q.2.slotDelete n
          else q.2.slotFill n t (impUses b) (leAt b 8 1 == 1) (q.2.impContent b)
        (s1.ctrRaise au.2 (impSeq b)).keyDone slot

/-- IMPORT: the blob lies in secure SRAM at KEY_SRC. -/
def State.keyImport (s : State) (slot : Nat) (ck : KeyCheck) : State :=
  s.keyImportOf (s.bytes (s.g F.KEY_SRC_ADDR) 352) slot ck

/-! ## NEWROOT, the fuses, COMMIT -/

/-- NEWROOT (R541, R572). -/
def State.keyNewroot (s : State) (slot : Nat) (ck : KeyCheck) : State :=
  if !(s.fuse.life == .blank || s.bat.zeroized) || s.b F.KEY_ROOT_PRESENT then s.keyFailOpen slot
  else if !ck.programOk then s.keyFail slot 0x06
  else
    let s1 := s.ctrStep 6
    let s2 : State := { s1 with
      bat := { s1.bat with opRoot := some s1.freeCount, rootFailing := [] }, freeCount := s1.freeCount + 1 }
    ((s2.p F.KEY_ROOT_PRESENT 1).p F.KEY_ROOT_EPOCH (s2.ctr 6)).keyDone slot

/-- A life-cycle target may be blown (R52, R573). -/
def State.lifeReady (s : State) (target : Nat) (ck : KeyCheck) : Bool :=
  match target with
  | 1 => s.fuse.life == .blank && s.b F.KEY_ROOT_PRESENT && s.slotValid 80 && s.slotValid 96 && s.slotValid 102
  | 2 => s.fuse.life == .provisioned && !s.bat.zeroized &&
      (match s.nvm.table with
       | some img => (s.tableCause img ⟨ck.tableOk, ck.tableOk, true⟩).isNone
       | none => false)
  | 3 => s.fuse.life != .returned
  | _ => false

/-- What a move to Returned erases before Rt is blown (R181, R573). -/
def State.returnErase (s : State) : State :=
  let s1 := (List.range 256).foldl (fun (x : State) n => if slotClass n = 0 then x else x.slotDelete n) s.bbramErase
  { s1 with nvm := { s1.nvm with site := [] } }

/-- Blows a life-cycle fuse. -/
def Fuses.blow (f : Fuses) (target : Nat) : Fuses :=
  match target with | 1 => { f with fuseP := true } | 2 => { f with fuseD := true } | _ => { f with fuseRt := true }

/-- A life-cycle fuse is blown; in Returned CMG refuses every commit, so the gate is disarmed (R52). -/
def State.fuseBlow (s : State) (target : Nat) : State :=
  let s1 : State := { s with fuse := s.fuse.blow target }
  if s1.fuse.life.dead then s1.commandDisarm else s1

/-- LIFECYCLE (R52, R545, R573): MOD_REQ1 reports the outcome; the cause of a refusal there and what a fuse reads after a failed
read-back are free values (log entries 105, 162). -/
def State.keyLifecycle (s : State) (slot target : Nat) (ck : KeyCheck) : State :=
  let shown := fun (x : State) => (x.p (F.MOD_REQ_VALUE 1) target).p (F.MOD_REQ_ARG 1) 0
  if !s.lifeReady target ck then
    ((shown s).reqRefuseOpen 1).keyFailOpen slot
  else
    let s1 := if target = 3 then s.returnErase else s
    if ck.programOk then
      (((shown (s1.fuseBlow target)).reqAccept 1).keyDone slot)
    else
      let d := s1.draw
      let s2 := if d.1.getLsbD 63 then d.2.fuseBlow target else d.2
      ((shown s2).reqRefuseOpen 1).keyFail slot 0x07

/-- KEEPER_FLOOR (R544, R572): thermometer positions up to ARG are blown; after a failed read-back some of them are. -/
def State.keyKeeperFloor (s : State) (slot arg : Nat) (ck : KeyCheck) : State :=
  if arg ≤ s.fuse.keeperFloor || 1024 < arg then s.keyFailOpen slot
  else if ck.programOk then ({ s with fuse := { s.fuse with keeperFloor := arg } } : State).keyDone slot
  else
    let d := s.draw
    let n := s.fuse.keeperFloor + d.1.toNat % (arg - s.fuse.keeperFloor + 1)
    ({ d.2 with fuse := { d.2.fuse with keeperFloor := n } } : State).keyFail slot 0x07

/-- TMP_FLOOR (R565, R572): the floor of sensor ARG [3:0] rises to ARG [5:4]; TMP_LEVEL keeps every level at or above its floor. -/
def State.keyTmpFloor (s : State) (slot arg : Nat) (ck : KeyCheck) : State :=
  let i := fld arg 0 4
  let l := fld arg 4 2
  let old := fld s.fuse.tmpFloor (2 * i) 2
  let put := fun (x : State) (v : Nat) =>
    let y : State := { x with fuse := { x.fuse with tmpFloor := x.fuse.tmpFloor - old * 4 ^ i + v * 4 ^ i } }
    y.tmpLevelStore (y.g F.TMP_LEVEL_LEVEL)
  if 10 < i || 2 < l || l ≤ old then s.keyFailOpen slot
  else if ck.programOk then (put s l).keyDone slot
  else
    let d := s.draw
    (put d.2 (if d.1.getLsbD 0 then l else old)).keyFail slot 0x07

/-- The slots that a re-provisioning needs are valid (R574, R584): of the tenant that a Molt brings in, else of the current one. -/
def State.commitReady (s : State) : Bool :=
  let molt := s.tenancy == .molting
  let t := if molt then s.bat.moltTarget else s.tenantNo
  let en := if molt then (match s.tenantConfig t with | some c => bitAt (leAt c 0x88 8) 0 | none => false) else s.b F.GRP_CFG_EN
  let jobs := if molt then
      (match s.tenantConfig t with
       | some c => (List.range 80).all (fun i => !bitAt (cfgJob c i) 0 || cfgMasterAt c i == 0xff || s.slotValid (cfgMasterAt c i))
       | none => true)
    else s.enabledJobs.all (fun p => s.masterOf p.1 p.2 == 0xff || s.slotValid (s.masterOf p.1 p.2))
  s.slotValid (slotTime t) && (!en || s.slotValid (slotGroup t)) && jobs

/-- COMMIT (R574, R584). -/
def State.keyCommit (s : State) (slot : Nat) : State :=
  if !s.bat.zeroized || !s.b F.KEY_ROOT_PRESENT then s.keyFailOpen slot
  else if !s.commitReady then s.keyFail slot 0x0b
  else
    let molt := s.moltRuns
    let t := if molt then s.bat.moltTarget else s.tenantNo
    let s1 : State := { s with
      bat := { s.bat with zeroized := false }
      mod := { s.mod with base := .outOfService, baseCause := 0, baseWho := 0, parked := false } }
    let s2 := (s1.emcDeliver t).emcLoadKey
    if molt && s2.g F.TEN_STAT_STEP < 5 then s2.keyDone slot
    else if molt then (((s2.p F.TEN_STAT_STEP 5).p F.TEN_STAT_PAUSED 0).moltScrub).keyDone slot
    else ((if s2.b F.PWR_STAT_VDDQ_OK then s2.scrubStart else { s2 with emc := { s2.emc with scrubOwed := true } }).deliverFor t).keyDone slot

/-- A KEY_CMD (R572): command, slot, argument. A number that names no command fails. -/
def State.keyCmd (s : State) (cmd slot arg : Nat) (ck : KeyCheck) : State :=
  match cmd with
  | 1 => s.keyGenerate slot ck
  | 2 => s.keyImport slot ck
  | 3 => s.keyDelete slot ck
  | 4 => s.keyCheck slot
  | 5 => s.keyDeliver slot arg
  | 6 => s.keyNewroot slot ck
  | 7 => s.keyLifecycle slot arg ck
  | 8 => s.keyKeeperFloor slot arg ck
  | 9 => s.keyTmpFloor slot arg ck
  | 10 => s.keyCommit slot
  | _ => s.keyFailOpen slot

/-! ## Counters (R560) -/

/-- A counter command ends. -/
def State.ctrEnd (s : State) (cause : Nat) : State :=
  let s1 := ((s.p F.CTR_CMDSTAT_STATE (if cause = 0 then 2 else 3)).p F.CTR_CMDSTAT_CAUSE cause).evt 0x32 0
  if cause = 0 then s1 else s1.lost 0x32 63

/-- INC: adds one. -/
def State.ctrInc (s : State) (i : Nat) (programOk : Bool) : State :=
  if s.ctr i = 0xffffffff then s.ctrEnd 2
  else if !programOk then s.ctrEnd 3
  else (((s.ctrStep i).consentExpiry)).ctrEnd 0

/-- RAISE: sets a value above the current one. -/
def State.ctrRaiseTo (s : State) (i v : Nat) (programOk : Bool) : State :=
  if v ≤ s.ctr i then s.ctrEnd 1
  else if !programOk then s.ctrEnd 3
  else ((s.ctrSet i v).consentExpiry).ctrEnd 0

/-- A write of CTR_CMD: operation, index and value. -/
def State.ctrCmd (s : State) (op i v : Nat) (programOk : Bool) : State :=
  if op = 1 then s.ctrInc i programOk else if op = 2 then s.ctrRaiseTo i v programOk else s

end Sys2Proof.Machine
end

