-- ==== Sys2Proof/Machine/Power.lean ====
section
/-!
DEFINITION. Sys2Proof/Machine/Power.lean: supplies and clocks (R154 to R159, R165 to R167, R187), resets (R170 to R176, R188 to
R190), the boot chain (R178 to R184), the wake (R163, R164, R248).
-/
namespace Sys2Proof.Machine
open Sys2Proof

/-! ## What a reset keeps (R170) -/

/-- Registers that the battery domain or secure NVM hold (R188, R546, R559, R575, R614), and the supply monitors, which no reset
changes. -/
def heldKey (key : Nat) : Bool :=
  let off := key % 0x100000
  match key / 0x100000 with
  | 0x02 => off == 0x18 || off == 0x98
  | 0x03 => off == 0x88
  | 0x31 => off == 0xa0 || (decide (0xc0 ≤ off) && decide (off < 0xe0)) || (decide (0x400 ≤ off) && off % 0x40 == 0)
  | 0x32 => decide (0x100 ≤ off)
  | 0x33 => off == 0x80 || off == 0x98 || off == 0xa8 || decide (0x100 ≤ off)
  | 0x34 => off == 0xb0 || off == 0xb8 || off == 0xc0
  | _ => false

/-- Registers that a warm reset keeps beside those (R131, R149, R170, R186, R209). It keeps no other register: the counts whose Meaning
says "since power-on" (DBG_COUNT, CBn_ERR.BUSOFFS, CLK_XIN_DEV.WINDOWS, CAR_RELEARN.STARTS) are not in R170's list of what a warm reset
keeps, and clear (log entry 174). -/
def warmKey (key : Nat) : Bool :=
  let off := key % 0x100000
  off == 0x30 ||
  (match key / 0x100000 with
   | 0x00 => off == 0x90 || off == 0x98
   | 0x01 => off == 0x88
   | 0x04 => off == 0x90 || off == 0x98 || (decide (0x100 ≤ off) && decide (off < 0x300))
   | _ => false)

/-- The registers that show fuses and battery state (R86, R614), and the grants of the combination that they make (R116, R150). -/
def State.fuseShown (s : State) : State :=
  let life := s.fuse.life
  let ten := if life.dead then 0 else s.bat.tenancy
  let s1 := ((s.p F.MOD_CUR_LIFECYCLE life.code).pb F.MOD_CUR_ZEROIZED s.bat.zeroized).p F.MOD_CUR_TENANCY ten
  let s2 := ((s1.p (F.MOD_CAUSE_VALUE 1) life.code).p (F.MOD_CAUSE_VALUE 2) ten).p F.TEN_STAT_TARGET s.bat.moltTarget
  (List.range 8).foldl (fun (x : State) n => x.p (F.SYS_PAM_GRANTS n) (s2.pamGrants n)) s2

/-- The Carapace turns every output off and empties its slots at the barrier frame of R171. -/
def Carapace.offAll (c : Carapace) : Carapace := { c.disarm with applied := 0 }

/-- What a reset of the logic die leaves of the Carapace: a warm reset sends the frame of R171; a power-on reset turns the transformer
driver off (R168), so that the die loses its supply and is reset (R170; log entry 173). -/
def Carapace.dieReset (c : Carapace) (warm : Bool) : Carapace :=
  if warm then (if c.on then c.offAll else c) else { c.reset with driven := false }

/-- The power state that a reset leaves, as the next entry to Run will record it (R51): Battery Hold, Watch or Halt; while a reset or its
boot is still under way, what was recorded stands. -/
def State.powerLeft (s : State) : Nat :=
  if s.power == .batteryHold then 1
  else if s.wake.inReset || s.wake.bootPending then s.g (F.MOD_CAUSE_FROM 0)
  else if s.wake.watch then 2 else if s.power == .halt then 4 else 0

/-- The logic die and the Karpex die are reset, and with a power-on reset the memories lose their contents (R23, R42, R170, R176,
R209, R242). -/
def State.resetDies (s : State) (warm : Bool) : State :=
  let keep := fun (c : Nat × Word) => heldKey c.1 || (warm && warmKey c.1)
  let r : State := { State.reset with
    pending := s.pending
    regs := s.regs.filter keep
    fuse := s.fuse, bat := s.bat, nvm := s.nvm
    wake := { Wake.held with inReset := !warm, bootPending := warm, pllStarted := warm }
    logUpsets := if warm then s.logUpsets else []
    cpc := s.cpc.dieReset warm
    key := { s.key with handles := [], eph := List.replicate 32 none }
    emc := if warm then { EmcState.fresh with written := s.emc.written } else EmcState.fresh
    mem := s.mem.filter (fun c => (decide (0x28000000 ≤ c.1) && decide (c.1 < 0x30000000)) || (warm && decide (0x80000000 ≤ c.1)))
    memFill := s.memFill, readOut := s.readOut, freeCount := s.freeCount, tick := s.tick }
  let r1 := (r.p F.PWR_STAT_VFLD_OK 0).p (F.MOD_CAUSE_FROM 0) s.powerLeft
  let r2 := if warm then
      (r1.p F.CLK_STAT_XMODE (s.g F.CLK_STAT_XMODE)).p F.CLK_STAT_ANOMALY_ARMED (s.g F.CLK_STAT_ANOMALY_ARMED)
    else r1.freshFill
  r2.fuseShown

/-- A warm reset (R154, R171, R188, R189). A gather that it aborts is counted, in a field that it keeps (R131, R296). -/
def State.warmReset (s : State) (source : Nat) : State := ((s.gatherAbort.resetDies true).bump F.RST_COUNT_WARM).resetRecord 3 source

/-- A PLL failure (R154). -/
def State.pllFail (s : State) : State := ((s.warmReset 4).classInc 29)

/-! ## The battery domain -/

/-- On a return of VDD_AON the battery domain draws a mask and rewrites BBRAM under it; the slots and the root are checked
(R550, R551, R553). -/
def State.bbramRemask (s : State) : State :=
  let s1 : State := { s with bat := { s.bat with maskNo := s.freeCount }, freeCount := s.freeCount + 1 }
  let s2 := (List.range 64).foldl (fun (x : State) n => if x.slotValid n then (x.slotCheck n).2 else x) s1
  s2.rootCheck.2

/-- A battery power-on clears the battery domain (R170, R174, R214, R541, R565, R575). -/
def State.batteryClear (s : State) : State :=
  let s1 := (List.range 64).foldl State.slotDelete s
  let zero := s.fuse.life == .provisioned || s.fuse.life == .deployed
  let s2 : State := { s1 with bat := { Battery.fresh with zeroized := zero }, tick := 0 }
  let s3 := [F.RST_COUNT_WARM, F.PWR_BTIME_S, F.TMP_LATCH_SEEN, F.TMP_CFG_LID0_EN, F.KEY_ROOT_PRESENT].foldl
    (fun (x : State) f => x.setWord f.key 0) s2
  s3.p F.TMP_LEVEL_LEVEL s.fuse.tmpFloor

/-! ## The boot chain (R178 to R184) -/

/-- A boot failure (R182): the first is recorded, every later one counts in RST_TROUBLE.LASTING. -/
def State.bootFail (s : State) (step code : Nat) : State :=
  if s.g F.RST_BOOT_FAIL_AT = 0 then (s.p F.RST_BOOT_FAIL_AT step).p F.RST_BOOT_FAIL_CODE code else s.bump (hdrTrouble 3 1)

/-- A read of secure NVM in the boot chain (R179): whether it succeeds. -/
def State.bootRead (s : State) (a : Attempts) : Bool × State :=
  match a with
  | .first => (true, s)
  | .second => (true, s.transient 3 20)
  | .lasting => (false, s.lasting 3 21)

/-- A read that fails lastingly as a boot failure: R179 has counted it, so that a later one is not counted twice. -/
def State.bootReadFail (s : State) (step : Nat) : State := if s.g F.RST_BOOT_FAIL_AT = 0 then s.bootFail step 0x01 else s

/-- Step 2: the Keeper image (R178, R179, R182); the ROM stays in recovery when it fails. -/
def State.bootKeeper (s : State) (ck : ImageCheck) : Bool × State :=
  let s0 := s.p F.RST_BOOT_STEP 1
  let r := s0.bootRead ck.read
  if !r.1 then (false, (r.2.bootReadFail 2).p F.RST_BOOT_RECOVERY 1)
  else if !ck.signatureOk || !r.2.nvm.keeperValid then (false, (r.2.bootFail 2 0x02).p F.RST_BOOT_RECOVERY 1)
  else if r.2.nvm.keeperVersion < r.2.fuse.keeperFloor then (false, (r.2.bootFail 2 0x03).p F.RST_BOOT_RECOVERY 1)
  else (true, r.2.p F.RST_BOOT_STEP 2)

/-- Last-resort increments held in PENDING reach BBRAM, and LOG_SELF shows the byte as Keeper reads it (R213). -/
def State.lastResortSend (s : State) : State :=
  let n := satTo 8 (s.bat.lastResort + s.g F.LOG_SELF_PENDING)
  (({ s with bat := { s.bat with lastResort := n } } : State).p F.LOG_SELF_PENDING 0).p F.LOG_SELF_BBRAM n

/-- Step 3: measurements, the fence link, the consent clock, and what the battery domain has recorded (R178, R213, R559, R570, R584).
The core leaves the ROM for Keeper, at a place that the manual does not give. -/
def State.bootFence (s : State) : State :=
  let d := s.measureRoot.draw
  let s1 : State := { d.2 with core := { d.2.core with pc := d.1 &&& ~~~(3 : Word) } }
  let s2 := ((s1.p F.SYS_STAT_FENCE_UP 1).lastResortSend).ctrStep 3
  let s3 := s2.tmpBoot
  let s4 : State := if s3.g F.RST_CAUSE_TYPE = 2 then { s3 with
      bat := { s3.bat with molting := false }, nvm := { s3.nvm with moltOrder := [] } } else s3
  s4.p F.RST_BOOT_STEP 3

/-- Keeper writes back the management configuration (R649; log entry 25). -/
def State.mgtRestore (s : State) : State :=
  let c := s.nvm.mgtConfig
  if c.length < 40 then s
  else (List.range 5).foldl (fun (x : State) i => x.keeperPut 0x2a (0x88 + 8 * i) (leAt c (8 * i) 8)) s

/-- Step 4: the site record, base mode (R101), the DSE microcode (R373, R599), external memory (R589). An invalid microcode has no
code of its own in RST_BOOT, which then shows a free value (log entry 31). -/
def State.bootBlocks (s : State) (env : BootEnv) : State :=
  let s1 := s.siteRestore.cfgDigest
  let s2 : State := { s1 with mod := { s1.mod with base := if s1.b F.MOD_CFG_PL_EXIT then .outOfService else .normal } }
  let s3 := if env.microcodeOk then
      ((s2.measure 2 Config.microcodeDigest Config.microcodeVersion.toNat).setDse { s2.dse with microcode := true }).p F.DSE_STAT_RUN 1
    else let d := s2.draw; d.2.bootFail 4 (d.1.toNat % 256)
  let r := s3.emcStart env.training
  (if r.1 then r.2 else r.2.bootFail 4 0x04).p F.RST_BOOT_STEP 4

/-- The slots whose stored image belongs to the tenant and fails its check, or has no valid key to check it with (R182, R532). -/
def State.badApplets (s : State) (oks : List Bool) : List Nat :=
  (List.range 8).filter (fun slot => match s.appletImage slot with
    | some img => imgTenant img == s.tenantNo && !(oks.getD slot true && s.slotValid (slotApplet s.tenantNo))
    | none => false)

/-- Step 5: applets; each invalid one is a failure of its own (R182). While tenancy is Molting no tenant is current. -/
def State.bootApplets (s : State) (oks : List Bool) : State :=
  let s1 := if s.tenancy == .molting then s
    else (s.badApplets oks).foldl (fun (x : State) _ => x.bootFail 5 0x02) (s.startApplets s.tenantNo oks)
  s1.p F.RST_BOOT_STEP 5

/-- Step 6, which Blank skips (R183): the tenant's configuration, job keys, the requests on indexes 5, 6 and 7 (R468, R561, R578). -/
def State.bootJobs (s : State) : State :=
  let s1 := if s.fuse.life == .blank then s
    else
      let a := if s.tenancy == .molting then s else match s.tenantConfig s.tenantNo with | some c => s.applyConfig c | none => s
      let b := if a.tenancy == .molting then a else a.deliverFor a.tenantNo
      let c := (b.makeRequest 5 0 0 5).makeRequest 6 0 0 5
      if c.b F.TSY_CFG_FREE then c else c.makeRequest 7 2 0 5
  s1.p F.RST_BOOT_STEP 6

/-- Step 7: PLAIN_ALLOWED from the tenant's policy; none while tenancy is Molting or ZEROIZED holds (R109, R178). MGT starts. -/
def State.bootHost (s : State) : State :=
  let allow := match s.tenantConfig s.tenantNo with
    | some c => if s.tenancy == .molting || s.bat.zeroized || s.fuse.life.dead then 0 else leAt c 7 1 % 2
    | none => 0
  let s1 := (s.plainAllow allow).mgtRestore
  ({ s1 with wake := { s1.wake with mgtUp := true } } : State).p F.RST_BOOT_STEP 7

/-- Step 8, and the Molt that a reset has interrupted (R178, R584): before tenancy is Molting its next evaluation is told again; once it
is, the Molt runs from step 3; where the target tenant is already current, step 8 is still owed. -/
def State.bootEnd (s : State) : State :=
  let s1 : State := { s with wake := { s.wake with rstoutN := true } }
  let s2 := (((s1.p F.RST_BOOT_STEP 8).p F.SYS_STAT_KEEPER_UP 1).evt 3 0)
  if !s2.bat.molting then s2
  else if s2.bat.tenancy = 2 then s2.p F.TEN_STAT_STEP 3
  else if s2.bat.tenancy = s2.bat.moltTarget then s2.p F.TEN_STAT_STEP 8
  else (s2.p F.TEN_STAT_STEP 2).axisCall 2 2 0x14 5

/-- The boot chain up to step 4 (R178); the Keeper branch is owed after it. -/
def State.bootChain (s : State) (env : BootEnv) : State :=
  let s0 : State := { s with wake := { s.wake with bootPending := false } }
  let r := s0.bootKeeper env.keeper
  if r.1 then
    let s1 := r.2.bootFence.bootBlocks env
    { s1 with wake := { s1.wake with applets := some env.appletsOk } }
  else r.2

/-- The next step of the Keeper branch, 5 to 8 (R178): it runs beside the field branch, in idle time (log entry 94). -/
def State.bootBranch (s : State) : State :=
  match s.wake.applets with
  | none => s
  | some oks =>
    match s.g F.RST_BOOT_STEP with
    | 4 => s.bootApplets oks
    | 5 => s.bootJobs
    | 6 => s.bootHost
    | _ => { s with wake := { s.wake with applets := none } }.bootEnd

/-- The registers that show the Carapace's table and configuration return to their Reset values (R170, R270, R298). -/
def configKey (key : Nat) : Bool :=
  let off := key % 0x100000
  match key / 0x100000 with
  | 0x11 => off == 0xa0 || (decide (0x400 ≤ off) && off % 0x40 == 0)
  | 0x12 | 0x13 => decide (0x400 ≤ off) && off % 0x40 == 0
  | 0x14 => off == 0x98 || off == 0xa0
  | _ => false
def State.tableHidden (s : State) : State := { s with regs := s.regs.filter (fun c => !configKey c.1) }

/-- F1 (R168, R178, R189, R270): the Carapace is reset, the barrier link comes up, counters start at zero, and every configuration
register holds its Reset value. -/
def State.fieldOne (s : State) : State :=
  let s1 : State := { s.tableHidden with
    cpc := { s.cpc.reset with driven := true }
    bar := { Barrier.fresh with watchGap := s.bar.watchGap, rise := s.bar.linkEnds.rise, fall := s.bar.linkEnds.fall } }
  let s2 := (List.range 4).foldl (fun (x : State) u => x.setWord (F.FCNT_VAL_VALUE u).key 0) s1
  ((s2.p F.SYS_STAT_BARRIER_UP 1).p F.FLD_STAT_SILENT 0).p F.RST_BOOT_FSTEP 1

/-- F2 (R178 to R180, R182, R183): the stored table is verified, measured and transferred. -/
def State.fieldTwo (s : State) (env : FieldEnv) : Bool × State :=
  if s.fuse.life == .blank then (false, s)
  else match s.nvm.table with
    | none => (false, s.bootFail 0x12 0x05)
    | some img =>
      let r := s.bootRead env.table.read
      if !r.1 then (false, r.2.bootReadFail 0x12)
      else if !env.table.signatureOk || !r.2.slotValid 96 then (false, r.2.bootFail 0x12 0x02)
      else
        let body := img.take 10240
        let s1 := r.2.measure 3 (Config.sha384 body) (bodyVersion img)
        if !env.transferOk then (false, s1.bootFail 0x12 0x06)
        else
          let c : Carapace := { s1.cpc with table := some body, digest := Config.sha384 body, tableOk := true }
          let s2 : State := { s1 with cpc := c.configure (bodyConfig body) }
          (true, ((s2.tableShown body).setDigestRecord (Config.sha384 body)).p F.RST_BOOT_FSTEP 2)

/-- The field branch: F1, F2, F3 (R178, R332). -/
def State.fieldBranch (s : State) (env : FieldEnv) : State :=
  let r := s.fieldOne.fieldTwo env
  if r.1 then ((r.2.keeperArms).p F.RST_BOOT_FSTEP 3).evt 3 1 else r.2

/-- A Carapace reset outside the boot chain (R170, R172, R188): the effect of R29 on the logic die, and the end of every debug session
(R661). Keeper runs F1 to F3 again. -/
def State.carapaceReset (s : State) (source : Nat) : State :=
  let s1 := (s.bump F.RST_COUNT_CARAPACE).resetRecord 5 source
  let s2 : State := { s1.abandonAll.nonceClear.tableHidden with cpc := s1.cpc.reset }
  let s2a := (((s2.linkDown).shadowEmpty).dseGateLost).sweepAbort.gatherAbort
  let s3 := ({ s2a with bar := { s2a.bar.linkEnds with sweepQ := [], inhibit := 0 } } : State).loadStops 0x09 false
  ((if s3.debug == .closed then s3 else s3.axisCall 9 0 0x19 0).p F.SYS_STAT_BARRIER_UP 0).p F.RST_BOOT_FSTEP 0

/-! ## The wake (R163, R164, R248) -/

/-- The third step of the repost: one doorbell for each EVT bit that reads 1 while its EVTEN bit is 1. -/
def State.wakeRescan (s : State) : State :=
  pageNumbers.foldl (fun (x : State) pg =>
    (bitsBelow 64 ((x.word (hdrEvt pg).key).toNat &&& (x.word (hdrEvten pg).key).toNat)).foldl
      (fun (y : State) b => y.post (evtSource pg b)) x) s

/-- Mode inputs that changed in Watch act in the first evaluation after it (R111). -/
def State.wakeInputs (s : State) : State :=
  let step := fun (p : ModeInput × Nat) =>
    let lvl := selActive (fld (s.g F.MOD_INSEL_SEL) (8 * p.2) 8) (s.g F.FIN_STATE_STATE)
    if lvl = p.1.level then p.1 else { p.1 with level := lvl, frames := 0, active := lvl }
  { s with mod := { s.mod with inputs := s.mod.inputs.zipIdx.map step } }

/-- The domains resume on lock, and the wake runs its steps. FFY_CAUSE.SRC is the source that started the wake (R254); second attempts on
the watch lanes end with Watch, uncounted (R197). -/
def State.wakeRun (s : State) : State :=
  let rec0 := s.wake.recorded
  let top := s.wake.starter.getD 0
  let slots := ofBits 16 (fun i => s.b (F.FFY_SLOT_EN i) && rec0.contains (s.g (F.FFY_SLOT_SRC i)))
  let s1 : State := { s with wake := { s.wake with watch := false, waking := false, starter := none, recorded := [], timerArmed := false, mgtUp := true } }
  let s2 := ((s1.p F.FFY_CAUSE_SRC top).p F.FFY_CAUSE_SLOTS slots).bump F.FFY_CAUSE_WAKES
  let s3 := (rec0.foldl (fun (x : State) n => x.post n) s2).settle
  let s4 := (((s3.evt 6 0).settle).wakeRescan).settle
  let s5 := s4.tsyWake (rec0 == [3])
  let s6 := if s5.bar.watchGap then ({ s5 with bar := { s5.bar with watchGap := false } } : State).lost 0x10 28 else s5
  let s7 := if s6.g F.RST_BOOT_FSTEP = 3 then s6.keeperArms else s6
  let s7a : State := { s7.wakeInputs with bar := s7.bar.linkEnds, cpc := { s7.cpc with repeatIn := false, watchRepeat := false } }
  let s8 := ((s7a.p F.EMC_STAT_SELFREF 0).canSync 0).canSync 1
  if s8.bat.zeroized then s8.nvmSlotsErase else s8

/-! ## The commands -/

/-- POWER_ON_RESET (R165, R170, R188, R550). On the initial ramp VDD_AON has returned. A battery power-on reset in force is wider and
takes precedence (R173). -/
def effPowerOnReset (src : PorSource) (s : State) : State :=
  if s.wake.inReset && s.g F.RST_CAUSE_TYPE = 2 then s else
  let code := match src with | .ramp => 1 | .porn => 2 | .brownOut => 3
  let s1 := (s.resetDies false).resetRecord 1 code
  let s2 := if src = .brownOut then (s1.bump F.RST_COUNT_BROWNOUT).classInc 30 else s1
  if src = .ramp then (s2.bbramRemask).fuseShown else s2

/-- POWER_ON_RESET_END (R152, R154, R165): XMODE is sampled and the PLL starts; the boot chain waits for its lock. -/
def effPowerOnResetEnd (xmode : Bool) (s : State) : State :=
  if s.wake.inReset && s.power != .batteryHold then
    ({ s with wake := { s.wake with inReset := false, pllStarted := true, bootPending := true } } : State).pb F.CLK_STAT_XMODE xmode
  else s

/-- BATTERY_POWER_ON (R159, R170, R174): out of Off. -/
def effBatteryPowerOn (s : State) : State :=
  ((((s.batteryClear.resetDies false).p (F.MOD_CAUSE_FROM 0) 0).resetRecord 2 0).bbramRemask).fuseShown

/-- BATTERY_HOLD_ENTRY (R158): VDD_AON is gone and VBAT remains; only the battery domain runs. -/
def effBatteryHoldEntry (s : State) : State :=
  let s1 := (s.resetDies false).p F.MOD_CUR_POWER 1
  (s1.p F.PWR_STAT_VDDQ_OK 0).p F.PWR_STAT_PCIE_OK 0

/-- WARM_RESET (R170, R173): WARMN; a power-on reset in force takes precedence. -/
def effWarmReset (s : State) : State := if s.wake.inReset then s else s.warmReset 1

/-- PLL_LOCK (R154, R155): the domains run; a boot or a wake that waits for it goes on. -/
def effPllLock (env : BootEnv) (s : State) : State :=
  if s.wake.inReset || !s.wake.pllStarted || s.b F.CLK_STAT_PLL_LOCK then s
  else
    let s1 := (s.p F.CLK_STAT_PLL_LOCK 1).p F.CLK_STAT_ANOMALY_ARMED 1
    if s1.wake.bootPending then (s1.bootChain env)
    else if s1.wake.waking then s1.wakeRun
    else s1

/-- PLL_LOCK_TIMEOUT (R154): no lock within 4096 XIN cycles. -/
def effPllLockTimeout (s : State) : State :=
  if s.wake.inReset || !s.wake.pllStarted || s.b F.CLK_STAT_PLL_LOCK then s else s.pllFail

/-- PLL_LOCK_LOST (R154): lock is lost in Run or Halt. -/
def effPllLockLost (s : State) : State := if s.canLive then s.pllFail else s

/-- BOOT_FIELD_BRANCH (R178, R184): once step 4 is complete and the barrier link can come up. -/
def effBootFieldBranch (env : FieldEnv) (s : State) : State :=
  if s.canLive && decide (4 ≤ s.g F.RST_BOOT_STEP) && s.g F.RST_BOOT_FSTEP = 0 && env.linkUp && s.cpc.viso then
    (s.fieldBranch env)
  else s

/-- VISO_IN_RETURN (R30, R172, R188): a Carapace that the transformer drives powers up, which is a Carapace reset; before F1 it
stays undriven. -/
def effVisoInReturn (env : FieldEnv) (s : State) : State :=
  if s.cpc.viso then s
  else
    let s1 : State := { s.p F.PWR_STAT_ISO_OK 1 with cpc := { s.cpc with viso := true } }
    if !s1.cpc.driven || s1.wake.inReset || s1.g F.RST_BOOT_FSTEP = 0 then s1
    else
      let s2 := s1.carapaceReset 3
      (if s2.canLive && env.linkUp then s2.fieldBranch env else s2)

/-- VBAT_LOW (R187): VBAT falls below 2.40 V. -/
def effVbatLow (s : State) : State :=
  if s.b F.PWR_STAT_VBAT_LOW then s
  else ((s.p F.PWR_STAT_VBAT_LOW 1).evtIf (!s.wake.inReset) 2 1)

/-- XIN_MEASUREMENT (R156): one window of a second has ended; `dev` is the signed deviation in ppm. -/
def effXinMeasurement (dev : BitVec 16) (s : State) : State :=
  if !s.canLive then s
  else
    let warn := decide (200 < dev.toInt.natAbs)
    let s1 := ((s.p F.CLK_XIN_DEV_DEV dev.toNat).bump F.CLK_XIN_DEV_WINDOWS).pb F.CLK_STAT_XIN_WARN warn
    (s1.evtIf (warn && !s.b F.CLK_STAT_XIN_WARN) 1 0)

/-- A power figure in 250 mW steps, within its field (log entry 32). -/
def coarse (mw : Nat) : Nat := satTo 16 mw / 250 * 250

/-- PWR_MON_UPDATE and PWR_MON_FINE_UPDATE (R187). -/
def effPwrMonUpdate (logicMw fieldMw : Nat) (s : State) : State :=
  if s.canLive then ((s.p F.PWR_MON_LOGIC_MW (coarse logicMw)).p F.PWR_MON_FIELD_MW (coarse fieldMw)).bump F.PWR_MON_SEQ else s
def effPwrMonFineUpdate (logicMw fieldMw : Nat) (s : State) : State :=
  if s.canLive then
    let n := satTo 32 (fld (s.word F.PWR_MON_FINE_RAW.key).toNat 32 32 + 1)
    s.setWord F.PWR_MON_FINE_RAW.key (BitVec.ofNat 64 (satTo 16 logicMw + 2 ^ 16 * satTo 16 fieldMw + 2 ^ 32 * n))
  else s

/-- PWR_LEVEL_UPDATE (R187): VBAT in 10 mV steps, VFLD as the Carapace's frames carry it (R260), and the bits of the VBAT monitor, which
measures on its own. -/
def effPwrLevelUpdate (vbatMv monitorMv : Nat) (s : State) : State :=
  if !s.canLive then s
  else
    let low := decide (monitorMv < 2400)
    let s1 := (s.p F.PWR_LEVEL_VBAT_MV (satTo 16 vbatMv / 10 * 10)).p F.PWR_LEVEL_VFLD_MV s.bar.vfldMv
    let s2 := (s1.pb F.PWR_STAT_VBAT_OK (decide (2250 ≤ monitorMv))).pb F.PWR_STAT_VBAT_LOW low
    (s2.evtIf (low && !s.b F.PWR_STAT_VBAT_LOW) 2 1)

/-- RST_CMD (R188, R190): sequence 1 or 2 completes with a command. -/
def State.rstCmd (s : State) (seq cmd : Nat) (acc : Accessor) : State :=
  let src := if acc = .host || acc = .hostCmd then 2 else 3
  if cmd = 3 then s.warmReset src
  else if cmd = 5 then s.carapaceReset (src - 1)
  else if cmd = 4 && seq = 2 then s.moltReset
  else s.lost 3 63

/-- FIREFLY_WAKE and FFY_TIMER_EXPIRY (R163, R245, R249). -/
def effFireflyWake (source : Nat) (s : State) : State := if s.wake.watch then s.ffyNotice source else s
def effFfyTimerExpiry (s : State) : State :=
  if s.wake.watch && s.wake.timerArmed then
    ({ s with wake := { s.wake with timerArmed := false } } : State).ffyNotice 3
  else s

end Sys2Proof.Machine
end

