-- ==== Sys2Proof/Machine/Pkg.lean ====
section
/-!
DEFINITION. Sys2Proof/Machine/Pkg.lean: loading a policy package (R408 to R411) and the release of its key (R609 to R611).
-/
namespace Sys2Proof.Machine
open Sys2Proof

/-! ## The load (R408 to R411) -/

def pkgLength (h : List Byte) : Nat := leAt h 8 4

/-- MAGIC, FORMAT, LENGTH and the zero fields of the image header, with PKG_LEN (R409). -/
def pkgHeadOk (h : List Byte) (len : Nat) : Bool :=
  leAt h 0 4 == 0x454b5051 && leAt h 4 2 == 1 && zeroAt h 6 2 && zeroAt h 0x20 32 && decide (pkgLength h ≤ 262144) &&
  len == 80 + pkgLength h

/-- The package header (R410). -/
def pkgPlainOk (p : List Byte) : Bool :=
  let nhid := leAt p 6 2
  leAt p 0 4 == 0x474b5051 && leAt p 4 2 == 1 && nhid % 16 == 0 && decide (16 ≤ nhid) && decide (nhid ≤ 512) &&
  p.length == 768 + 388 * nhid && decide (leAt p 0xc 1 ≤ 31) && decide (leAt p 0xd 1 ≤ 31)

/-- PKG's read of its source (R408, R595, R596): on-chip SRAM, or external memory where the partition grants PR; a refused read gives
zeros and is counted once per load (log entry 33). Nothing else is a source. -/
def State.pkgRead (s : State) (a n : Nat) : List Byte × State :=
  match s.region a with
  | .sram => (s.bytes a n, s)
  | .ext =>
    (match s.emcRefuses a .pkgRead with
     | some c => (List.replicate n 0, s.lost 0x2b c)
     | none => (s.bytes a n, s))
  | _ => (List.replicate n 0, s)

/-- The final write of PKG sequence 1: a load runs. While one runs the write has no effect, which nothing counts (R203, R411; log entry
110). -/
def State.pkgStart (s : State) : State :=
  if s.b F.PKG_STAT_LOADING then s
  else (s.p F.PKG_STAT_LOADING 1).p F.PKG_STAT_CAUSE 0

/-- A bank's valid bit (R586). -/
def State.bankValid (s : State) (bank : Nat) (v : Bool) : State :=
  s.setDse (if bank = 0 then { s.dse with valid0 := v } else { s.dse with valid1 := v })

/-- A load that has decrypted and checked its package (R408, steps 5 and 6). -/
def State.pkgGood (s : State) (bank : Nat) (plain : List Byte) : State :=
  let d := Config.sha384 plain
  let s1 := (List.range 6).foldl (fun (x : State) k => x.setWord (F.PKG_DIGEST_DIGEST k).key (BitVec.ofNat 64 (d.toNat / 2 ^ (64 * k)))) s
  let s2 := (s1.bankValid bank true).measure 4 d (leAt plain 8 4)
  let s3 := s2.setDse { s2.dse with pkgKey := none, pkgDigest := d }
  (((s3.p F.PKG_STAT_LOADING 0).p F.PKG_STAT_SWITCH_PENDING 1).passDue).answerPkg 0 0

/-- What ECC finds in PKG's read, at a unit of its source in external memory (R593, R595): whether the read leaves data, and its
counts. -/
def State.pkgEcc (s : State) (env : PkgEnv) (len : Nat) : Bool × State :=
  let a := s.g F.PKG_SRC_ADDR
  match s.region a with
  | .ext => if (s.emcRefuses a .pkgRead).isSome then (true, s) else s.eccRead (a + env.unit % max 1 len) env.read
  | _ => (true, s)

/-- The end of a load (R408, R411). -/
def State.pkgEnd (s : State) (env : PkgEnv) : State :=
  let len := s.g F.PKG_LEN_LEN
  let q := s.pkgEcc env (min len 262224)
  let r := q.2.pkgRead (s.g F.PKG_SRC_ADDR) (min len 262224)
  let img := r.1
  if !q.1 then r.2.pkgFail 5
  else if !pkgHeadOk img len then r.2.pkgFail 1
  else if leAt img 0x18 8 ≠ 0 && BitVec.ofNat 64 (leAt img 0x18 8) != s.fuse.serial then r.2.pkgFail 2
  else match r.2.dse.pkgKey with
    | none => r.2.pkgFail 6
    | some k =>
      let n := pkgLength img
      let bank := 1 - r.2.g F.PKG_STAT_ACTIVE
      let plain := (List.range n).map (Config.gcmOpenByte k (slice img 0xc 12) (img.take 64) (slice img 64 n))
      let s1 := ((r.2.bankValid bank false).p F.PKG_STAT_SWITCH_PENDING 0).putBytes (bankBase bank) plain
      if !env.tagOk then s1.pkgFail 3
      else if !pkgPlainOk plain then s1.pkgFail 4
      else s1.pkgGood bank plain

/-- PKG_LOAD_END (R411). -/
def effPkgLoadEnd (env : PkgEnv) (s : State) : State :=
  if s.b F.PKG_STAT_LOADING && s.keeperServes then (s.pkgEnd env) else s

/-! ## The release of a package key (R609 to R611) -/

/-- One of the last four full reports has a count and a digest, and nothing that a report shows has changed since (R610). -/
def State.reportKnown (s : State) (count : Nat) (digest : List Byte) : Bool :=
  s.ten.reports.zipIdx.any (fun p => digestBytes48 p.1 == digest && s.g (F.ATT_RECENT_COUNT p.2) == count &&
    s.g (F.ATT_RECENT_MSEQ p.2) == s.g F.ATT_STAT_MSEQ)

/-- The check of R610 that fails first. -/
def State.releaseCause (s : State) (b : List Byte) (signatureOk tagOk : Bool) : Option Nat :=
  let t := leAt b 6 1
  let pk := slotPackage t
  if b.length ≠ 352 || leAt b 0 4 ≠ 0x524b5051 || leAt b 4 2 ≠ 1 || !zeroAt b 7 1 || !zeroAt b 0x14 12 || !zeroAt b 0xb1 15 ||
    !zeroAt b 0xf0 16 then some 0x01
  else if BitVec.ofNat 64 (leAt b 8 8) != s.fuse.serial then some 0x02
  else if t ≠ s.tenantNo && s.tenancy != .molting then some 0x03
  else if s.tenancy == .molting || s.bat.lock || s.zeroized || !s.slotValid pk || !(s.g (F.KEY_POL_USES pk)).testBit 9 then some 0x06
  else if !s.slotValid (slotAuthority t) || !signatureOk then some 0x04
  else if !s.reportKnown (leAt b 0x10 4) (slice b 0x20 48) then some 0x05
  else if !tagOk then some 0x07
  else none

/-- Keeper judges a release blob (R610, R611): its cause, and the package key in its register. ATT_TROUBLE.LOST counts a failed release
(R614), and class 63 with it (R206). -/
def State.pkgRelease (s : State) (b : List Byte) (signatureOk tagOk : Bool) : Option Nat × State :=
  let no := fun (x : State) (c : Nat) => (some c, (((x.p F.ATT_RELSTAT_STATE 3).p F.ATT_RELSTAT_CAUSE c).evt 0x35 2).lost 0x35 63)
  match s.releaseCause b signatureOk tagOk with
  | some c => no s c
  | none =>
    let r := s.slotUse (slotPackage (leAt b 6 1))
    match r.1 with
    | none => no r.2 0x06
    | some key =>
      let z := (List.range 48).map (Config.ecdhByte key (slice b 0x50 97))
      let k := hkdf z (slice b 0x20 48) (labelPkr ++ wordBytes s.fuse.serial) 32
      let out := (List.range 32).map (Config.gcmOpenByte k (List.replicate 12 0) (b.take 32) (slice b 0xc0 32))
      let s1 := r.2.setDse { r.2.dse with pkgKey := some out }
      (none, ((s1.p F.ATT_RELSTAT_STATE 2).p F.ATT_RELSTAT_CAUSE 0).evt 0x35 1)

end Sys2Proof.Machine
end

