-- ==== Sys2Proof/Machine/Host.lean ====
section
/-!
DEFINITION. Sys2Proof/Machine/Host.lean: the PCIe endpoint and its resets (R70, R175, R620, R643), DOE and SPDM (R621 to R625), the
set-up of Confidential Host (R626, R627) and the HBX rings (R629 to R634).
-/
namespace Sys2Proof.Machine
open Sys2Proof

/-! ## Link and resets -/

/-- The endpoint runs: its supply is present and boot step 4 or the recovery ROM has started it (R178, R182, R618). -/
def State.pcieLive (s : State) : Bool :=
  s.canLive && s.b F.PWR_STAT_PCIE_OK && (decide (4 ≤ s.g F.RST_BOOT_STEP) || s.b F.RST_BOOT_RECOVERY)

/-- The link is up. -/
def State.pcieUp (s : State) : Bool := s.pcieLive && s.b F.PCI_LINK_UP

/-- The endpoint answers configuration requests: until boot step 7 it answers them with Request Retry Status (R178, R618), but for the
ROM in recovery (R182). -/
def State.pcieReady (s : State) : Bool := s.pcieUp && (decide (7 ≤ s.g F.RST_BOOT_STEP) || s.b F.RST_BOOT_RECOVERY)

/-- The effect of R175 with that of R620: the endpoint and HBX are reset. -/
def State.pcieReset (s : State) (dstate : Nat) : State :=
  let s1 := ((s.pcieDown.spdmEnd).p F.PCI_LINK_BME 0).p F.PCI_LINK_DSTATE dstate
  { s1 with
    host := { s1.host with doeError := false, reply := .none }
    icu := { s1.icu with msixEnabled := false, msixMasked := false, msixPending := false } }.evt 0x29 1

/-- PERSTN (R175). -/
def effPerstn (s : State) : State := if s.wake.inReset then s else (s.pcieReset 0)

/-- PCI_RESET (R620): a hot reset, Function Level Reset, or entry to D3hot, which the host writes into its configuration space. -/
def effPciReset (d3hot : Bool) (s : State) : State := if s.pcieUp && (!d3hot || s.pcieReady) then (s.pcieReset (if d3hot then 3 else 0)) else s

/-- PCIE_LINK_UP (R70, R618): at a speed up to the advertised one. -/
def effPcieLinkUp (speed : BitVec 2) (s : State) : State :=
  if s.pcieLive && !s.b F.PCI_LINK_UP then
    ((((s.p F.PCI_LINK_UP 1).p F.PCI_LINK_SPEED (min (max 1 speed.toNat) (max 1 (s.g F.PCI_CFG_MAXSPEED)))).p F.PCI_LINK_DSTATE
      0).evt 0x29 0)
  else s

/-- PCIE_LINK_DOWN (R643). -/
def effPcieLinkDown (s : State) : State := if s.pcieUp then s.pcieDown else s

/-- BUS_MASTER_ENABLE (R620): the host writes the bit. -/
def effBusMasterEnable (on : Bool) (s : State) : State := if s.pcieReady then s.pb F.PCI_LINK_BME on else s

/-- VPCIE_LOSS (R167). -/
def effVpcieLoss (s : State) : State :=
  if !s.b F.PWR_STAT_PCIE_OK then s
  else ((((s.p F.PWR_STAT_PCIE_OK 0).evtIf (!s.wake.inReset) 2 2)).pcieDown)

/-- VPCIE_RETURN (R167). -/
def effVpcieReturn (s : State) : State :=
  if s.b F.PWR_STAT_PCIE_OK then s else ((s.p F.PWR_STAT_PCIE_OK 1).evtIf (!s.wake.inReset) 2 2)

/-! ## DOE (R621, R622, R625) -/

/-- A data object arrives and is read out of its mailbox; with the Error bit set the 641 waits for DOE Abort. -/
def State.doeTake (s : State) (read : Attempts) (act : State → State) : State :=
  if !s.pcieReady || s.host.doeError then s
  else
    let s1 := (s.bump F.PCI_DOECNT_OBJECTS).evt 0x29 2
    (match read with
     | .first => act s1
     | .second => act (s1.transient 0x29 18)
     | .lasting =>
       ({ s1.lasting 0x29 19 with host := { s1.host with doeError := true, reply := .error } } : State).evt 0x29 3)

/-- The answer to an object. -/
def State.doeReply (s : State) (r : DoeReply) : State := { s with host := { s.host with reply := r } }

/-- DOE_DISCOVERY (R621): the four object types by index, in the order of R621; the type number of the recovery object is not stated
(log entry 34). -/
def effDoeDiscovery (read : Attempts) (index : Byte) (s : State) : State :=
  s.doeTake read (fun x =>
    match index.toNat with
    | 0 => x.doeReply (.discovery 1 0 1)
    | 1 => x.doeReply (.discovery 1 1 2)
    | 2 => x.doeReply (.discovery 1 2 3)
    | 3 => let d := x.draw; d.2.doeReply (.discovery (x.g F.PCI_IDS_VENDOR) (d.1.toNat % 256) 0)
    | _ => x.doeReply (.discovery 0xffff 0 0))

/-- DOE_ABORT (R622). -/
def effDoeAbort (s : State) : State :=
  if s.pcieReady then { s with host := { s.host with doeError := false, reply := .none } } else s

/-- The Keeper image that recovery has placed, with one more chunk: later chunks at an offset replace earlier bytes. -/
def placeChunk (image : List Byte) (off : Nat) (data : List Byte) : List Byte :=
  slice image 0 (min off image.length) ++ List.replicate (off - image.length) 0 ++ data ++ image.drop (off + data.length)

/-- RECOVERY_OBJECT (R625): only the ROM in recovery answers it; the read of its mailbox has two attempts (R622). -/
def effRecoveryObject (offset flags : BitVec 32) (data : List Byte) (check : ImageCheck) (version : Nat) (s : State) : State :=
  s.doeTake check.read (fun x =>
    if !x.b F.RST_BOOT_RECOVERY then x
    else if 4080 < data.length then { x with host := { x.host with doeError := true, reply := .error } }
    else if 0x40000 < offset.toNat + data.length then x.doeReply (.recovery 2 (x.g F.RST_BOOT_FAIL_CODE))
    else
      let image := placeChunk x.host.image offset.toNat data
      let y : State := { x.putBytes (0x20000000 + offset.toNat) data with host := { x.host with image := image } }
      if !flags.getLsbD 0 then y.doeReply (.recovery 0 0)
      else if !check.signatureOk then let z := y.bootFail 2 0x02; z.doeReply (.recovery 2 (z.g F.RST_BOOT_FAIL_CODE))
      else if version < y.fuse.keeperFloor then let z := y.bootFail 2 0x03; z.doeReply (.recovery 2 (z.g F.RST_BOOT_FAIL_CODE))
      else
        let z : State := { y with nvm := { y.nvm with keeperImage := some image, keeperVersion := version, keeperValid := true } }
        (z.warmReset 3).doeReply (.recovery 1 0))

/-! ## SPDM (R623, R624) -/

/-- Keeper answers SPDM objects; the ROM in recovery does not (R625). In Halt an object waits (R670). -/
def State.spdmTake (s : State) (read : Attempts) (act : State → State) : State :=
  if !s.b F.RST_BOOT_RECOVERY && !s.keeperServes then s
  else s.doeTake read (fun x => if x.b F.RST_BOOT_RECOVERY then x else act x)

/-- A measurement block: 1 to 14 show the entries of ATT with their versions; an entry that is absent has no block (log entry 35). -/
def State.spdmBlock (s : State) (k : Nat) : List (Nat × List Byte) :=
  let m := k - 1
  if s.b (F.ATT_INFO_PRESENT m) then
    [(k, ([F.ATT_DIG0_DIGEST, F.ATT_DIG1_DIGEST, F.ATT_DIG2_DIGEST, F.ATT_DIG3_DIGEST, F.ATT_DIG4_DIGEST, F.ATT_DIG5_DIGEST].map
      (fun f => leBytes 8 (s.g (f m)))).flatten ++ leBytes 4 (s.g (F.ATT_INFO_VERSION m)))]
  else []

/-- GET_MEASUREMENTS (R605, R606, R623): block 0 asks for the number of blocks, 0xFF for all of them; block 15 is the full report. -/
def effGetMeasurements (read : Attempts) (block : Byte) (nonce : List Byte) (s : State) : State :=
  s.spdmTake read (fun x =>
    let k := block.toNat
    let entries := ((List.range 14).map (fun i => x.spdmBlock (i + 1))).flatten
    if k = 0 then x.doeReply (.measurements [(15, [])] nonce)
    else if k ≤ 14 then
      (match x.spdmBlock k with
       | [] => x.doeReply (.spdmError 1)
       | l => x.doeReply (.measurements l nonce))
    else if k = 15 then
      if x.reportsFull then let r := x.issueFull nonce; r.2.doeReply (.measurements [(15, r.1)] nonce) else x.doeReply (.spdmError 1)
    else if k = 255 then
      if x.reportsFull then let r := x.issueFull nonce; r.2.doeReply (.measurements (entries ++ [(15, r.1)]) nonce)
      else x.doeReply (.measurements entries nonce)
    else x.doeReply (.spdmError 1))

/-- The chain of certificate slot 0 (R623). -/
def certChain : List (List Byte) := [certificate 2, certificate 1, certificate 0]

/-- GET_CERTIFICATE (R623): slot 0 alone is provisioned. -/
def effGetCertificate (read : Attempts) (slot : Byte) (s : State) : State :=
  s.spdmTake read (fun x => if slot = 0 then x.doeReply (.certificate certChain) else x.doeReply (.spdmError 1))

/-- CHALLENGE (R623): a signature with the identity key over the nonce. -/
def effChallenge (read : Attempts) (slot : Byte) (nonce : List Byte) (s : State) : State :=
  s.spdmTake read (fun x =>
    if slot = 0 then
      ({ x with freeCount := x.freeCount + 1 } : State).doeReply
        (.challenge ((List.range 96).map (Config.ecdsaSignByte identityKey nonce x.freeCount)))
    else x.doeReply (.spdmError 1))

/-- KEY_EXCHANGE with its FINISH (R624). -/
def effKeyExchange (read : Attempts) (requestId : BitVec 16) (finishOk : Bool) (s : State) : State :=
  s.spdmTake read (fun x =>
    if x.g F.PCI_SPDM_SESSION ≠ 0 then x.doeReply (.spdmError 3)
    else if x.life == .returned then x.doeReply (.spdmError 4)
    else
      let y := ((x.p F.PCI_SPDM_SESSION 1).p F.PCI_SPDM_ID requestId.toNat).evt 0x29 4
      if finishOk then
        let z : State := { y.p F.PCI_SPDM_SESSION 2 with host := { y.host with session := y.freeCount }, freeCount := y.freeCount + 1 }
        z.doeReply (.keyExchange requestId.toNat)
      else (y.setWord F.PCI_SPDM_SESSION.key 0).doeReply (.spdmError 6))

/-- KEY_UPDATE (R628): only the SPDM session keys change. -/
def effKeyUpdate (read : Attempts) (s : State) : State :=
  s.spdmTake read (fun x => x.doeReply (if x.g F.PCI_SPDM_SESSION = 2 then .keyUpdate else .spdmError 2))

/-- SPDM_END_SESSION (R624, R628). -/
def effSpdmEndSession (read : Attempts) (s : State) : State :=
  s.spdmTake read (fun x => if x.g F.PCI_SPDM_SESSION = 2 then (x.spdmEnd).doeReply .endSession else x.doeReply (.spdmError 2))

/-! ## Confidential Host set-up (R626, R627) -/

/-- The payload of a set-up. -/
def setUpOk (p : List Byte) : Bool :=
  let l := fun (i : Nat) => leAt p i 1
  p.length == 24 && l 0 == 1 && decide (4 ≤ l 1) && decide (l 1 ≤ 10) && decide (4 ≤ l 2) && decide (l 2 ≤ 10) && zeroAt p 3 5 &&
  leAt p 8 8 % 4096 == 0 && leAt p 16 8 % 4096 == 0

/-- Why Keeper refuses a set-up, as a MOD cause. -/
def State.setUpCause (s : State) (p : List Byte) : Option Nat :=
  if s.tenancy == .molting then some 0x02
  else if s.bat.lock || s.zeroized || s.lift == .secureDegraded then some 0x09
  else if !setUpOk p then some 0x01
  else none

/-- "QHBX h2d key", "QHBX h2d iv", "QHBX d2h key", "QHBX d2h iv". -/
def hbxLabel (h2d key : Bool) : List Byte :=
  ascii ([0x51, 0x48, 0x42, 0x58, 0x20] ++ (if h2d then [0x68, 0x32, 0x64] else [0x64, 0x32, 0x68]) ++ [0x20] ++
    (if key then [0x6b, 0x65, 0x79] else [0x69, 0x76]))

/-- The HBX keys of a session, from its master secret: K_H2D, IV_H2D, K_D2H, IV_D2H. -/
def hbxDerive (session : Nat) : List (List Byte) :=
  let s := (List.range 48).map (Config.drbgByte session)
  [hkdf s [] (hbxLabel true true) 32, hkdf s [] (hbxLabel true false) 12, hkdf s [] (hbxLabel false true) 32,
   hkdf s [] (hbxLabel false false) 12]

/-- Keeper accepts a set-up (R627): rings, keys, the routes of sources 320 to 323, GCFG15 and EVTEN. -/
def State.setUpHbx (s : State) (p : List Byte) : State :=
  let s1 := [(F.HBX_H2D_TAIL_INDEX, 0), (F.HBX_H2D_HEAD_INDEX, 0), (F.HBX_D2H_TAIL_INDEX, 0), (F.HBX_D2H_HEAD_INDEX, 0),
    (F.HBX_H2D_BASE_ADDR, leAt p 8 8), (F.HBX_D2H_BASE_ADDR, leAt p 16 8), (F.HBX_RINGCFG_H2D_LOG2, leAt p 1 1),
    (F.HBX_RINGCFG_D2H_LOG2, leAt p 2 1)].foldl (fun (x : State) (q : Fld × Nat) => x.p q.1 q.2) s
  let s2 : State := { s1 with host := { s1.host with hbxKeys := some (hbxDerive s1.host.session), setUp := true, expect := 0, next := 0 } }
  let old := (s2.word (F.ICU_SRCCFG_BYTES 40).key).toNat
  let new := (List.range 8).foldl (fun a j =>
    a + (if j < 4 then 0xf0 + fld old (8 * j) 4 else fld old (8 * j) 8) * 2 ^ (8 * j)) 0
  let s3 := s2.writeSrccfg 40 true new
  let s4 := s3.writeGcfg 15 (fld (setBits (s3.word (F.ICU_GCFG_COUNT 15).key) (F.ICU_GCFG_COUNT 15).lo (F.ICU_GCFG_COUNT 15).w 1).toNat 0 24)
  (s4.evtenWrite 0x28 0xf).hbxState 1

/-- VENDOR_DEFINED_REQUEST (R626, R627): MOD_REQ8 reports the outcome (R70). -/
def effVendorDefinedRequest (read : Attempts) (payload : List Byte) (s : State) : State :=
  s.spdmTake read (fun x =>
    if x.g F.PCI_SPDM_SESSION ≠ 2 then x.doeReply (.spdmError 2)
    else
      let y := (x.p (F.MOD_REQ_VALUE 8) 2).p (F.MOD_REQ_ARG 8) 0
      match x.setUpCause payload with
      | some c => (y.reqRefuse 8 c).doeReply (.vendor 1 c)
      | none => ((y.setUpHbx payload).reqAccept 8).doeReply (.vendor 0 0))

/-! ## The rings (R629 to R634) -/

/-- A TAIL write: one that would overfill the ring is ignored and counted. While HBX is idle there is no ring to fill. -/
def State.hbxTail (s : State) (h2d : Bool) (index : Nat) : State :=
  let head := s.g (if h2d then F.HBX_H2D_HEAD_INDEX else F.HBX_D2H_HEAD_INDEX)
  let size := 2 ^ s.g (if h2d then F.HBX_RINGCFG_H2D_LOG2 else F.HBX_RINGCFG_D2H_LOG2)
  if s.g F.HBX_STATE_STATE ≠ 0 && size < (index + 65536 - head) % 65536 then s.hbxLost 63
  else s.p (if h2d then F.HBX_H2D_TAIL_INDEX else F.HBX_D2H_TAIL_INDEX) index

/-- HBX moves: it is up, holds its keys, and may issue reads and writes (R620). -/
def State.hbxRuns (s : State) : Bool :=
  s.pcieUp && s.b F.PCI_LINK_BME && s.g F.HBX_STATE_STATE == 2 && s.host.hbxKeys.isSome

/-- The check of R632 that an entry fails first. -/
def h2dCause (e : H2dEntry) (expect : Nat) : Option Nat :=
  if e.seq ≠ expect then some 1
  else if e.len < 1 || 266240 < e.len || e.nseg < 1 || 16 < e.nseg || e.table % 16 ≠ 0 || !e.zeroOk || e.segments.length ≠ e.nseg ||
    e.segments.foldl (· + ·) 0 ≠ e.len then some 2
  else if e.readFail.isSome then some 3
  else if !e.tagOk then some 4
  else none

/-- The command numbers of R636. -/
def commandKnown (c : Nat) : Bool :=
  [0x01, 0x02, 0x03, 0x04, 0x10, 0x11, 0x12, 0x20, 0x21, 0x22, 0x30, 0x31, 0x32, 0x33, 0x34, 0x40, 0x41, 0x42, 0x43, 0x44, 0x45,
   0x46, 0xf0].contains c

/-- A message that reaches Keeper from the host channel (R635, R636, R638, R640): malformed, unknown and surplus commands are answered
at once. -/
def State.hostCommand (s : State) (m : List Byte) : State :=
  let cmd := leAt m 0 2
  let tag := leAt m 4 4
  let ok := decide (16 ≤ m.length) && zeroAt m 2 2 && zeroAt m 0xc 4 && leAt m 8 4 + 16 == m.length
  if !ok then s.respond hostChannel tag cmd 1 0 []
  else if !commandKnown cmd then s.respond hostChannel tag cmd 5 0 []
  else if 8 ≤ s.host.inbox.length then s.respond hostChannel tag cmd 4 0 []
  else { s with host := { s.host with
    inbox := s.host.inbox ++ [(cmd, ⟨BitVec.ofNat 16 hostChannel, BitVec.ofNat 32 tag, m.drop 16⟩)] } }

/-- HBX has finished with the H2D entry at hand: the head moves, and a sequence number that would pass the last ends the session
(R628, R632). -/
def State.h2dDone (s : State) (e : H2dEntry) : State :=
  let s1 := (s.p F.HBX_H2D_HEAD_INDEX (s.g F.HBX_H2D_HEAD_INDEX + 1)).evt 0x28 1
  if e.seq ≠ s.host.expect then s1
  else if s.host.expect = 0xffffffffffffffff then s1.spdmEnd
  else { s1 with host := { s1.host with expect := s.host.expect + 1 } }

/-- H2D_MESSAGE (R632, R633). -/
def effH2dMessage (e : H2dEntry) (s : State) : State :=
  if !s.hbxRuns || s.g F.HBX_H2D_TAIL_INDEX = s.g F.HBX_H2D_HEAD_INDEX then s
  else match h2dCause e s.host.expect with
    | none => (((s.bump F.HBX_CNT_ACCEPTED).hostCommand e.message).h2dDone e)
    | some c =>
      let seg := if c = 3 then (e.readFail.getD 0xff).toNat else 0xff
      let note : Message := { channel := hostChannel, cmd := 0xc003, status := 0, detail := 0, tag := 0
                              body := leBytes 8 e.seq ++ leBytes 1 c ++ leBytes 1 seg ++ leBytes 6 0 }
      let s1 := (s.bump F.HBX_CNT_REJECTED).hbxLost 62
      (({ s1 with host := { s1.host with outbox := s1.host.outbox ++ [note] } } : State).h2dDone e)

/-- The bytes of a message (R635). -/
def Message.bytes (m : Message) : List Byte :=
  leBytes 2 m.cmd ++ leBytes 1 m.status ++ leBytes 1 m.detail ++ leBytes 4 m.tag ++ leBytes 4 m.body.length ++ leBytes 4 0 ++ m.body

/-- The IV of a message (R631): IV_dir XOR SEQ as a 96-bit big-endian value. -/
def hbxIv (iv : List Byte) (seq : Nat) : List Byte := iv.zipWith (· ^^^ ·) (leBytes 12 seq).reverse

/-- D2H_MESSAGE (R631, R634): the oldest message that waits goes into the posted buffer. -/
def effD2hMessage (buffer : Word) (capacity : BitVec 32) (s : State) : State :=
  match s.host.outbox with
  | [] => s
  | m :: rest =>
    if !s.hbxRuns || s.g F.HBX_D2H_TAIL_INDEX = s.g F.HBX_D2H_HEAD_INDEX then s
    else
      let keys := s.host.hbxKeys.getD []
      let plain := m.bytes
      let key := keys.getD 2 []
      let iv := hbxIv (keys.getD 3 []) s.host.next
      let aad := leBytes 8 s.host.next ++ leBytes 4 plain.length ++ leBytes 4 1 ++ leBytes 8 buffer.toNat ++ leBytes 4 capacity.toNat ++ leBytes 4 0
      let cipher := (List.range plain.length).map (Config.gcmSealByte key iv aad plain)
      let entry := aad ++ leBytes 16 (Config.gcmTag key iv aad plain).toNat ++ leBytes 16 0
      let s1 := (s.p F.HBX_D2H_HEAD_INDEX (s.g F.HBX_D2H_HEAD_INDEX + 1)).evt 0x28 0
      let s2 : State := { s1 with host := { s1.host with
          outbox := rest, wrote := some (buffer, entry, cipher), next := s.host.next + 1 } }
      (if s.host.next = 0xffffffffffffffff then s2.spdmEnd else s2)

/-- HBX_CLAIM read (R231, R237). -/
def effHbxClaim (acc : Accessor) (s : State) : State :=
  if s.clocked then
    let r := s.readAs acc 0x28 0xa8
    ({ r.2 with readOut := r.1 } : State)
  else s

end Sys2Proof.Machine
end

