-- ==== Sys2Proof/Machine/PageWrite.lean ====
section
/-!
DEFINITION. Sys2Proof/Machine/PageWrite.lean: one write of a page register by an accessor (R119 to R143), with the action that each
register of the chapters takes; the completion of every locked sequence; secure NVM commands (R537); reads with their side effects as
commands.
-/
namespace Sys2Proof.Machine
open Sys2Proof

/-! ## Outcomes of operations that a write starts -/

/-- How the checks outside the 641's own state come out in an operation that a write starts. -/
structure Outcomes where
  key : KeyCheck
  table : TableCheck
  load : LoadCheck
  signatureOk : Bool
  deriving DecidableEq, Repr

/-- The outcomes where the command names none: free (log entry 2). -/
def State.outcomes (s : State) : Outcomes × State :=
  let d := s.draw
  let b := fun (i : Nat) => d.1.getLsbD i
  ({ key := ⟨b 0, b 1, b 2, b 3⟩, table := ⟨b 4, b 5, b 6⟩, load := ⟨b 7, b 8⟩, signatureOk := b 9 }, d.2)

/-! ## LOG clears (R208, R211, R217) -/

/-- The clear of one class: its read half checks parity (R210); a bad class keeps its mark. -/
def State.logClr (s : State) (c : Nat) : State :=
  if s.isBadClass c then s
  else
    let r := s.classCheck c
    if r.1 then (r.2.p (F.LOG_CLASS_COUNT c) 0).p ⟨F.LOG_SAT_SAT.key, c, 1⟩ 0 else r.2

/-- LOG_CLR_CLASS and LOG_CLR_SELF. -/
def State.logClrClass (s : State) (v : Nat) : State := (bitsBelow 64 v).foldl State.logClr s
def State.logClrSelf (s : State) (v : Nat) : State := if v.testBit 0 then (s.p F.LOG_SELF_COUNT 0).p F.LOG_STAT_SELF_FAIL 0 else s

/-! ## Secure NVM commands (R537) -/

/-- A write of KPX_NVMCMD with GO starts a command; while one runs the write has no effect, and a CMD that is neither names none. -/
def State.nvmStart (s : State) (cmd : Nat) : State :=
  if s.core.nvm.isSome || cmd = 0 || cmd = 3 then s
  else ({ s with core := { s.core with nvm := some (cmd, s.g F.KPX_NVMADDR_ADDR * 8, s.word F.KPX_NVMDATA_DATA.key) } } : State).p
    F.KPX_NVMSTAT_BUSY 1

/-- The bytes of a sector after an erase or a failed erase, by the number of the draw. -/
def erasedSector (n base : Nat) : List Byte := (List.range 4096).map (fun i => Config.nvmErasedByte n (base + i))

/-- A running command ends, verified or not: after a failed verify the cells hold a free value. -/
def State.nvmEnd (s : State) (verified : Bool) : State :=
  match s.core.nvm with
  | none => s
  | some (cmd, a, v) =>
    let words := if cmd = 2 then (List.range 512).map (fun i => a / 4096 * 512 + i) else [a / 8]
    let rest := s.nvm.badWords.filter (fun w => !words.contains w)
    let s0 : State := { s with
      core := { s.core with nvm := none }
      nvm := { s.nvm with badWords := if verified then rest else words ++ rest } }
    let s1 := (s0.p F.KPX_NVMSTAT_BUSY 0).pb F.KPX_NVMSTAT_FAIL (!verified)
    let s2 := if cmd = 2 then
        let d := s1.draw
        let base := a / 4096 * 4096
        d.2.putBytes (0x28000000 + base) (erasedSector s1.freeCount base)
      else if verified then s1.storeLe (0x28000000 + a) 8 v.toNat
      else
        let d := s1.draw
        d.2.storeLe (0x28000000 + a) 8 d.1.toNat
    s2.evt 0x30 0

/-! ## What a completed sequence does -/

/-- Sequence `n` of a page completes with the value of its final write; the registers of its other writes hold theirs. -/
def State.seqAct (s : State) (acc : Accessor) (page n : Nat) (v : Word) (o : Outcomes) : State :=
  let x := v.toNat
  match page with
  | 0x03 => s.rstCmd n (fld x 0 4) acc
  | 0x12 => s.uninhibit (fld x 0 16)
  | 0x14 =>
    if n = 1 then (if x.testBit 0 then s.tripClear else s)
    else if fld x 0 2 ≠ n - 1 then s.lost 0x14 63
    else
      let img := s.bytes (s.g F.ITE_LOADADDR_ADDR) 10336
      if n = 2 then s.iteStore img o.table else s.iteLoad img o.table
  | 0x15 => if x.testBit 16 then (s.p F.CMG_ARM_GO 0).armGate (s.g F.CMG_ARM_BASE) else s
  | 0x1c => if x.testBit 0 then (s.p F.PKG_LOAD_GO 0).pkgStart else s
  | 0x31 => s.keyCmd (fld x 0 4) (fld x 8 8) (fld x 16 16) o.key
  | 0x34 =>
    if !x.testBit 0 then s
    else if n = 1 then s.orderPresent (s.bytes (s.g F.TEN_ORDERADDR_ADDR) 160) o.signatureOk 5
    else (s.configLoad (s.bytes (s.g F.TEN_CFGADDR_ADDR) 2272) o.signatureOk).2
  | 0x35 => s.attMeas n (fld x 0 4) (fld x 4 2) (fld x 32 32)
  | 0x36 => if x.testBit 8 then s.appletLoad (fld x 0 3) (s.imageAt (s.g F.LVA_LOADADDR_ADDR)) o.load else s
  | _ => s

/-- One write to a locked register (R138 to R141). -/
def State.lockedStore (s : State) (acc : Accessor) (page off : Nat) (v : Word) (o : Option Outcomes) : State :=
  s.finalWrite acc page off v (fun n x =>
    match o with
    | some c => x.seqAct acc page n v c
    | none => let r := x.outcomes; r.2.seqAct acc page n v r.1)

/-! ## What a granted write does -/

/-- A register of plain fields takes the value, with the digest of R482 after it, and the T1 gate that MOD_CFG.PLAIN_ALLOWED moves (R237). -/
def State.plainStore (s : State) (page off : Nat) (v : Word) (mask : Nat) : State :=
  let s1 := s.configStore page off v mask
  let hashed := (page == 0x23 && (off == 0x80 || (0x100 ≤ off && off < 0x140))) || (page == 0x22 && off == 0x80) ||
    (page == 8 && off == 0x90)
  let s2 := if hashed then s1.cfgDigest else s1
  if page == 8 && off == 0x90 then s2.regate else s2

/-- A granted write (R134): the action of the register, or its fields under the mask. -/
def State.grantedStore (s : State) (acc : Accessor) (page off : Nat) (v : Word) (mask : Nat) (o : Option Outcomes) : State :=
  let x := v.toNat
  let keeper := isKeeper acc
  match page, off with
  | 4, 0x80 => s.logClrClass x
  | 4, 0x88 => s.logClrSelf x
  | 5, 0x88 => s.completeSrc false (fld x 0 9)
  | 5, 0x98 => s.completeSrc true (fld x 0 9)
  | 0x28, 0xb0 => if 320 ≤ fld x 0 9 && fld x 0 9 ≤ 335 then s.completeSrc true (fld x 0 9) else s
  | 0x10, 0xc0 => if x.testBit 8 then s.gatherStart (fld x 0 5) else s
  | 0x10, 0xc8 => s.setWord (regKey 0x10 0xc8) v
  | 0x10, 0xd0 => s.setWord (regKey 0x10 0xd0) v
  | 0x11, 0x88 => s.setWord (regKey 0x11 0x88) (s.word (regKey 0x11 0x88) &&& ~~~v)
  | 0x11, 0x90 => { s with bar := { s.bar with rise := some (fld x 0 32) } }
  | 0x11, 0x98 => { s with bar := { s.bar with fall := some (fld x 0 32) } }
  | 0x12, 0x88 => s.foutSet (fld x 0 16) (fld x 16 16)
  | 0x12, 0xa0 => s.sweepWrite x
  | 0x13, 0x80 => s.fcntReset (fld x 0 4)
  | 0x18, 0xe0 => s.setWindow acc page (fld x 0 6)
  | 0x1b, 0x100 => s.setWindow acc page (fld x 0 10)
  | 0x20, 0xd8 => s
  | 0x21, 0xd8 => s.setWindow acc page (fld x 0 6)
  | 0x31, 0xe0 => s.setWindow acc page (fld x 0 8)
  | 0x19, 0xa0 => if x.testBit 0 then s.doorUnhold 0 else s
  | 0x1a, 0xa0 => if x.testBit 0 then s.doorUnhold 1 else s
  | 0x22, 0x88 =>
    if fld x 0 32 < s.g F.TSY_COUNT_COUNT then s.tsyLost 63 else s.p F.TSY_COUNT_COUNT (fld x 0 32)
  | 0x28, 0x88 => s.hbxTail true (fld x 0 16)
  | 0x28, 0x98 => s.hbxTail false (fld x 0 16)
  | 0x2b, 0xd8 => s.emcKeyctl (x.testBit 0) (x.testBit 1) (x.testBit 2)
  | 0x30, 0x10 => if x.testBit 0 then (s.p F.KPX_CTL_ROMOFF 1).p F.ATT_STAT_SEALED 1 else s
  | 0x30, 0x88 => s.putMasked page off (v &&& ~~~(3 : Word)) mask
  | 0x30, 0x90 => s.putMasked page off (v &&& ~~~(3 : Word)) mask
  | 0x30, 0x110 => if x.testBit 8 then s.nvmStart (fld x 0 2) else s
  | 0x32, 0x80 =>
    let r := match o with | some c => (c, s) | none => s.outcomes
    r.2.ctrCmd (fld x 8 2) (fld x 0 5) (fld x 32 32) r.1.key.programOk
  | 0x33, 0x80 => s.tmpLevelStore (fld x 0 22)
  | 0x33, 0xa0 => s.tmpClr (fld x 0 3)
  | _, _ =>
    if page = 5 && 0x200 ≤ off && off < 0x400 then s.writeSrccfg ((off - 0x200) / 8) keeper x
    else if page = 5 && 0x400 ≤ off then s.writeGcfg ((off - 0x400) / 0x40) x
    else if page = 8 && 0x100 ≤ off && off < 0x158 then s.writeReq ((off - 0x100) / 8) (fld x 0 8) (fld x 8 8) (whoOf acc)
    else if page = 0x20 || page = 0x21 then
      let n := page - 0x20
      let c := s.can n
      if off = 0x88 || off = 0x90 then s.writeTiming n (off == 0x90) (underMask 0 v mask)
      else if off = 0xc0 then
        let s1 := if x.testBit 0 then s.abortHead n else s
        if x.testBit 1 then s1.flushQueue n else s1
      else if off = 0xe0 then s.bufAbort n (fld x 0 8)
      else if off = 0xe8 then
        let head := if keeper then c.stageHead else s.word (regKey page 0xf8)
        let data := if keeper then c.stageData else (List.range 8).map (fun k => s.word (regKey page (0x100 + 8 * k)))
        if x.testBit 16 then s.txGo n (fld x 0 4) (stagedFrame head data) else s
      else if off = 0xf0 then (if x.testBit 8 then s.txJob n (fld x 0 6) else s)
      else if off = 0xf8 && keeper then s.setCan n { c with stageHead := underMask c.stageHead v mask }
      else if 0x100 ≤ off && off < 0x140 && keeper then s.setCan n { c with stageData := c.stageData.set ((off - 0x100) / 8) v }
      else s.plainStore page off v mask
    else s.plainStore page off v mask

/-! ## One write -/

/-- A 64-bit write of a page register by an accessor, with the outcomes that the command names (R120 to R143). -/
def State.pageStoreWith (s : State) (acc : Accessor) (page off : Nat) (v : Word) (o : Option Outcomes) : State :=
  let o' := s.absOff acc page off
  if !pageAssigned page then s.lost 0 53
  else if !s.reaches acc page then s.violation page
  else if o' = 0x40 then s.lockWrite acc page (fld v.toNat 0 8) (fld v.toNat 16 16)
  else if lockedReg page o' then s.lockedStore acc page o' v o
  else match rowAt page o' with
    | none => s
    | some r =>
      let col := writeCol page o'
      let km := if isKeeper acc then r.km else 0
      if col = 8 then (if km = 0 then s else s.grantedStore acc page o' v km o)
      else if !s.mayWrite acc col page then
        (if km ≠ 0 && col ≠ 7 then s.plainStore page o' v km else s).violation page
      else if o' = 0x20 then s.evtClear page v
      else if o' = 0x28 then s.evtenWrite page v
      else if o' = 0x38 then s.trclr page (fld v.toNat 0 4)
      else (s.grantedStore acc page o' v (r.rw ||| km) o).siteKeep page o'

/-- A write as an accessor makes it on its own. -/
def State.pageStore (s : State) (acc : Accessor) (page off : Nat) (v : Word) : State := s.pageStoreWith acc page off v none

/-- A write command: its effect while the page space takes accesses. -/
def State.writeCmd (s : State) (acc : Accessor) (page off : Nat) (v : Nat) (o : Option Outcomes) : State :=
  if s.clocked then s.pageStoreWith acc page off (BitVec.ofNat 64 v) o else s

/-- A read command: the data that it returns is kept in `readOut`. -/
def State.readCmd (s : State) (acc : Accessor) (page off : Nat) : State :=
  if s.clocked then
    let r := s.readAs acc page off
    { r.2 with readOut := r.1 }
  else s

end Sys2Proof.Machine
end

