-- ==== Sys2Proof/Machine/Writes.lean ====
section
/-!
DEFINITION. Sys2Proof/Machine/Writes.lean: the rows of the table that are an access to the page space: what is written, and where.
-/
namespace Sys2Proof.Machine
open Sys2Proof

/-- Outcomes that a command names: of a KEY or CTR command, of a table image, of an applet image, of a signature. -/
def keyOutcomes (c : KeyCheck) : Outcomes := { key := c, table := ⟨true, true, true⟩, load := ⟨true, true⟩, signatureOk := true }
def tableOutcomes (c : TableCheck) : Outcomes := { keyOutcomes ⟨true, true, true, true⟩ with table := c }
def loadOutcomes (c : LoadCheck) : Outcomes := { keyOutcomes ⟨true, true, true, true⟩ with load := c }
def signOutcomes (ok : Bool) : Outcomes := { keyOutcomes ⟨true, true, true, true⟩ with signatureOk := ok }
def programOutcomes (ok : Bool) : Outcomes := keyOutcomes ⟨true, true, ok, true⟩

/-! ## Resets, requests, the common header, locked sequences -/

/-- RST_CMD with CMD 3, the final write of RST sequence 1 or 2 (R188). -/
def effRstCmdWarm (acc : Accessor) (s : State) : State := s.writeCmd acc 0x03 0x98 3 none

/-- RST_CMD with CMD 4 (R188). -/
def effRstCmdMolt (acc : Accessor) (s : State) : State := s.writeCmd acc 0x03 0x98 4 none

/-- RST_CMD with CMD 5 (R188). -/
def effRstCmdCarapace (acc : Accessor) (s : State) : State := s.writeCmd acc 0x03 0x98 5 none

/-- A write of MOD_REQn (R80, R92). -/
def effModReqnWrite (acc : Accessor) (index : Nat) (value arg : Byte) (s : State) : State :=
  s.writeCmd acc 0x08 (0x100 + 8 * index) (value.toNat + 0x100 * arg.toNat) none

/-- VALUE 0xFF on MOD_REQn (R81). -/
def effModReqCancel (acc : Accessor) (index : Nat) (s : State) : State := s.writeCmd acc 0x08 (0x100 + 8 * index) 0xff none

/-- An access to an unassigned page (R120). -/
def effUnassignedPageAccess (page : Nat) (s : State) : State := if s.clocked && !pageAssigned page then (s.lost 0 53) else s

/-- An access that is not 64 bits wide and aligned (R121); whoever makes it, it is counted alike. -/
def effNarrowAccess (_acc : Accessor) (page : Nat) (s : State) : State :=
  if s.clocked then (s.lost (if pageAssigned page then page else 0) 53) else s

/-- A 64-bit write at an offset of a page: one that is not aligned is that of R121, one beyond the page reaches nothing. -/
def State.writeAt (s : State) (acc : Accessor) (page offset : Nat) (value : Word) : State :=
  if 0x1000 ≤ offset then s else if offset % 8 ≠ 0 then effNarrowAccess acc page s else s.writeCmd acc page offset value.toNat none

/-- A write of a register that has no row of its own (R134). -/
def effRegisterWrite (acc : Accessor) (page offset : Nat) (value : Word) (s : State) : State := s.writeAt acc page offset value

/-- A write of EVT (R129). -/
def effEvtClear (acc : Accessor) (page : Nat) (bits : Word) (s : State) : State := s.writeCmd acc page 0x20 bits.toNat none

/-- A write of EVTEN (R130). -/
def effEvtenWrite (acc : Accessor) (page : Nat) (bits : Word) (s : State) : State := s.writeCmd acc page 0x28 bits.toNat none

/-- A write of TRCLR (R132). -/
def effTrclrWrite (acc : Accessor) (page : Nat) (bits : Word) (s : State) : State := s.writeCmd acc page 0x38 bits.toNat none

/-- A write of LOCK that names a sequence (R136, R137). -/
def effLockArm (acc : Accessor) (page : Nat) (seq : Byte) (arm : BitVec 16) (s : State) : State :=
  s.writeCmd acc page 0x40 (seq.toNat + 0x10000 * arm.toNat) none

/-- A write of LOCK with SEQ 0 (R140). -/
def effLockCancel (acc : Accessor) (page : Nat) (s : State) : State := s.writeCmd acc page 0x40 0x4c4b0000 none

/-- A write to a locked register (R138, R139). -/
def effLockedRegisterWrite (acc : Accessor) (page offset : Nat) (value : Word) (s : State) : State := s.writeAt acc page offset value

/-- REMAIN reaches zero before the final write (R140). -/
def effLockWindowExpiry (page : Nat) (s : State) : State :=
  if s.clocked && s.b (lockArmed page) then (s.abandon page true) else s

/-- The write of SYS_ASSET1, the final write of SYS sequence 1 (R149). -/
def effSysAssetSet (acc : Accessor) (value : Word) (s : State) : State := s.writeCmd acc 0x00 0x98 value.toNat none

/-- A write of LOG_CLR_CLASS (R217), with the entries whose parity has been upset since (R210). -/
def effLogClrClass (acc : Accessor) (classes : Word) (upsets : List (Nat × Bool)) (s : State) : State :=
  ({ s with logUpsets := s.logUpsets ++ upsets } : State).writeCmd acc 0x04 0x80 classes.toNat none

/-- A write of LOG_CLR_SELF (R217). -/
def effLogClrSelf (acc : Accessor) (bits : Word) (s : State) : State := s.writeCmd acc 0x04 0x88 bits.toNat none

/-! ## ICU -/

/-- A write of ICU_GCFGn (R236). -/
def effIcuGcfgWrite (acc : Accessor) (group : Nat) (value : Word) (s : State) : State :=
  s.writeCmd acc 0x05 (0x400 + 0x40 * group) value.toNat none

/-- A write of ICU_SRCCFGk (R235). -/
def effIcuSrccfgWrite (acc : Accessor) (index : Nat) (value : Word) (s : State) : State :=
  s.writeCmd acc 0x05 (0x200 + 8 * index) value.toNat none

/-- A read of ICU_CLAIM0 or ICU_CLAIM1 (R231, R232). -/
def effIcuClaim (acc : Accessor) (target : Target) (s : State) : State :=
  s.readCmd acc 0x05 (match target with | .t0 => 0x80 | .t1 => 0x90)

/-- A write of ICU_COMPLETE0 or ICU_COMPLETE1 (R233). -/
def effIcuComplete (acc : Accessor) (target : Target) (source : Nat) (s : State) : State :=
  s.writeCmd acc 0x05 (match target with | .t0 => 0x88 | .t1 => 0x98) source none

/-! ## Field pages, interlock, position and doors -/

/-- A write of FOUT_SET (R283). -/
def effFoutSet (acc : Accessor) (value mask : BitVec 16) (s : State) : State :=
  s.writeCmd acc 0x12 0x88 (value.toNat + 0x10000 * mask.toNat) none

/-- A write of FCNT_RESET (R279). -/
def effFcntReset (acc : Accessor) (units : BitVec 4) (s : State) : State := s.writeCmd acc 0x13 0x80 units.toNat none

/-- FOUT sequence 1 (R288). -/
def effFoutUninhibit (acc : Accessor) (channels : BitVec 16) (s : State) : State := s.writeCmd acc 0x12 0x98 channels.toNat none

/-- A write of FOUT_SWEEP with START (R289). -/
def effFoutSweepStart (acc : Accessor) (mask : BitVec 16) (onTest allOff : Bool) (settle : Byte) (s : State) : State :=
  s.writeCmd acc 0x12 0xa0 
    (mask.toNat + 0x10000 * b2n onTest + 0x20000 * b2n allOff + 0x1000000 * settle.toNat + 0x100000000) none

/-- A write of FOUT_SWEEP with ABORT (R292). -/
def effFoutSweepAbort (acc : Accessor) (s : State) : State := s.writeCmd acc 0x12 0xa0 0x200000000 none

/-- A write of FLD_GATHER with START (R293). -/
def effFldGatherStart (acc : Accessor) (count : BitVec 5) (s : State) : State := s.writeCmd acc 0x10 0xc0 (count.toNat + 0x100) none

/-- ITE sequence 1 (R309). -/
def effIteTripclr (acc : Accessor) (s : State) : State := s.writeCmd acc 0x14 0x90 1 none

/-- The final write of ITE sequence 2 (R311). -/
def effIteStore (acc : Accessor) (check : TableCheck) (s : State) : State := s.writeCmd acc 0x14 0xc8 1 (some (tableOutcomes check))

/-- The final write of ITE sequence 3 (R312). -/
def effIteStoreAndLoad (acc : Accessor) (check : TableCheck) (s : State) : State :=
  s.writeCmd acc 0x14 0xc8 2 (some (tableOutcomes check))

/-- CMG sequence 1 (R330). -/
def effCmgArm (acc : Accessor) (base : BitVec 16) (s : State) : State := s.writeCmd acc 0x15 0x80 (base.toNat + 0x10000) none

/-- A write of CAR_CFG or CAR_SCALE (R346). -/
def effCarUnitScaleWrite (acc : Accessor) (scale : Bool) (value : Word) (s : State) : State :=
  s.writeCmd acc 0x18 (if scale then 0x88 else 0x80) value.toNat none

/-- A write of DOR_CMD with UNHOLD (R358). -/
def effDorUnhold (acc : Accessor) (door : Nat) (s : State) : State := s.writeCmd acc (0x19 + door) 0xa0 1 none

/-! ## PKG and the CAN controllers -/

/-- The final write of PKG sequence 1 (R408). -/
def effPkgLoad (acc : Accessor) (s : State) : State := s.writeCmd acc 0x1c 0x90 1 none

/-- A read of CBn_RXPOP (R428). -/
def effRxpop (acc : Accessor) (bus : Nat) (s : State) : State := s.readCmd acc (0x20 + bus) 0xd0

/-- A write of CBn_TXGO with GO for a priority buffer (R429). -/
def effTxgoBuffer (acc : Accessor) (bus dest : Nat) (s : State) : State := s.writeCmd acc (0x20 + bus) 0xe8 (dest + 0x10000) none

/-- A write of CBn_TXGO with GO for the queue (R429). -/
def effTxgoQueue (acc : Accessor) (bus : Nat) (s : State) : State := s.writeCmd acc (0x20 + bus) 0xe8 0x10008 none

/-- A write of CBn_TXJOB with GO (R447). -/
def effTxjob (acc : Accessor) (bus job : Nat) (s : State) : State := s.writeCmd acc (0x20 + bus) 0xf0 (job + 0x100) none

/-- A write of CBn_TXQ_CTL with ABORT_HEAD (R454). -/
def effAbortHead (acc : Accessor) (bus : Nat) (s : State) : State := s.writeCmd acc (0x20 + bus) 0xc0 1 none

/-- A write of CBn_TXQ_CTL with FLUSH (R454). -/
def effFlush (acc : Accessor) (bus : Nat) (s : State) : State := s.writeCmd acc (0x20 + bus) 0xc0 2 none

/-- A write of CBn_BUFABORT (R440). -/
def effBufabort (acc : Accessor) (bus : Nat) (buffers : Byte) (s : State) : State :=
  s.writeCmd acc (0x20 + bus) 0xe0 buffers.toNat none

/-- A write of CBn_NBT or CBn_DBT (R423). -/
def effBitTimingWrite (acc : Accessor) (bus : Nat) (data : Bool) (value : Word) (s : State) : State :=
  s.writeCmd acc (0x20 + bus) (if data then 0x90 else 0x88) value.toNat none

/-! ## Karpex-owned pages -/

/-- A write of KPX_CTL with ROMOFF (R501). -/
def effRomoff (acc : Accessor) (s : State) : State := s.writeCmd acc 0x30 0x10 1 none

/-- A write of KPX_NVMCMD with CMD 1 and GO (R537). -/
def effNvmProgram (acc : Accessor) (s : State) : State := s.writeCmd acc 0x30 0x110 0x101 none

/-- A write of KPX_NVMCMD with CMD 2 and GO (R537). -/
def effNvmErase (acc : Accessor) (s : State) : State := s.writeCmd acc 0x30 0x110 0x102 none

/-- An NVM command ends (R537). -/
def effNvmDone (verified : Bool) (s : State) : State := if s.core.nvm.isSome then (s.nvmEnd verified) else s

/-- The final write of LVA sequence 1 (R532). -/
def effLvaLoad (acc : Accessor) (slot : Nat) (check : LoadCheck) (s : State) : State :=
  s.writeCmd acc 0x36 0x90 (slot + 0x100) (some (loadOutcomes check))

/-- The final write of KEY sequence 1 with GENERATE (R572). -/
def effGenerateSlot (acc : Accessor) (slot : Byte) (arg : BitVec 16) (check : KeyCheck) (s : State) : State :=
  s.writeCmd acc 0x31 0x80 
    (1 + 0x100 * slot.toNat + 0x10000 * arg.toNat) (some (keyOutcomes check))

/-- The final write of KEY sequence 1 with IMPORT (R556). -/
def effImportSlot (acc : Accessor) (slot : Byte) (arg : BitVec 16) (check : KeyCheck) (s : State) : State := s.writeCmd acc 0x31 0x80 
    (2 + 0x100 * slot.toNat + 0x10000 * arg.toNat) (some (keyOutcomes check))

/-- The final write of KEY sequence 1 with DELETE (R572). -/
def effDeleteSlot (acc : Accessor) (slot : Byte) (arg : BitVec 16) (check : KeyCheck) (s : State) : State := s.writeCmd acc 0x31 0x80 
    (3 + 0x100 * slot.toNat + 0x10000 * arg.toNat) (some (keyOutcomes check))

/-- The final write of KEY sequence 1 with CHECK (R551). -/
def effCheckSlot (acc : Accessor) (slot : Byte) (arg : BitVec 16) (s : State) : State := s.writeCmd acc 0x31 0x80 
    (4 + 0x100 * slot.toNat + 0x10000 * arg.toNat) none

/-- The final write of KEY sequence 1 with DELIVER (R561). -/
def effDeliver (acc : Accessor) (slot : Byte) (arg : BitVec 16) (s : State) : State := s.writeCmd acc 0x31 0x80 
    (5 + 0x100 * slot.toNat + 0x10000 * arg.toNat) none

/-- The final write of KEY sequence 1 with NEWROOT (R541). -/
def effNewroot (acc : Accessor) (slot : Byte) (arg : BitVec 16) (check : KeyCheck) (s : State) : State := s.writeCmd acc 0x31 0x80 
    (6 + 0x100 * slot.toNat + 0x10000 * arg.toNat) (some (keyOutcomes check))

/-- The final write of KEY sequence 1 with LIFECYCLE (R573). -/
def effLifecycle (acc : Accessor) (slot : Byte) (arg : BitVec 16) (check : KeyCheck) (s : State) : State := s.writeCmd acc 0x31 0x80 
    (7 + 0x100 * slot.toNat + 0x10000 * arg.toNat) (some (keyOutcomes check))

/-- The final write of KEY sequence 1 with KEEPER_FLOOR (R572). -/
def effKeeperFloor (acc : Accessor) (slot : Byte) (arg : BitVec 16) (check : KeyCheck) (s : State) : State := s.writeCmd acc 0x31 0x80 
    (8 + 0x100 * slot.toNat + 0x10000 * arg.toNat) (some (keyOutcomes check))

/-- The final write of KEY sequence 1 with TMP_FLOOR (R565). -/
def effTmpFloor (acc : Accessor) (slot : Byte) (arg : BitVec 16) (check : KeyCheck) (s : State) : State := s.writeCmd acc 0x31 0x80 
    (9 + 0x100 * slot.toNat + 0x10000 * arg.toNat) (some (keyOutcomes check))

/-- The final write of KEY sequence 1 with COMMIT (R574). -/
def effCommitRoot (acc : Accessor) (slot : Byte) (arg : BitVec 16) (s : State) : State := s.writeCmd acc 0x31 0x80 
    (10 + 0x100 * slot.toNat + 0x10000 * arg.toNat) none

/-- A write of CTR_CMD with INC (R560). -/
def effIncCounter (acc : Accessor) (index : Nat) (programOk : Bool) (s : State) : State :=
  s.writeCmd acc 0x32 0x80 (index + 0x100) (some (programOutcomes programOk))

/-- A write of CTR_CMD with RAISE (R560). -/
def effRaiseCounter (acc : Accessor) (index : Nat) (value : BitVec 32) (programOk : Bool) (s : State) : State :=
  s.writeCmd acc 0x32 0x80 (index + 0x200 + 0x100000000 * value.toNat) (some (programOutcomes programOk))

/-- A write of TMP_LEVEL (R565). -/
def effTmpLevelWrite (acc : Accessor) (value : Word) (s : State) : State := s.writeCmd acc 0x33 0x80 value.toNat none

/-- A write of TMP_CLR with LATCH (R575). -/
def effTmpClrLatch (acc : Accessor) (s : State) : State := s.writeCmd acc 0x33 0xa0 1 none

/-- A write of TMP_CLR with LOCK_LIFT (R569). -/
def effLockLift (acc : Accessor) (s : State) : State := s.writeCmd acc 0x33 0xa0 2 none

/-- A write of TMP_CLR with COUNTS (R575). -/
def effTmpClrCounts (acc : Accessor) (s : State) : State := s.writeCmd acc 0x33 0xa0 4 none

/-- The final write of TEN sequence 1 (R581). -/
def effTenMolt (acc : Accessor) (signatureOk : Bool) (s : State) : State :=
  s.writeCmd acc 0x34 0x88 1 (some (signOutcomes signatureOk))

/-- The final write of TEN sequence 2 (R578). -/
def effTenCfgload (acc : Accessor) (signatureOk : Bool) (s : State) : State :=
  s.writeCmd acc 0x34 0x98 1 (some (signOutcomes signatureOk))

/-- The final write of ATT sequence 1 with MODE 0 (R614). -/
def effAttMeasHash (acc : Accessor) (entry : BitVec 4) (version : BitVec 32) (s : State) : State := s.writeCmd acc 0x35 0x90 
    (entry.toNat + 0x10 * 0 + 0x100000000 * version.toNat) none

/-- The final write of ATT sequence 2 with MODE 1 (R600). -/
def effAttMeasCopyCmg (acc : Accessor) (entry : BitVec 4) (version : BitVec 32) (s : State) : State := s.writeCmd acc 0x35 0x90 
    (entry.toNat + 0x10 * 1 + 0x100000000 * version.toNat) none

/-- The final write of ATT sequence 2 with MODE 2 (R600). -/
def effAttMeasCopyPkg (acc : Accessor) (entry : BitVec 4) (version : BitVec 32) (s : State) : State := s.writeCmd acc 0x35 0x90 
    (entry.toNat + 0x10 * 2 + 0x100000000 * version.toNat) none

/-- The final write of ATT sequence 2 with MODE 3 (R614). -/
def effAttMeasClear (acc : Accessor) (entry : BitVec 4) (version : BitVec 32) (s : State) : State := s.writeCmd acc 0x35 0x90 
    (entry.toNat + 0x10 * 3 + 0x100000000 * version.toNat) none

/-- A write of EMC_KEYCTL with LOAD (R615). -/
def effEmcKeyLoad (acc : Accessor) (s : State) : State := s.writeCmd acc 0x2b 0xd8 1 none

/-- A write of EMC_KEYCTL with CLEAR (R615). -/
def effEmcKeyClear (acc : Accessor) (s : State) : State := s.writeCmd acc 0x2b 0xd8 2 none

/-- A write of EMC_KEYCTL with SCRUB (R615). -/
def effEmcScrubStart (acc : Accessor) (s : State) : State := s.writeCmd acc 0x2b 0xd8 4 none

/-- A write of HBX_H2D_TAIL (R629). -/
def effHbxH2dTailWrite (acc : Accessor) (index : BitVec 16) (s : State) : State := s.writeCmd acc 0x28 0x88 index.toNat none

/-- A write of HBX_D2H_TAIL (R629). -/
def effHbxD2hTailWrite (acc : Accessor) (index : BitVec 16) (s : State) : State := s.writeCmd acc 0x28 0x98 index.toNat none

/-- A write of HBX_COMPLETE (R653). -/
def effHbxComplete (acc : Accessor) (source : BitVec 9) (s : State) : State := s.writeCmd acc 0x28 0xb0 source.toNat none

end Sys2Proof.Machine
end

