-- ==== Sys2Proof/Machine/CoreBase.lean ====
section
/-!
DEFINITION. Sys2Proof/Machine/CoreBase.lean: the Karpex core between instructions: its registers (R495), the instruction words of the
Larva set (R506 to R513), exceptions (R514 to R518), fetches, loads and stores (R501 to R505, R510, R511).
-/
namespace Sys2Proof.Machine
open Sys2Proof

/-! ## Registers -/

/-- x0 reads as zero, and writes to it are discarded (R495). -/
def State.xr (s : State) (i : Nat) : Word := if i = 0 then 0 else s.core.x.getD i 0
def State.setX (s : State) (i : Nat) (v : Word) : State :=
  if i = 0 then s else { s with core := { s.core with x := s.core.x.set i v } }

/-- PRIV: the core is at Applet privilege (R496). -/
def State.atApplet (s : State) : Bool := s.b F.KPX_STATUS_PRIV

/-- An instruction completes and the core goes on at an address (R537: KPX_INSTRET). -/
def State.coreTo (s : State) (pc : Word) : State :=
  ({ s with core := { s.core with pc := pc, passed := false, held := false } } : State).wrapInc F.KPX_INSTRET_COUNT

/-- An instruction completes and the core goes on with the next. -/
def State.coreNext (s : State) : State := s.coreTo (s.core.pc + 4)

/-! ## Instruction words (R506) -/

/-- A Larva instruction by format: the A format with its FN, I, M and B with their OP, S with its SUB. -/
inductive LarvaOp where
  | a (fn : Nat) (rd rs1 rs2 : Fin 16)
  | i (op : Nat) (rd rs1 : Fin 16) (imm : BitVec 18)
  | m (op : Nat) (rt rs1 : Fin 16) (off : BitVec 18)
  | b (op : Nat) (rs1 rs2 : Fin 16) (off : BitVec 18)
  | s (sub : Nat) (code : BitVec 12)
  deriving DecidableEq, Repr

/-- The instruction word. -/
def LarvaOp.word : LarvaOp → BitVec 32
  | .a fn rd rs1 rs2 => BitVec.ofNat 32 (rd.val * 2 ^ 22 + rs1.val * 2 ^ 18 + rs2.val * 2 ^ 14 + fn)
  | .i op rd rs1 imm => BitVec.ofNat 32 (op * 2 ^ 26 + rd.val * 2 ^ 22 + rs1.val * 2 ^ 18 + imm.toNat)
  | .m op rt rs1 off => BitVec.ofNat 32 (op * 2 ^ 26 + rt.val * 2 ^ 22 + rs1.val * 2 ^ 18 + off.toNat)
  | .b op rs1 rs2 off => BitVec.ofNat 32 (op * 2 ^ 26 + rs1.val * 2 ^ 22 + rs2.val * 2 ^ 18 + off.toNat)
  | .s sub code => BitVec.ofNat 32 (0x3f * 2 ^ 26 + sub * 2 ^ 12 + code.toNat)

/-- A register number from a field of a word. -/
def regField (w lo : Nat) : Fin 16 := ⟨fld w lo 4, Nat.mod_lt _ (by decide)⟩

/-- The instruction that a word is; none raises ILLEGAL (R507). -/
def decodeLarva (word : BitVec 32) : Option LarvaOp :=
  let w := word.toNat
  let op := fld w 26 6
  let r1 := regField w 22
  let r2 := regField w 18
  let r3 := regField w 14
  let imm := BitVec.ofNat 18 w
  if op = 0 then
    (if fld w 6 8 ≠ 0 || 0x14 < fld w 0 6 || (0x13 ≤ fld w 0 6 && r3 ≠ 0) then none else some (.a (fld w 0 6) r1 r2 r3))
  else if op ≤ 0x0d then
    (if (5 ≤ op && op ≤ 7 && fld w 6 12 ≠ 0) || (0x0a ≤ op && op ≤ 0x0c && r2 ≠ 0) then none else some (.i op r1 r2 imm))
  else if (0x10 ≤ op && op ≤ 0x16) || (0x18 ≤ op && op ≤ 0x1b) then some (.m op r1 r2 imm)
  else if 0x20 ≤ op && op ≤ 0x25 then some (.b op r1 r2 imm)
  else if op = 0x3f then
    (if fld w 18 8 ≠ 0 || 3 < fld w 12 6 || (fld w 12 6 = 3 && fld w 0 12 ≠ 0) then none
     else some (.s (fld w 12 6) (BitVec.ofNat 12 w)))
  else none

/-! ## Exceptions (R514 to R518) -/

/-- An exception (R515), or a lockup while one is handled (R517). -/
def State.exception (s : State) (cause : Nat) (pc addr : Word) (word : BitVec 32) : State :=
  if s.b F.KPX_STATUS_INTRAP then (s.p F.KPX_STAT_LOCKUP 1).tamper 0x100
  else
    let s1 := (((s.p F.KPX_TRAPPC_PC pc.toNat).p F.KPX_TRAPADDR_ADDR addr.toNat).p F.KPX_TRAPCAUSE_CAUSE cause).p F.KPX_TRAPWORD_WORD
      word.toNat
    let s2 := ((s1.p F.KPX_STATUS_RETPRIV (s.g F.KPX_STATUS_PRIV)).p F.KPX_STATUS_PRIV 0).p F.KPX_STATUS_INTRAP 1
    { s2 with core := { s2.core with pc := BitVec.ofNat 64 (s.g F.KPX_TRAPVEC_ADDR), passed := false, held := false } }

/-- A fault of the instruction at pc: at Applet privilege Keeper ends the entry (R518). -/
def State.coreFault (s : State) (cause : Nat) (addr : Word) (word : BitVec 32) : State :=
  let s1 := s.exception cause s.core.pc addr word
  if s.atApplet then s1.entryFaulted cause s.core.pc.toNat else s1

/-- The core takes an INTERRUPT before the next instruction (R516). -/
def State.interruptDue (s : State) : Bool :=
  s.requestLine false && !s.b F.KPX_STATUS_INTRAP && (s.atApplet || s.b F.KPX_STATUS_INTEN)
def State.takeInterrupt (s : State) : State := s.exception 16 s.core.pc 0 0

/-! ## Memory as the core sees it -/

/-- What a fetch or load finds: a value, a fault, an uncorrectable error of secure NVM, a wait for the end of an NVM command. -/
inductive CoreRead where
  | value (v : Nat)
  | fault
  | nvmData
  | wait
  deriving DecidableEq, Repr

/-- A read of secure NVM (R514, R537). -/
def State.nvmRead (s : State) (a n : Nat) (e : Ecc) : CoreRead :=
  if s.b F.KPX_NVMSTAT_BUSY then .wait
  else if e = .transient || e = .lasting || s.nvm.badWords.contains ((a - 0x28000000) / 8) then .nvmData
  else .value (s.loadLe a n)

/-- The slot of the applet windows. -/
def State.aslot (s : State) : Nat := s.g F.KPX_ASLOT_SLOT

/-- A fetch at pc (R501, R503). -/
def State.fetch (s : State) (e : Ecc) : CoreRead :=
  let a := s.core.pc.toNat
  if s.atApplet then
    (if a < 0x8000 && s.b F.KPX_ASLOT_MAPPED then s.nvmRead (codeBase s.aslot + a) 4 e else .fault)
  else match s.region a with
    | .secure => .value (s.loadLe a 4)
    | .nvm => s.nvmRead a 4 e
    | .rom => if s.b F.KPX_CTL_ROMOFF then .fault else .value (s.loadLe a 4)
    | _ => .fault

/-- The applet data area that an address of secure SRAM lies in, while its slot is not resident (R505). -/
def State.hiddenData (s : State) (a : Nat) : Bool :=
  decide (0x20020000 ≤ a) && decide (a < 0x20040000) && !s.resident ((a - 0x20020000) / 0x4000)

/-- The page and the offset of an address of the page space, up to the last page that an accessor reaches. -/
def pageOf (last a : Nat) : Option (Nat × Nat) :=
  if 0x10000000 ≤ a && a < 0x10000000 + (last + 1) * 0x1000 then some ((a - 0x10000000) / 0x1000, a % 0x1000) else none

/-- A load from the page space: narrower accesses are handled at the target page (R121, R511). -/
def State.pageLoad (s : State) (acc : Accessor) (page off n : Nat) : Nat × State :=
  if n = 8 then let r := s.readAs acc page off; (r.1.toNat, r.2)
  else (0, s.lost (if pageAssigned page then page else 0) 53)

/-- A load of `n` bytes (R501, R503 to R505). -/
def State.coreLoad (s : State) (a n : Nat) (e : Ecc) : CoreRead × State :=
  if s.atApplet then
    match pageOf 0x2b a with
    | some p => let r := s.pageLoad .applet p.1 p.2 n; (.value r.1, r.2)
    | none =>
      if !s.b F.KPX_ASLOT_MAPPED then (.fault, s)
      else if a < 0x8000 then (s.nvmRead (codeBase s.aslot + a) n e, s)
      else if 0x10000 ≤ a && a < 0x14000 then (.value (s.loadLe (dataBase s.aslot + (a - 0x10000)) n), s)
      else (.fault, s)
  else
    match pageOf 0x36 a with
    | some p => let r := s.pageLoad .keeper p.1 p.2 n; (.value r.1, r.2)
    | none =>
      match s.region a with
      | .sram => (.value (s.loadLe a n), s)
      | .model => (.value (if s.mayRead .keeper 7 0x1c then s.loadLe a n else 0), s)
      | .secure => (.value (if s.hiddenData a then 0 else s.loadLe a n), s)
      | .nvm => (s.nvmRead a n e, s)
      | .rom => if s.b F.KPX_CTL_ROMOFF then (.fault, s) else (.value (s.loadLe a n), s)
      | .ext => let r := s.extLoad a n e; (.value r.1, r.2)
      | .none => (.fault, s)

/-- Whether a store is allowed (R501, R503). -/
def State.storeAllowed (s : State) (a : Nat) : Bool :=
  if s.atApplet then (pageOf 0x2b a).isSome || (s.b F.KPX_ASLOT_MAPPED && 0x10000 ≤ a && a < 0x14000)
  else (pageOf 0x36 a).isSome ||
    (match s.region a with | .sram => true | .model => true | .secure => true | .ext => true | _ => false)

/-- A store of `n` bytes that is allowed; `applet` is the privilege of the instruction (R124, R407, R505). -/
def State.coreStore (s : State) (applet : Bool) (a n v : Nat) (e : Ecc) : State :=
  match pageOf (if applet then 0x2b else 0x36) a with
  | some p =>
    if n = 8 then s.pageStore (if applet then .applet else .keeper) p.1 p.2 (BitVec.ofNat 64 v)
    else s.lost (if pageAssigned p.1 then p.1 else 0) 53
  | none =>
    if applet then s.storeLe (dataBase s.aslot + (a - 0x10000)) n v
    else match s.region a with
      | .model =>
        if !s.mayWrite .keeper 7 0x1c then s.violation 0x1c
        else if (a - 0x800000) / 0x40000 = s.g F.PKG_STAT_ACTIVE then s.lost 0x1c 63
        else s.storeLe a n v
      | .secure => if s.hiddenData a then s else s.storeLe a n v
      | .ext => s.extStore a n v e
      | _ => s.storeLe a n v

/-! ## Breakpoints (R673) -/

/-- An enabled breakpoint names the instruction at pc. -/
def State.bpHit (s : State) : Bool :=
  s.atApplet && s.dbg.bps.any (fun w => w.getLsbD 63 && fld w.toNat 16 3 == s.aslot && fld w.toNat 2 13 * 4 == s.core.pc.toNat)

/-- The core stops or waits before the instruction at pc, if HALT would be accepted or deferred there. -/
def State.stopHere (s : State) : Option State :=
  if s.haltRefusal.isSome then none
  else if s.haltBlocked then some { s with core := { s.core with held := true } }
  else some (s.haltNow (if s.core.held then 2 else 1))

/-- The core runs: its clock is there, it is not locked up, halted or waiting in IDLE. -/
def State.coreReady (s : State) : Bool :=
  s.canLive && s.power != .halt && !s.b F.KPX_STAT_LOCKUP && !s.b F.KPX_STAT_HALTED && !s.core.idle

end Sys2Proof.Machine
end

