-- ==== Sys2Proof/Machine/Services.lean ====
section
/-!
DEFINITION. Sys2Proof/Machine/Services.lean: the services that Keeper performs for applets on KCALL (R523 to R529, R557 to R559, R604,
R642), and the frames that reach applets as messages (R642).
-/
namespace Sys2Proof.Machine
open Sys2Proof

/-- What an instruction meets outside the 641's own state: ECC of its access, a GCM tag, programming of secure NVM. -/
structure CoreEnv where
  ecc : Ecc
  tagOk : Bool
  programOk : Bool
  deriving DecidableEq, Repr
def CoreEnv.plain : CoreEnv := { ecc := .ok, tagOk := true, programOk := true }

/-- With one outcome named by the command. -/
def CoreEnv.withEcc (e : Ecc) : CoreEnv := { CoreEnv.plain with ecc := e }
def CoreEnv.withTag (ok : Bool) : CoreEnv := { CoreEnv.plain with tagOk := ok }
def CoreEnv.withProgram (ok : Bool) : CoreEnv := { CoreEnv.plain with programOk := ok }

/-! ## The applet that calls -/

/-- The header and code of the applet in the windows; empty where none is stored. -/
def State.caller (s : State) : List Byte := (s.appletImage s.aslot).getD []

/-- Ends a service with a status in x1 (R526). -/
def State.ret (s : State) (status : Nat) : State := s.setX 1 (BitVec.ofNat 64 status)

/-- The group of GRANT_SVC that a service needs (R525). -/
def serviceGroup (code : Nat) : Nat :=
  if code = 0x010 || code = 0x011 then 1
  else if 0x020 ≤ code && code ≤ 0x028 then 2
  else if code = 0x030 || code = 0x031 then 3
  else if code = 0x040 then 4
  else if code = 0x050 || code = 0x051 then 5
  else if code = 0x060 then 6
  else if code = 0x070 || code = 0x071 then 7
  else 0
def serviceKnown (code : Nat) : Bool :=
  [0x000, 0x001, 0x010, 0x011, 0x020, 0x021, 0x022, 0x023, 0x024, 0x025, 0x026, 0x027, 0x028, 0x030, 0x031, 0x040, 0x050, 0x051, 0x060,
   0x070, 0x071, 0x080].contains code
def State.granted (s : State) (code : Nat) : Bool := serviceGroup code == 0 || (imgGrantSvc s.caller).testBit (serviceGroup code)

/-! ## Buffers (R524) -/

/-- A buffer inside the data window, and one inside the data window or the code window; one of length 0 names nothing. -/
def inData (p n : Nat) : Bool := n == 0 || (decide (0x10000 ≤ p) && decide (p + n ≤ 0x14000))
def inWindows (p n : Nat) : Bool := inData p n || decide (p + n ≤ 0x8000)

/-- The bytes of a buffer as the applet's windows show them, and a write to the data window. -/
def State.winBytes (s : State) (p n : Nat) : List Byte :=
  s.bytes (if p < 0x10000 then codeBase s.aslot + p else dataBase s.aslot + (p - 0x10000)) n
def State.winPut (s : State) (p : Nat) (b : List Byte) : State := s.putBytes (dataBase s.aslot + (p - 0x10000)) b

/-- A parameter block. -/
structure Block where
  at_ : Nat
  inp : List Byte
  out : Nat
  cap : Nat
  aux : List Byte
  deriving DecidableEq, Repr

/-- The block at the address in x2, if it follows the rules of R524. -/
def State.block (s : State) : Option Block :=
  let p := (s.xr 2).toNat
  if p % 8 ≠ 0 || p < 0x10000 || 0x14000 < p + 56 then none
  else
    let f := fun (k : Nat) => s.loadLe (dataBase s.aslot + (p - 0x10000) + 8 * k) 8
    let overlap := decide (f 0 < f 2 + f 3) && decide (f 2 < f 0 + f 1) && !(f 0 == f 2 && f 1 == f 3)
    if !inWindows (f 0) (f 1) || !inData (f 2) (f 3) || !inWindows (f 4) (f 5) || overlap then none
    else some { at_ := p, inp := s.winBytes (f 0) (f 1), out := f 2, cap := f 3, aux := s.winBytes (f 4) (f 5) }

/-- OUT_LEN takes a value, with a status. -/
def State.blockEnd (s : State) (b : Block) (outLen status : Nat) : State := (s.winPut (b.at_ + 0x30) (leBytes 8 outLen)).ret status

/-- The output of a service: into OUT, or SPACE with the size needed (R526). -/
def State.blockOut (s : State) (b : Block) (out : List Byte) : State :=
  if b.cap < out.length then s.blockEnd b out.length 7 else (s.winPut b.out out).blockEnd b out.length 0

/-- A service with a block runs on it; a broken one gets ARG. -/
def State.withBlock (s : State) (act : Block → State) : State := match s.block with | none => s.ret 1 | some b => act b

/-! ## Handles and keys (R527, R557, R558) -/

def State.myHandles (s : State) : List Handle := s.key.handles.filter (fun h => h.applet == s.aslot)
def State.handleOf (s : State) (x : Word) : Option Handle := s.myHandles.find? (fun h => h.number == x.toNat)

/-- Key use is suspended for applets (R526). -/
def State.suspended (s : State) : Bool := s.bat.lock || s.tenancy == .molting

/-- The key behind a handle for a use (R526, R551, R557, R558): its bytes, or the status that refuses it. -/
def State.keyFor (s : State) (x : Word) (use : Nat) : (Nat ⊕ List Byte) × State :=
  if s.suspended then (.inl 4, s)
  else match s.handleOf x with
    | none => (.inl 2, s)
    | some h =>
      match h.key with
      | .eph r =>
        (match s.key.eph.getD r none with
         | none => (.inl 2, s)
         | some e => if (if e.derived then use < 2 else use = 4) then (.inr e.bytes, s) else (.inl 3, s))
      | .slot n =>
        if s.zeroized && s.g (F.KEY_POL_TYPE n) ≠ 2 then (.inl 2, s)
        else if s.b (F.KEY_POL_BAD n) then (.inl 5, s)
        else if !s.b (F.KEY_POL_VALID n) then (.inl 2, s)
        else if !(s.g (F.KEY_POL_USES n)).testBit use then (.inl 3, s)
        else
          let q := if 64 ≤ n && s.g (F.KEY_POL_TYPE n) ≠ 2 then s.rootCheck else (true, s)
          if !q.1 then (.inl 5, q.2)
          else
            let r := q.2.slotUse n
            match r.1 with
            | none => (.inl 5, r.2)
            | some k => (.inr k, r.2)

/-- A new handle of the caller: its number is a free value that no open handle of the caller has (log entry 2). -/
def State.handleNew (s : State) (k : KeyRef) : Word × State :=
  let d := s.draw
  let used := s.myHandles.map (fun h => h.number)
  let n := ((List.range 17).map (fun i => (d.1.toNat + i) % 2 ^ 64)).find? (fun v => !used.contains v)
  let num := n.getD 0
  (BitVec.ofNat 64 num,
    { d.2 with key := { d.2.key with handles := d.2.key.handles ++ [{ applet := s.aslot, number := num, key := k }] } })

/-- An ephemeral register that no handle names takes a key, and a handle names it (R558); SPACE where there is none. -/
def State.ephNew (s : State) (e : Ephemeral) : State :=
  let free := (List.range 32).find? (fun r => !s.key.handles.any (fun h => h.key == .eph r))
  if 16 ≤ s.myHandles.length then s.ret 7
  else match free with
    | none => s.ret 7
    | some r =>
      let t := ({ s with key := { s.key with eph := s.key.eph.set r (some e) } } : State).handleNew (.eph r)
      (t.2.setX 2 t.1).ret 0

/-- A service that uses a key over a block: OUT_LEN is 0 where it fails. -/
def State.keyService (s : State) (use : Nat) (act : State → Block → List Byte → State) : State :=
  s.withBlock (fun b =>
    let r := s.keyFor (s.xr 1) use
    match r.1 with
    | .inl st => r.2.blockEnd b 0 st
    | .inr k => act r.2 b k)

/-! ## The services, by number -/

/-- SEND (R525, R637, R642). Whether the queue of a channel that already holds messages is full the manual does not say: a free value. -/
def State.svcSend (s : State) : State :=
  let x := (s.xr 1).toNat
  let ch := if x = 0 then (match s.lva.running with | some v => if v.kind = 1 then v.channel else 0 | none => 0) else x
  let p := (s.xr 2).toNat
  let n := (s.xr 3).toNat
  if 1024 < n || !inWindows p n || ch = 0 then s.ret 1
  else
    let data := s.winBytes p n
    if ch = hostChannel || isMgt ch then
      if !s.channelUp ch then (s.discardResponse ch).ret 0
      else
        let d := s.draw
        if ch = hostChannel && !s.host.outbox.isEmpty && d.1.getLsbD 0 then d.2.ret 7
        else (s.unasked ch 0xc002 (leBytes 1 s.aslot ++ leBytes 1 0 ++ leBytes 2 n ++ data)).ret 0
    else if 0x1000 ≤ ch && jobNumberOk (ch - 0x1000) then
      let job := ch - 0x1000
      let bus := job / 256
      let j := job % 256
      if !(imgJobs s.caller).contains job || !(s.b (F.CB_JOB_CFG_EN bus j) && s.g (F.CB_JOB_CFG_KIND bus j) = 0) then s.ret 3
      else if n ≠ 8 then s.ret 1
      else
        let c := s.can bus
        ((s.setCan bus { c with stageData := c.stageData.set 0 (BitVec.ofNat 64 (ofLe data)) }).txJob bus j).ret 0
    else s.ret 1

/-- KEY_OPEN (R557). -/
def State.svcKeyOpen (s : State) : State :=
  let n := (s.xr 1).toNat
  if s.suspended then s.ret 4
  else if 256 ≤ n then s.ret 3
  else if s.zeroized && s.g (F.KEY_POL_TYPE n) ≠ 2 then s.ret 2
  else if slotClass n ≠ 2 + s.tenantNo || !s.slotValid n || !s.b (F.KEY_POL_APPLET n) then s.ret 3
  else if 16 ≤ s.myHandles.length then s.ret 7
  else
    let r := s.slotCheck n
    if r.1 then let t := r.2.handleNew (.slot n); (t.2.setX 2 t.1).ret 0 else r.2.ret 5

/-- KEY_CLOSE: an ephemeral register is freed (R558). -/
def State.svcKeyClose (s : State) : State :=
  match s.handleOf (s.xr 1) with
  | none => s.ret 2
  | some h =>
    let eph := match h.key with | .eph r => s.key.eph.set r none | .slot _ => s.key.eph
    ({ s with key := { s.key with handles := s.key.handles.filter (fun y => y != h), eph := eph } } : State).ret 0

def State.svcSeal (s : State) : State :=
  s.keyService 0 (fun t b k =>
    let n := b.inp.length
    if b.cap < n + 28 then t.blockEnd b (n + 28) 7
    else
      let r := t.drbg 12
      let ct := (List.range n).map (Config.gcmSealByte k r.1 b.aux b.inp)
      r.2.blockOut b (r.1 ++ ct ++ leBytes 16 (Config.gcmTag k r.1 b.aux b.inp).toNat))

def State.svcOpen (s : State) (tagOk : Bool) : State :=
  s.keyService 0 (fun t b k =>
    let n := b.inp.length
    if n < 28 then t.blockEnd b 0 1
    else if b.cap < n - 28 then t.blockEnd b (n - 28) 7
    else if !tagOk then t.blockEnd b 0 8
    else t.blockOut b ((List.range (n - 28)).map (Config.gcmOpenByte k (b.inp.take 12) b.aux (slice b.inp 12 (n - 28)))))

def State.svcCmac (s : State) : State :=
  s.keyService 1 (fun t b k => t.blockOut b ((List.range 16).map (Config.cmacByte k b.inp)))

def State.svcSha (s : State) : State := s.withBlock (fun b => s.blockOut b (digestBytes48 (Config.sha384 b.inp)))

def State.svcSign (s : State) : State :=
  s.keyService 2 (fun t b k =>
    if b.cap < 96 then t.blockEnd b 96 7
    else
      let sig := (List.range 96).map (Config.ecdsaSignByte k b.inp t.freeCount)
      ({ t with freeCount := t.freeCount + 1 } : State).blockOut b sig)

def State.svcVerify (s : State) : State :=
  s.withBlock (fun b =>
    if b.aux.length ≠ 193 then s.blockEnd b 0 1
    else (s.blockEnd b 0 0).setX 2 (BitVec.ofNat 64 (b2n (Config.ecdsaOk (b.aux.take 97) b.inp (b.aux.drop 97)))))

def State.svcEcdh (s : State) : State :=
  s.keyService 3 (fun t b k =>
    if b.aux.length ≠ 97 then t.blockEnd b 0 1
    else (t.blockEnd b 0 0).ephNew { derived := false, bytes := (List.range 48).map (Config.ecdhByte k b.aux) })

def State.svcHkdf (s : State) : State :=
  s.keyService 4 (fun t b k => (t.blockEnd b 0 0).ephNew { derived := true, bytes := hkdf k b.inp b.aux 32 })

def State.svcRandom (s : State) : State := s.withBlock (fun b => let r := s.drbg b.cap; r.2.blockOut b r.1)

def State.svcCtrRead (s : State) : State :=
  let i := (s.xr 1).toNat
  if 32 ≤ i then s.ret 1 else (s.setX 2 (BitVec.ofNat 64 (s.ctr i))).ret 0

/-- CTR_INC (R559, R560). The status after a failure to program is not stated: a free value. -/
def State.svcCtrInc (s : State) (programOk : Bool) : State :=
  let i := (s.xr 1).toNat
  let own := (decide (16 ≤ i) && decide (i < 24) && s.tenancy == .owner) || (decide (24 ≤ i) && s.tenancy == .contractor)
  if 32 ≤ i then s.ret 1
  else if !own then s.ret 3
  else if s.ctr i = 0xffffffff then s.ret 7
  else if !programOk then let d := (s.lost 0x32 63).draw; d.2.setX 1 d.1
  else let s1 := s.ctrStep i; (s1.setX 2 (BitVec.ofNat 64 (s1.ctr i))).ret 0

/-- JOB_KEY (R525, R557). -/
def State.svcJobKey (s : State) : State :=
  let job := (s.xr 1).toNat
  if !jobNumberOk job then s.ret 1
  else if !(imgJobs s.caller).contains job then s.ret 3
  else
    let r := s.keyFor (s.xr 2) 5
    match r.1 with
    | .inl st => r.2.ret st
    | .inr k =>
      let p := jobPlace job
      let s1 := r.2.keyJob p.1 p.2 (jobKeyOf k p.1 p.2 (r.2.ctr 7))
      let gone := s1.someUnkeyed
      let s2 : State := { s1 with mod := { s1.mod with keysAbsent := gone } }
      (if gone then s2 else s2.doorsUnpark).ret 0

/-- ATT_FULL and ATT_CERT (R603 to R606). A report that OUT cannot hold is not issued. -/
def State.svcAttFull (s : State) : State :=
  s.withBlock (fun b =>
    if b.aux.length < 32 || 64 < b.aux.length then s.blockEnd b 0 1
    else if !s.reportsFull then s.blockEnd b 0 3
    else
      let r := s.issueFull b.aux
      if b.cap < r.1.length then s.blockEnd b r.1.length 7 else r.2.blockOut b r.1)
def State.svcAttCert (s : State) : State :=
  s.withBlock (fun b =>
    if b.inp.length < 8 || 64 < b.inp.length then s.blockEnd b 0 1
    else
      let r := s.issueCert b.inp
      if b.cap < r.1.length then s.blockEnd b r.1.length 7 else r.2.blockOut b r.1)

def State.svcLogEvent (s : State) : State :=
  (((s.p (F.LVA_LOG_CODE s.aslot) (s.xr 1).toNat).bump (F.LVA_LOG_COUNT s.aslot)).evt 0x36 2).ret 0

/-- MOD_REQ (R525, R528): the request, and the evaluation that decides or defers it. -/
def State.svcModReq (s : State) : State :=
  let i := (s.xr 1).toNat
  if 10 < i then s.ret 1
  else if !(imgGrantMod s.caller).testBit i then s.ret 3
  else
    let s1 := (s.writeReq i ((s.xr 2).toNat % 256) ((s.xr 3).toNat % 256) 4).evaluate
    (s1.setX 2 (s1.word (F.MOD_REQ_VALUE i).key)).ret (if s1.g (F.MOD_REQ_STATE i) = 2 then 0 else 6)

/-- PAGE_WRITE (R529): only a register that PAGEW names. -/
def State.svcPageWrite (s : State) : State :=
  match pageOf 0x36 (s.xr 1).toNat with
  | none => s.ret 3
  | some p =>
    if p.2 % 8 = 0 && (imgPagew s.caller).any (fun w => w != 0 && w == p.1 + 256 * (p.2 / 8)) then
      (s.pageStore .keeper p.1 p.2 (s.xr 2)).ret 0
    else s.ret 3

def State.svcTime (s : State) : State :=
  ((s.setX 2 (s.word F.TSY_COUNT_COUNT.key)).setX 3 (s.word F.CLK_UPTIME_US.key)).ret 0

/-- A service that returns, by its number. -/
def State.service (s : State) (code : Nat) (env : CoreEnv) : State :=
  if !serviceKnown code then s.ret 1
  else if !s.granted code then s.ret 3
  else match code with
    | 0x001 => s.svcSend
    | 0x010 => s.svcKeyOpen
    | 0x011 => s.svcKeyClose
    | 0x020 => s.svcSeal
    | 0x021 => s.svcOpen env.tagOk
    | 0x022 => s.svcCmac
    | 0x023 => s.svcSha
    | 0x024 => s.svcSign
    | 0x025 => s.svcVerify
    | 0x026 => s.svcEcdh
    | 0x027 => s.svcHkdf
    | 0x028 => s.svcRandom
    | 0x030 => s.svcCtrRead
    | 0x031 => s.svcCtrInc env.programOk
    | 0x040 => s.svcJobKey
    | 0x050 => s.svcAttFull
    | 0x051 => s.svcAttCert
    | 0x060 => s.svcLogEvent
    | 0x070 => s.svcModReq
    | 0x071 => s.svcPageWrite
    | 0x080 => s.svcTime
    | _ => s.ret 1

/-- TRET's effect (R513). -/
def State.trapReturn (s : State) : State :=
  let pc := BitVec.ofNat 64 (s.g F.KPX_TRAPPC_PC)
  let s1 := (s.p F.KPX_STATUS_PRIV (s.g F.KPX_STATUS_RETPRIV)).p F.KPX_STATUS_INTRAP 0
  { s1 with core := { s1.core with pc := pc, passed := false, held := false } }

/-- KCALL (R513, R518, R523): at Applet privilege Keeper performs the service and returns to the applet; EXIT does not return. -/
def State.kcall (s : State) (code : Nat) (word : BitVec 32) (env : CoreEnv) : State :=
  let lockup := s.b F.KPX_STATUS_INTRAP
  let s1 := s.exception 8 (s.core.pc + 4) 0 word
  if lockup then s1
  else
    let s2 := s1.wrapInc F.KPX_INSTRET_COUNT
    if !s.atApplet then s2
    else if code = 0 then s2.entryExit ((s.xr 1).toNat % 65536)
    else
      -- a service whose effect resets the core has nothing to return to
      let s3 := s2.service code env
      if s3.b F.KPX_STATUS_INTRAP then s3.trapReturn else s3

/-! ## Frames for applets (R642) -/

/-- Frames accepted on a job of a resident applet reach it as Message entries. -/
def State.deliverMail (s : State) : State :=
  let l := s.lva.mail
  l.foldl (fun (x : State) m =>
    (List.range 8).foldl (fun (y : State) slot =>
      if y.resident slot && (imgJobs ((y.appletImage slot).getD [])).contains m.1 then
        y.invoke { slot := slot, kind := 1, channel := 0x1000 + m.1, tag := 0, data := m.2 }
      else y) x) { s with lva := { s.lva with mail := [] } }

/-- CAN_FRAME_RECEIVE (R426, R445, R642). -/
def effCanFrameReceive (n : Nat) (r : Received) (s : State) : State :=
  let m := s.g (F.CB_STAT_MODE n)
  if s.canLive && m != 3 && m != 5 then ((s.receive n r).deliverMail) else s

end Sys2Proof.Machine
end

