-- ==== Sys2Proof/Machine/ExecBus.lean ====
section
/-!
DEFINITION. Sys2Proof/Machine/ExecBus.lean: what each command does: the CAN controllers, reference time and lift groups. Every command has an effect in every state, if only none.
-/
namespace Sys2Proof.Machine
open Sys2Proof

/-- CAN_FRAME_RECEIVE (R426). -/
def execCanFrameReceive (bus : Fin 2) (received : Received) (s : State) : Host.Outcome State Fault Refusal :=
  .next (effCanFrameReceive bus.val received s).settle

/-- RXPOP (R428). -/
def execRxpop (acc : Accessor) (bus : Fin 2) (s : State) : Host.Outcome State Fault Refusal :=
  .next (effRxpop acc bus.val s).settle

/-- TXGO_BUFFER (R429). -/
def execTxgoBuffer (acc : Accessor) (bus : Fin 2) (dest : Fin 8) (s : State) : Host.Outcome State Fault Refusal :=
  .next (effTxgoBuffer acc bus.val dest.val s).settle

/-- TXGO_QUEUE (R429). -/
def execTxgoQueue (acc : Accessor) (bus : Fin 2) (s : State) : Host.Outcome State Fault Refusal :=
  .next (effTxgoQueue acc bus.val s).settle

/-- TXJOB (R447). -/
def execTxjob (acc : Accessor) (bus : Fin 2) (job : Fin 64) (s : State) : Host.Outcome State Fault Refusal :=
  .next (effTxjob acc bus.val job.val s).settle

/-- ABORT_HEAD (R454). -/
def execAbortHead (acc : Accessor) (bus : Fin 2) (s : State) : Host.Outcome State Fault Refusal :=
  .next (effAbortHead acc bus.val s).settle

/-- FLUSH (R454). -/
def execFlush (acc : Accessor) (bus : Fin 2) (s : State) : Host.Outcome State Fault Refusal :=
  .next (effFlush acc bus.val s).settle

/-- BUFABORT (R440). -/
def execBufabort (acc : Accessor) (bus : Fin 2) (buffers : Byte) (s : State) : Host.Outcome State Fault Refusal :=
  .next (effBufabort acc bus.val buffers s).settle

/-- CAN_TRANSMIT_ATTEMPT (R433). -/
def execCanTransmitAttempt (bus : Fin 2) (attempt : Attempt) (s : State) : Host.Outcome State Fault Refusal :=
  .next (effCanTransmitAttempt bus.val attempt s).settle

/-- BUS_OFF_RECOVERY (R437). -/
def execBusOffRecovery (bus : Fin 2) (s : State) : Host.Outcome State Fault Refusal :=
  .next (effBusOffRecovery bus.val s).settle

/-- KEEPER_RECOVERY_REQUEST (R438). -/
def execKeeperRecoveryRequest (bus : Fin 2) (s : State) : Host.Outcome State Fault Refusal :=
  .next (effKeeperRecoveryRequest bus.val s).settle

/-- RATE_SEARCH_DWELL (R439). -/
def execRateSearchDwell (bus : Fin 2) (s : State) : Host.Outcome State Fault Refusal :=
  .next (effRateSearchDwell bus.val s).settle

/-- BIT_TIMING_WRITE (R423). -/
def execBitTimingWrite (acc : Accessor) (bus : Fin 2) (data : Bool) (value : Word) (s : State) : Host.Outcome State Fault Refusal :=
  .next (effBitTimingWrite acc bus.val data value s).settle

/-- JOB_HEARTBEAT (R448). -/
def execJobHeartbeat (bus : Fin 2) (job : Fin 64) (s : State) : Host.Outcome State Fault Refusal :=
  .next (effJobHeartbeat bus.val job.val s).settle

/-- JOB_SUPERVISION_TIMEOUT (R448). -/
def execJobSupervisionTimeout (bus : Fin 2) (job : Fin 64) (s : State) : Host.Outcome State Fault Refusal :=
  .next (effJobSupervisionTimeout bus.val job.val s).settle

/-- CYCLE_BOUNDARY (R457). -/
def execCycleBoundary (s : State) : Host.Outcome State Fault Refusal :=
  .next (effCycleBoundary s).settle

/-- REFERENCE_LATE_DROP (R463). -/
def execReferenceLateDrop (bus : Fin 2) (s : State) : Host.Outcome State Fault Refusal :=
  .next (effReferenceLateDrop bus.val s).settle

/-- REFERENCE_RECEIVE (R464). -/
def execReferenceReceive (lengthOk macOk : Bool) (payload : List Byte) (fresh : Nat) (offset : Int) (s : State) : Host.Outcome State Fault Refusal :=
  .next (effReferenceReceive lengthOk macOk payload fresh offset s).settle

/-- REFERENCE_MISS (R473). -/
def execReferenceMiss (s : State) : Host.Outcome State Fault Refusal :=
  .next (effReferenceMiss s).settle

/-- WAKE_SEARCH_END (R476). -/
def execWakeSearchEnd (s : State) : Host.Outcome State Fault Refusal :=
  .next (effWakeSearchEnd s).settle

/-- FIXTURE_STATUS_FRAME (R478). -/
def execFixtureStatusFrame (bus : Fin 2) (job : Fin 64) (payload : List Byte) (s : State) : Host.Outcome State Fault Refusal :=
  .next (effFixtureStatusFrame bus.val job.val payload s).settle

/-- DIGEST_EXCHANGE (R484). -/
def execDigestExchange (s : State) : Host.Outcome State Fault Refusal :=
  .next (effDigestExchange s).settle

/-- DIGEST_RECEIVE (R483). -/
def execDigestReceive (station : Fin 8) (macOk : Bool) (fresh : Nat) (payload : List Byte) (s : State) : Host.Outcome State Fault Refusal :=
  .next (effDigestReceive station.val macOk fresh payload s).settle

/-- STATION_ABSENT (R483). -/
def execStationAbsent (station : Fin 8) (s : State) : Host.Outcome State Fault Refusal :=
  .next (effStationAbsent station.val s).settle

/-- BID_FRAME (R487). -/
def execBidFrame (station : Fin 8) (macOk : Bool) (fresh : Nat) (payload : List Byte) (s : State) : Host.Outcome State Fault Refusal :=
  .next (effBidFrame station.val macOk fresh payload s).settle

/-- ASSIGNMENT_FRAME (R489). -/
def execAssignmentFrame (station : Fin 8) (macOk : Bool) (fresh : Nat) (payload : List Byte) (s : State) : Host.Outcome State Fault Refusal :=
  .next (effAssignmentFrame station.val macOk fresh payload s).settle

end Sys2Proof.Machine
end

