-- ==== Sys2Proof/Machine/Larva.lean ====
section
/-!
DEFINITION. Sys2Proof/Machine/Larva.lean: the Larva instructions (R508 to R513), one instruction of the Karpex core, and the core's own
events (R507, R513, R516, R673).
-/
namespace Sys2Proof.Machine
open Sys2Proof

/-! ## Results (R508, R509) -/

/-- The least 64-bit integer. -/
def minWord : Word := BitVec.ofNat 64 (2 ^ 63)

/-- The number of leading zero bits, and of one bits. -/
def leadingZeros (a : Word) : Nat := if a = 0 then 64 else 63 - Nat.log2 a.toNat
def oneBits (a : Word) : Nat := (bitsBelow 64 a.toNat).length

/-- The result of an A-format instruction; `old` is rd before it. None raises DIVZERO. -/
def aluA (fn : Nat) (a b old : Word) : Option Word :=
  let sh := b.toNat % 64
  match fn with
  | 0x00 => some (a + b)
  | 0x01 => some (a - b)
  | 0x02 => some (a &&& b)
  | 0x03 => some (a ||| b)
  | 0x04 => some (a ^^^ b)
  | 0x05 => some (a <<< sh)
  | 0x06 => some (a >>> sh)
  | 0x07 => some (a.sshiftRight sh)
  | 0x08 => some (if a.slt b then 1 else 0)
  | 0x09 => some (if a.ult b then 1 else 0)
  | 0x0a => some (a * b)
  | 0x0b => some (BitVec.ofNat 64 (a.toNat * b.toNat / 2 ^ 64))
  | 0x0c => some (BitVec.ofInt 64 ((a.toInt * b.toInt) / 2 ^ 64))
  | 0x0d => if b = 0 then none else some (a / b)
  | 0x0e => if b = 0 then none else some (a % b)
  | 0x0f => if b = 0 then none else if a = minWord && b = BitVec.allOnes 64 then some (minWord - 1) else some (a.sdiv b)
  | 0x10 => if b = 0 then none else if a = minWord && b = BitVec.allOnes 64 then some 0 else some (a.srem b)
  | 0x11 => some (if b = 0 then old else a)
  | 0x12 => some (a.rotateRight sh)
  | 0x13 => some (BitVec.ofNat 64 (leadingZeros a))
  | 0x14 => some (BitVec.ofNat 64 (oneBits a))
  | _ => some old

/-- The result of an I-format instruction that writes rd and goes on with the next. -/
def aluI (op : Nat) (a pc : Word) (imm : BitVec 18) : Word :=
  let s := imm.signExtend 64
  let z := imm.zeroExtend 64
  let sh := imm.toNat % 64
  match op with
  | 0x01 => a + s
  | 0x02 => a &&& z
  | 0x03 => a ||| z
  | 0x04 => a ^^^ z
  | 0x05 => a <<< sh
  | 0x06 => a >>> sh
  | 0x07 => a.sshiftRight sh
  | 0x08 => if a.slt s then 1 else 0
  | 0x09 => if a.ult s then 1 else 0
  | 0x0a => s <<< 18
  | _ => pc + 4 * s

/-- Whether a branch is taken (R512). -/
def branchTaken (op : Nat) (a b : Word) : Bool :=
  match op with
  | 0x20 => a == b
  | 0x21 => a != b
  | 0x22 => a.slt b
  | 0x23 => !a.slt b
  | 0x24 => a.ult b
  | _ => !a.ult b

/-! ## Loads and stores (R510) -/

/-- The access size of an M-format instruction, and whether a load extends the sign. -/
def accessSize (op : Nat) : Nat :=
  match op with | 0x10 => 8 | 0x11 => 4 | 0x12 => 4 | 0x13 => 2 | 0x14 => 2 | 0x15 => 1 | 0x16 => 1 | 0x18 => 8 | 0x19 => 4 | 0x1a => 2 | _ => 1
def signedLoad (op : Nat) : Bool := op == 0x11 || op == 0x13 || op == 0x15

/-- What a load puts into rt. -/
def loadValue (op v : Nat) : Word :=
  if signedLoad op then BitVec.ofInt 64 (sgn (8 * accessSize op) v) else BitVec.ofNat 64 v

def State.runM (s : State) (op : Nat) (rt rs1 : Fin 16) (off : BitVec 18) (word : BitVec 32) (env : CoreEnv) : State :=
  let addr := s.xr rs1 + off.signExtend 64
  let a := addr.toNat
  let n := accessSize op
  if op < 0x18 then
    if a % n ≠ 0 then s.coreFault 5 addr word
    else
      let r := s.coreLoad a n env.ecc
      match r.1 with
      | .value v => (r.2.setX rt (loadValue op v)).coreNext
      | .fault => s.coreFault 3 addr word
      | .nvmData => s.coreFault 10 addr word
      | .wait => s
  else if a % n ≠ 0 then s.coreFault 6 addr word
  else if !s.storeAllowed a then s.coreFault 4 addr word
  else s.coreNext.coreStore s.atApplet a n ((s.xr rt).toNat % 2 ^ (8 * n)) env.ecc

/-! ## The other formats -/

def State.runA (s : State) (fn : Nat) (rd rs1 rs2 : Fin 16) (word : BitVec 32) : State :=
  match aluA fn (s.xr rs1) (s.xr rs2) (s.xr rd) with
  | some v => (s.setX rd v).coreNext
  | none => s.coreFault 11 0 word

def State.runI (s : State) (op : Nat) (rd rs1 : Fin 16) (imm : BitVec 18) (word : BitVec 32) : State :=
  let pc := s.core.pc
  if op = 0x0c then (s.setX rd (pc + 4)).coreTo (pc + 4 * imm.signExtend 64)
  else if op = 0x0d then
    let t := s.xr rs1 + 4 * imm.signExtend 64
    if t &&& 3 = 0 then (s.setX rd (pc + 4)).coreTo t else s.coreFault 2 t word
  else (s.setX rd (aluI op (s.xr rs1) pc imm)).coreNext

def State.runB (s : State) (op : Nat) (rs1 rs2 : Fin 16) (off : BitVec 18) : State :=
  if branchTaken op (s.xr rs1) (s.xr rs2) then s.coreTo (s.core.pc + 4 * off.signExtend 64) else s.coreNext

/-- DSTOP (R513, R518, R673): at Applet privilege it halts the core where HALT would be accepted, waits where it would be deferred,
and else is a fault. -/
def State.runDstop (s : State) (word : BitVec 32) : State :=
  if s.atApplet then match s.stopHere with | some t => t | none => s.coreFault 9 0 word
  else s.exception 9 s.core.pc 0 word

def State.runS (s : State) (sub : Nat) (code : BitVec 12) (word : BitVec 32) (env : CoreEnv) : State :=
  match sub with
  | 0 => s.kcall code.toNat word env
  | 1 => s.runDstop word
  | 2 => if s.atApplet then s.coreFault 7 0 word else (s.wrapInc F.KPX_INSTRET_COUNT).trapReturn
  | _ =>
    if s.atApplet then s.coreFault 7 0 word
    else if s.requestLine false then s.coreNext
    else { s with core := { s.core with idle := true } }

/-- An instruction runs. -/
def State.runOp (s : State) (op : LarvaOp) (env : CoreEnv) : State :=
  match op with
  | .a fn rd rs1 rs2 => s.runA fn rd rs1 rs2 op.word
  | .i o rd rs1 imm => s.runI o rd rs1 imm op.word
  | .m o rt rs1 off => s.runM o rt rs1 off op.word env
  | .b o rs1 rs2 off => s.runB o rs1 rs2 off
  | .s sub code => s.runS sub code op.word env

/-! ## One instruction of the core -/

/-- A fetch that does not deliver an instruction (R514, R537). -/
def State.fetchFails (s : State) (r : CoreRead) : State :=
  match r with
  | .fault => s.coreFault 2 s.core.pc 0
  | .nvmData => s.coreFault 10 s.core.pc 0
  | _ => s

/-- The next instruction of a core that runs: an interrupt that is due comes first (R516), then a breakpoint (R673), then the fetch;
`run` is what the instruction delivered by the fetch does. -/
def State.coreCycle (s : State) (run : State → State) : State :=
  if s.interruptDue then s.takeInterrupt
  else match (if s.bpHit && !s.core.passed then s.stopHere else none) with
    | some t => t
    | none => match s.fetch .ok with
      | .value _ => run s
      | r => s.fetchFails r

/-- A row of the Larva set: the core runs the instruction that its fetch delivers. -/
def State.coreRow (s : State) (op : LarvaOp) (env : CoreEnv) : State :=
  if s.coreReady then s.coreCycle (fun t => t.runOp op env) else s

/-- INTERRUPT (R516). -/
def effInterrupt (s : State) : State := if s.coreReady && s.interruptDue then s.takeInterrupt else s

/-- ILLEGAL (R507): a word that no encoding lists. -/
def effIllegal (word : BitVec 32) (s : State) : State :=
  if s.coreReady && (decodeLarva word).isNone then (s.coreCycle (fun t => t.coreFault 1 0 word)) else s

/-- IDLE_RESUME (R513): the T0 request line is asserted while the core waits in IDLE. -/
def effIdleResume (s : State) : State :=
  if s.core.idle && s.requestLine false && s.canLive && s.power != .halt && !s.b F.KPX_STAT_HALTED then
    ({ s with core := { s.core with idle := false } } : State).coreNext
  else s

/-- BREAKPOINT_MATCH (R673): a DP_BP match at the instruction at pc. -/
def effBreakpointMatch (s : State) : State :=
  if s.coreReady && s.bpHit then
    match s.stopHere with
    | some t => t
    | none => { s with core := { s.core with passed := true } }
  else s

/-! ## A step of the debug port (R672) -/

/-- One Applet-privilege instruction that the applet's code slot holds, without an interrupt. -/
def State.stepOne (s : State) (ecc : Ecc) : State :=
  match s.fetch ecc with
  | .value w =>
    let d := s.draw
    (match decodeLarva (BitVec.ofNat 32 w) with
     | some op => d.2.runOp op { ecc := ecc, tagOk := d.1.getLsbD 0, programOk := d.1.getLsbD 1 }
     | none => s.coreFault 1 0 (BitVec.ofNat 32 w))
  | r => s.fetchFails r

end Sys2Proof.Machine
end

