-- ==== Sys2Proof/Machine/Commands.lean ====
section
/-!
DEFINITION. Sys2Proof/Machine/Commands.lean: the commands of the host channel and of the management channels (R635 to R642, R649 to
R652): who may send which, their bodies, what each does and answers.
-/
namespace Sys2Proof.Machine
open Sys2Proof

/-! ## How a command is served -/

/-- What Keeper answers: a response now, or one that the end of the operation sends (R640). -/
inductive Reply where
  | now (status detail : Nat) (body : List Byte)
  | later
  deriving DecidableEq, Repr

/-- STATUS 1 and STATUS 2 (R638). -/
def Reply.arg : Reply := .now 1 0 []
def Reply.denied : Reply := .now 2 0 []

/-- STATUS 0, or STATUS 3 with the operation's own cause. -/
def Reply.ofCause : Option Nat → Reply
  | none => .now 0 0 []
  | some c => .now 3 c []

/-- The answer reaches its channel. -/
def State.reply (s : State) (ch tag num : Nat) : Reply → State
  | .now st d b => s.respond ch tag num st d b
  | .later => s

/-- A command of a channel is still being worked on. -/
def Waiting.isFor (ch tag : Nat) : Waiting → Bool
  | .table c t => c == ch && t == tag
  | .package c t => c == ch && t == tag
  | .molt c t => c == ch && t == tag
  | .modReq c t _ => c == ch && t == tag

/-- Keeper starts a command (R636, R638): one that its channel may not send is denied. -/
def State.start (s : State) (num : Nat) (c : Cmd) (may : Bool) (act : State → Reply × State) : State :=
  if may then let r := act s; r.2.reply c.channel.toNat c.tag.toNat num r.1
  else s.respond c.channel.toNat c.tag.toNat num 2 0 []

/-- A command on the host channel is the oldest that waits there; one on a management channel arrives in a record of its session, and a
repeated TAG is not run again (R640, R650). `ready` says that no armed sequence or running load holds the command back. -/
def State.serve (s : State) (num : Nat) (c : Cmd) (host mgt ready : Bool) (act : State → Reply × State) : State :=
  let ch := c.channel.toNat
  let tag := c.tag.toNat
  if !s.keeperServes || !ready then s
  else if ch = hostChannel then
    (match s.host.inbox with
     | [] => s
     | q :: rest =>
       if q = (num, c) then (({ s with host := { s.host with inbox := rest } } : State).start num c host act) else s)
  else if isMgt ch && s.sessionUp (ch - 0x10) then
    let s1 := s.p (F.MGT_SESS_IDLE (ch - 0x10)) 0
    let last := (s.mgtOf (ch - 0x10)).last
    if (match last with | some m => m.tag == tag | none => false) || s.host.waiting.any (Waiting.isFor ch tag) then s1
    else if 1200 < c.body.length + 16 then s1.respond ch tag num 1 0 []
    else s1.start num c mgt act
  else s

/-- The accessor that a channel's register accesses are made as (R639). -/
def cmdAccessor (c : Cmd) : Accessor := if isMgt c.channel.toNat then .mgmt else .hostCmd

/-- The body of an image command: on a management channel an empty body stands for the bytes of the staging area, which is then written
with zeros; an area without bytes gives none (R636, R652). -/
def State.takeBody (s : State) (c : Cmd) : Option (List Byte) × State :=
  let ch := c.channel.toNat
  if c.body.isEmpty then
    if isMgt ch then
      let m := s.mgtOf (ch - 0x10)
      (if m.staging.isEmpty then none else some m.staging, s.setMgt (ch - 0x10) { m with staging := [] })
    else (none, s)
  else (some c.body, s)

/-- Keeper has run a locked sequence of a page for a command: LOCK shows it done, and the address register holds the place where Keeper
staged the image, which the manual does not give (a free value). -/
def State.keeperRan (s : State) (page n : Nat) (address : Option Fld) : State :=
  let s1 := (((((s.p (lockSeq page) n).p (lockOwner page) 2).p (lockDone page) 1).p (lockAbandoned page) 0).p (lockRemain page) 0)
  match address with
  | none => s1
  | some f => let d := s1.draw; d.2.p f (d.1.toNat / 8 % 2 ^ 25 * 8)

/-- No sequence is armed on a page. -/
def State.unarmed (s : State) (page : Nat) : Bool := !s.b (lockArmed page)

/-! ## STATUS, reports, requests -/

def effStatus (c : Cmd) (s : State) : State :=
  s.serve 0x01 c true true true (fun x => if c.body.isEmpty then (.now 0 0 x.statusBlock, x) else (.arg, x))

def effAttestFull (c : Cmd) (s : State) : State :=
  s.serve 0x02 c true true true (fun x =>
    if c.body.length < 32 || 64 < c.body.length then (.arg, x)
    else if !x.reportsFull then (.denied, x)
    else let r := x.issueFull c.body; (.now 0 0 r.1, r.2))

def effAttestCert (c : Cmd) (s : State) : State :=
  s.serve 0x03 c false true true (fun x =>
    if c.body.length < 8 || 64 < c.body.length then (.arg, x)
    else let r := x.issueCert c.body; (.now 0 0 r.1, r.2))

/-- MOLT_REPORT (R608): the report that is kept. What is answered where none is kept the manual does not say: the status is free. -/
def effMoltReport (c : Cmd) (s : State) : State :=
  s.serve 0x04 c true true true (fun x =>
    if !c.body.isEmpty then (.arg, x)
    else if !x.reportsFull then (.denied, x)
    else if x.ten.moltReport.isEmpty then let d := x.draw; (.now (d.1.toNat % 7) 0 [], d.2)
    else (.now 0 0 x.ten.moltReport, x))

/-- MOD_REQUEST: answered after the evaluation that decides or defers the request; one on an axis that takes none is withheld, and
MOD_REQn is answered at once (R92, R639). -/
def effModRequest (c : Cmd) (s : State) : State :=
  s.serve 0x10 c true true true (fun x =>
    let i := leAt c.body 0 1
    if c.body.length ≠ 3 || 10 < i then (.arg, x)
    else
      let y := x.writeReq i (leAt c.body 1 1) (leAt c.body 2 1) (whoOf (cmdAccessor c))
      if i = 1 || i = 2 || i = 8 || i = 9 then (.now 0 0 (wordBytes (y.word (F.MOD_REQ_VALUE i).key)), y)
      else (.later, { y with host := { y.host with waiting := y.host.waiting ++ [.modReq c.channel.toNat c.tag.toNat i] } }))

/-! ## Registers (R639) -/

/-- The page and offset of an address that a command gives. -/
def regAddress (a : Nat) : Option (Nat × Nat) := if a % 8 = 0 then pageOf 0x3f a else none

/-- A register access on the host channel that names DSE model memory: it is no part of what a host reaches, and the violation rule
governs it (R43, R142, R639; the page that counts it is PKG, log entry 132). -/
def hostModel (c : Cmd) : Bool :=
  let a := leAt c.body 0 8
  cmdAccessor c != .mgmt && a % 8 == 0 && decide (0x800000 ≤ a) && decide (a < 0x880000)

def effRegRead (c : Cmd) (s : State) : State :=
  s.serve 0x11 c true true true (fun x =>
    if c.body.length = 8 && hostModel c then (.now 0 0 (leBytes 8 0), x.violation 0x1c) else
    match regAddress (leAt c.body 0 8) with
    | none => (.arg, x)
    | some p =>
      if c.body.length ≠ 8 then (.arg, x)
      else if (cmdAccessor c) = .mgmt && !(p.1 ≤ 0x2b || (0x31 ≤ p.1 && p.1 ≤ 0x36)) then (.denied, x)
      else let r := x.readAs (cmdAccessor c) p.1 p.2; (.now 0 0 (wordBytes r.1), r.2))

/-- A write that management may not make (R639): to a Karpex-owned page, or under SYS_PAM4 or SYS_PAM7. A LOCK write has the column of the
sequence that it names, a locked register that of the sequence that is armed. -/
def State.mgtBarred (s : State) (page off v : Nat) : Bool :=
  let o := s.absOff .mgmt page off
  let barred := fun (q : Nat × Nat × List Nat) => q.2.1 == 4 || q.2.1 == 7
  if 0x2b < page then true
  else if o = 0x40 then ((seqOf page (v % 256)).map barred).getD false
  else if lockedReg page o then
    ((sequences page).filter (fun q => q.2.2.contains o)).all barred || ((s.armed page).map barred).getD false
  else match rowAt page o with
    | some r => writeCol page o == 4 || writeCol page o == 7 || (r.wcol == 8 && r.km != 0)
    | none => false

/-- The value that a management write carries: a field that only Keeper writes keeps what it holds (R134). -/
def State.mgtValue (s : State) (page off : Nat) (v : Nat) : Nat :=
  let o := s.absOff .mgmt page off
  match rowAt page o with
  | some r => (underMask (BitVec.ofNat 64 v) (s.word (regKey page o)) r.km).toNat
  | none => v

def effRegWrite (c : Cmd) (s : State) : State :=
  s.serve 0x12 c true true true (fun x =>
    let v := leAt c.body 8 8
    if c.body.length = 16 && hostModel c then (.now 0 0 [], x.violation 0x1c) else
    match regAddress (leAt c.body 0 8) with
    | none => (.arg, x)
    | some p =>
      if c.body.length ≠ 16 then (.arg, x)
      else if (cmdAccessor c) = .mgmt then
        if x.mgtBarred p.1 p.2 v then (.denied, x)
        else (.now 0 0 [], x.pageStore .mgmt p.1 p.2 (BitVec.ofNat 64 (x.mgtValue p.1 p.2 v)))
      else (.now 0 0 [], x.pageStore .hostCmd p.1 p.2 (BitVec.ofNat 64 v)))

/-! ## Applets (R641) -/

/-- A slot number, then seven zero bytes, then data. -/
def slotBody (b : List Byte) : Option (Nat × List Byte) :=
  if 8 ≤ b.length && leAt b 0 1 < 8 && zeroAt b 1 7 then some (leAt b 0 1, b.drop 8) else none

/-- APPLET_MSG: a Message entry with x2 the channel number; `invoke` answers a refusal, EXIT the rest. -/
def effAppletMsg (c : Cmd) (s : State) : State :=
  s.serve 0x20 c true true true (fun x =>
    match slotBody c.body with
    | none => (.arg, x)
    | some (slot, data) =>
      let cap := (x.appletImage slot).map imgInCap
      if (match cap with | some n => decide (n < data.length) | none => false) then (.arg, x)
      else (.later, x.invoke { slot := slot, kind := 1, channel := c.channel.toNat, tag := c.tag.toNat, data := data }))

def effAppletLoad (c : Cmd) (ck : LoadCheck) (s : State) : State :=
  s.serve 0x21 c true true (s.unarmed 0x36) (fun x =>
    let b := x.takeBody c
    match b.1.bind slotBody with
    | none => (.arg, b.2)
    | some (slot, img) =>
      let y := (b.2.keeperRan 0x36 1 (some F.LVA_LOADADDR_ADDR)).appletLoad slot img ck
      (.ofCause (if y.g F.LVA_LOADSTAT_STATE = 4 then some (y.g F.LVA_LOADSTAT_CAUSE) else none), y))

/-- APPLET_STOP: the slot's running entry ends, and the slot is faulted with cause 0x1F and takes nothing more (R519). -/
def State.appletStop (s : State) (slot : Nat) : State :=
  if (match s.lva.running with | some v => v.slot == slot | none => false) then s.entryFaulted 0x1f (s.core.pc.toNat % 2 ^ 16)
  else
    let s1 := ((((s.p (F.LVA_SLOT_STATE slot) 4).p (F.LVA_STAT_FAULTED.bit slot) 1).p (F.LVA_FAULT_CAUSE slot) 0x1f).bump
      (F.LVA_FAULT_COUNT slot)).evt 0x36 1
    s1.dropQueued (fun w => w.slot == slot)

def effAppletStop (c : Cmd) (s : State) : State :=
  s.serve 0x22 c false true true (fun x =>
    if c.body.length ≠ 1 || 8 ≤ leAt c.body 0 1 then (.arg, x) else (.now 0 0 [], x.appletStop (leAt c.body 0 1)))

/-- APPLET_RESV: LVA_RESV, under Owner tenancy only. -/
def effAppletResv (c : Cmd) (s : State) : State :=
  let owner := s.tenancy == .owner
  s.serve 0x44 c owner owner true (fun x =>
    if c.body.length ≠ 8 then (.arg, x) else (.now 0 0 [], x.pageStore .keeper 0x36 0x80 (BitVec.ofNat 64 (leAt c.body 0 8))))

/-! ## Tenancy -/

def effTenantConfig (c : Cmd) (signatureOk : Bool) (s : State) : State :=
  s.serve 0x30 c true true (s.unarmed 0x34) (fun x =>
    let b := x.takeBody c
    match b.1 with
    | none => (.arg, b.2)
    | some img =>
      if img.length ≠ 2272 then (.arg, b.2)
      else let r := (b.2.keeperRan 0x34 2 (some F.TEN_CFGADDR_ADDR)).configLoad img signatureOk; (.ofCause r.1, r.2))

/-- MOLT_ORDER: answered at Molt step 8 or at refusal. -/
def effMoltOrder (c : Cmd) (signatureOk : Bool) (s : State) : State :=
  s.serve 0x31 c true true (s.unarmed 0x34) (fun x =>
    if c.body.length ≠ 160 then (.arg, x)
    else
      let y := x.keeperRan 0x34 1 (some F.TEN_ORDERADDR_ADDR)
      if y.bat.molting then
        let z := y.orderPresent c.body signatureOk (whoOf (cmdAccessor c))
        (.now 3 (z.g F.TEN_STAT_CAUSE) [], z)
      else
        let w : State := { y with host := { y.host with waiting := y.host.waiting ++ [.molt c.channel.toNat c.tag.toNat] } }
        (.later, w.orderPresent c.body signatureOk (whoOf (cmdAccessor c))))

/-! ## Tables and packages -/

/-- TABLE: MODE 1 stores, MODE 2 stores and loads and is answered when the load ends; the sequence needs its column. -/
def effTable (c : Cmd) (ck : TableCheck) (s : State) : State :=
  s.serve 0x32 c true true (s.unarmed 0x14 && s.bar.load.isNone) (fun x =>
    let b := x.takeBody c
    match b.1 with
    | none => (.arg, b.2)
    | some l =>
      let mode := leAt l 0 1
      let img := l.drop 8
      if l.length ≠ 10344 || !zeroAt l 1 7 || (mode ≠ 1 && mode ≠ 2) then (.arg, b.2)
      else if !b.2.mayWrite .keeper (if mode = 2 then 4 else 7) 0x14 then (.denied, b.2)
      else
        let y := b.2.keeperRan 0x14 (mode + 1) (some F.ITE_LOADADDR_ADDR)
        let z := if mode = 1 then y.iteStore img ck else y.iteLoad img ck
        if z.bar.load.isSome then
          (.later, { z with host := { z.host with waiting := z.host.waiting ++ [.table c.channel.toNat c.tag.toNat] } })
        else (.ofCause (if z.g F.ITE_LOADSTAT_STATE = 6 then some (z.g F.ITE_LOADSTAT_CAUSE) else none), z))

def effPkgRelease (c : Cmd) (signatureOk tagOk : Bool) (s : State) : State :=
  s.serve 0x33 c true true true (fun x =>
    if c.body.length ≠ 352 then (.arg, x) else let r := x.pkgRelease c.body signatureOk tagOk; (.ofCause r.1, r.2))

/-- The lowest partition that grants both KW and PR and that an image of some length fits in. -/
def State.pkgPlace (s : State) (n : Nat) : Option Nat :=
  match (List.range 4).find? (fun i => s.b (F.EMC_PART_KW i) && s.b (F.EMC_PART_PR i)) with
  | none => none
  | some i =>
    let base := s.g (F.EMC_PART_BASE i) * 2 ^ 24
    if n ≤ s.g (F.EMC_PART_SIZE i) * 2 ^ 24 && base + n ≤ s.g F.EMC_SIZE_DATA_MIB * 2 ^ 20 then some (0x80000000 + base) else none

/-- PKG_IMAGE: the image is written and PKG sequence 1 runs on it; the end of the load is answered. -/
def effPkgImage (c : Cmd) (s : State) : State :=
  s.serve 0x34 c true true (s.unarmed 0x1c && !s.b F.PKG_STAT_LOADING) (fun x =>
    let b := x.takeBody c
    match b.1 with
    | none => (.arg, b.2)
    | some img =>
      if !b.2.mayWrite .keeper 7 0x1c then (.denied, b.2)
      else match b.2.pkgPlace img.length with
        | none => (.now 3 8 [], ((b.2.p F.PKG_STAT_CAUSE 8).evt 0x1c 1).lost 0x1c 63)
        | some a =>
          let y := (((b.2.extFill a img).keeperRan 0x1c 1 none).p F.PKG_SRC_ADDR a).p F.PKG_LEN_LEN img.length
          let z := y.pkgStart
          (.later, { z with host := { z.host with waiting := z.host.waiting ++ [.package c.channel.toNat c.tag.toNat] } }))

/-! ## Keys, tamper, log, reset -/

/-- KEY_COMMAND: CMD, SLOT and ARG as KEY_CMD holds them, then the blob of an IMPORT or the KEY_POLICY image of a GENERATE; DELETE is Keeper's
own (R572). -/
def effKeyCommand (c : Cmd) (ck : KeyCheck) (s : State) : State :=
  s.serve 0x40 c false true (s.unarmed 0x31) (fun x =>
    let cmd := leAt c.body 0 1
    let slot := leAt c.body 1 1
    let arg := leAt c.body 2 2
    let blob := c.body.drop 4
    let want := if cmd = 2 then 352 else if cmd = 1 then 8 else 0
    if c.body.length ≠ 4 + want || 15 < cmd then (.arg, x)
    else if cmd = 3 then (.denied, x)
    else
      let y := (x.keeperRan 0x31 1 (some F.KEY_SRC_ADDR)).setWord F.KEY_CMD_CMD.key (BitVec.ofNat 64 (leAt c.body 0 4))
      let z := if cmd = 1 then y.setWord F.KEY_POLICY_RAW.key (BitVec.ofNat 64 (leAt blob 0 8)) else y
      let w := if cmd = 2 then z.keyImportOf blob slot ck else z.keyCmd cmd slot arg ck
      (match w.keyCause with
       | some 5 => .now 6 5 []
       | r => .ofCause r, w))

/-- TAMPER: for each of TMP_LEVEL, TMP_CFG and TMP_CLR a flag byte, seven zero bytes and the image (the model's layout). -/
def effTamper (c : Cmd) (s : State) : State :=
  s.serve 0x41 c false true true (fun x =>
    if c.body.length ≠ 48 || (List.range 3).any (fun k => 1 < leAt c.body (16 * k) 1 || !zeroAt c.body (16 * k + 1) 7) then (.arg, x)
    else (.now 0 0 [], [0x80, 0xa8, 0xa0].zipIdx.foldl (fun (y : State) (p : Nat × Nat) =>
      if leAt c.body (16 * p.2) 1 = 1 then y.pageStore .mgmt 0x33 p.1 (BitVec.ofNat 64 (leAt c.body (16 * p.2 + 8) 8)) else y) x))

def effLastresortClear (c : Cmd) (s : State) : State :=
  s.serve 0x42 c false true true (fun x =>
    if c.body.isEmpty then
      (.now 0 0 [], ({ x with bat := { x.bat with lastResort := 0 } } : State))
    else (.arg, x))

/-- TROUBLE_CLEAR: a page number and TRCLR bits in two bytes, or the two LOG images in sixteen. -/
def effTroubleClear (c : Cmd) (s : State) : State :=
  s.serve 0x43 c false true true (fun x =>
    if c.body.length = 2 then
      let page := leAt c.body 0 1
      let bits := leAt c.body 1 1
      if pageAssigned page && bits < 16 then (.now 0 0 [], x.pageStore .mgmt page 0x38 (BitVec.ofNat 64 bits)) else (.arg, x)
    else if c.body.length = 16 then
      (.now 0 0 [], (x.pageStore .mgmt 4 0x80 (BitVec.ofNat 64 (leAt c.body 0 8))).pageStore .mgmt 4 0x88
        (BitVec.ofNat 64 (leAt c.body 8 8)))
    else (.arg, x))

/-- RESET: RST sequence 2; the response goes out before a reset that ends the session. -/
def effReset (c : Cmd) (s : State) : State :=
  s.serve 0x45 c false true (s.unarmed 3) (fun x =>
    let cmd := leAt c.body 0 1
    if c.body.length ≠ 1 || (cmd ≠ 3 && cmd ≠ 5) then (.arg, x)
    else (.later, ((x.respond c.channel.toNat c.tag.toNat 0x45 0 0 []).keeperRan 3 2 none).rstCmd 2 cmd .mgmt))

/-- MGT_CONFIG (R649): the five register images and the memory declaration of R590 (log entry 25) are stored and take effect. -/
def effMgtConfig (c : Cmd) (s : State) : State :=
  s.serve 0x46 c false true true (fun x =>
    if c.body.length ≠ 41 then (.arg, x)
    else
      let y := ({ x with nvm := { x.nvm with mgtConfig := c.body } } : State).mgtRestore
      (.now 0 0 [], y.pb F.EMC_CFG_LP4X y.declared4x))

/-- UPLOAD (R652): bytes are placed in the session's staging area. -/
def effUpload (c : Cmd) (s : State) : State :=
  s.serve 0xf0 c false true true (fun x =>
    let off := leAt c.body 0 4
    let data := c.body.drop 4
    if c.body.length < 4 || 266240 < off + data.length then (.arg, x)
    else
      let m := x.mgtOf (c.channel.toNat - 0x10)
      (.now 0 0 [], x.setMgt (c.channel.toNat - 0x10) { m with staging := placeChunk m.staging off data }))

end Sys2Proof.Machine
end

