-- ==== Sys2Proof/Machine/ExecCommand.lean ====
section
/-!
DEFINITION. Sys2Proof/Machine/ExecCommand.lean: what each command does: the commands of the host and management channels. Every command has an effect in every state, if only none.
-/
namespace Sys2Proof.Machine
open Sys2Proof

/-- STATUS (R637). -/
def execStatus (cmd : Cmd) (s : State) : Host.Outcome State Fault Refusal :=
  .next (effStatus cmd s).settle

/-- ATTEST_FULL (R603). -/
def execAttestFull (cmd : Cmd) (s : State) : Host.Outcome State Fault Refusal :=
  .next (effAttestFull cmd s).settle

/-- ATTEST_CERT (R604). -/
def execAttestCert (cmd : Cmd) (s : State) : Host.Outcome State Fault Refusal :=
  .next (effAttestCert cmd s).settle

/-- MOLT_REPORT (R608). -/
def execMoltReport (cmd : Cmd) (s : State) : Host.Outcome State Fault Refusal :=
  .next (effMoltReport cmd s).settle

/-- MOD_REQUEST (R636). -/
def execModRequest (cmd : Cmd) (s : State) : Host.Outcome State Fault Refusal :=
  .next (effModRequest cmd s).settle

/-- REG_READ (R639). -/
def execRegRead (cmd : Cmd) (s : State) : Host.Outcome State Fault Refusal :=
  .next (effRegRead cmd s).settle

/-- REG_WRITE (R639). -/
def execRegWrite (cmd : Cmd) (s : State) : Host.Outcome State Fault Refusal :=
  .next (effRegWrite cmd s).settle

/-- APPLET_MSG (R641). -/
def execAppletMsg (cmd : Cmd) (s : State) : Host.Outcome State Fault Refusal :=
  .next (effAppletMsg cmd s).settle

/-- APPLET_LOAD (R636). -/
def execAppletLoad (cmd : Cmd) (check : LoadCheck) (s : State) : Host.Outcome State Fault Refusal :=
  .next (effAppletLoad cmd check s).settle

/-- APPLET_STOP (R641). -/
def execAppletStop (cmd : Cmd) (s : State) : Host.Outcome State Fault Refusal :=
  .next (effAppletStop cmd s).settle

/-- TENANT_CONFIG (R636). -/
def execTenantConfig (cmd : Cmd) (signatureOk : Bool) (s : State) : Host.Outcome State Fault Refusal :=
  .next (effTenantConfig cmd signatureOk s).settle

/-- MOLT_ORDER (R636). -/
def execMoltOrder (cmd : Cmd) (signatureOk : Bool) (s : State) : Host.Outcome State Fault Refusal :=
  .next (effMoltOrder cmd signatureOk s).settle

/-- TABLE (R636). -/
def execTable (cmd : Cmd) (check : TableCheck) (s : State) : Host.Outcome State Fault Refusal :=
  .next (effTable cmd check s).settle

/-- PKG_RELEASE (R610). -/
def execPkgRelease (cmd : Cmd) (signatureOk tagOk : Bool) (s : State) : Host.Outcome State Fault Refusal :=
  .next (effPkgRelease cmd signatureOk tagOk s).settle

/-- PKG_IMAGE (R636). -/
def execPkgImage (cmd : Cmd) (s : State) : Host.Outcome State Fault Refusal :=
  .next (effPkgImage cmd s).settle

/-- KEY_COMMAND (R636). -/
def execKeyCommand (cmd : Cmd) (check : KeyCheck) (s : State) : Host.Outcome State Fault Refusal :=
  .next (effKeyCommand cmd check s).settle

/-- TAMPER (R636). -/
def execTamper (cmd : Cmd) (s : State) : Host.Outcome State Fault Refusal :=
  .next (effTamper cmd s).settle

/-- LASTRESORT_CLEAR (R214). -/
def execLastresortClear (cmd : Cmd) (s : State) : Host.Outcome State Fault Refusal :=
  .next (effLastresortClear cmd s).settle

/-- TROUBLE_CLEAR (R636). -/
def execTroubleClear (cmd : Cmd) (s : State) : Host.Outcome State Fault Refusal :=
  .next (effTroubleClear cmd s).settle

/-- APPLET_RESV (R636). -/
def execAppletResv (cmd : Cmd) (s : State) : Host.Outcome State Fault Refusal :=
  .next (effAppletResv cmd s).settle

/-- RESET (R636). -/
def execReset (cmd : Cmd) (s : State) : Host.Outcome State Fault Refusal :=
  .next (effReset cmd s).settle

/-- MGT_CONFIG (R649). -/
def execMgtConfig (cmd : Cmd) (s : State) : Host.Outcome State Fault Refusal :=
  .next (effMgtConfig cmd s).settle

/-- UPLOAD (R652). -/
def execUpload (cmd : Cmd) (s : State) : Host.Outcome State Fault Refusal :=
  .next (effUpload cmd s).settle

end Sys2Proof.Machine
end

