-- ==== Sys2Proof/Machine/ExecCore.lean ====
section
/-!
DEFINITION. Sys2Proof/Machine/ExecCore.lean: what each command does: the Karpex core: interrupts and the Larva instructions. Every command has an effect in every state, if only none.
-/
namespace Sys2Proof.Machine
open Sys2Proof

/-- INTERRUPT (R516). -/
def execInterrupt (s : State) : Host.Outcome State Fault Refusal :=
  .next (effInterrupt s).settle

/-- ADD (R508). -/
def execAddOp (rd rs1 rs2 : Fin 16) (s : State) : Host.Outcome State Fault Refusal :=
  .next (s.coreRow (.a 0x00 rd rs1 rs2) CoreEnv.plain).settle

/-- SUB (R508). -/
def execSubOp (rd rs1 rs2 : Fin 16) (s : State) : Host.Outcome State Fault Refusal :=
  .next (s.coreRow (.a 0x01 rd rs1 rs2) CoreEnv.plain).settle

/-- AND (R508). -/
def execAndOp (rd rs1 rs2 : Fin 16) (s : State) : Host.Outcome State Fault Refusal :=
  .next (s.coreRow (.a 0x02 rd rs1 rs2) CoreEnv.plain).settle

/-- OR (R508). -/
def execOrOp (rd rs1 rs2 : Fin 16) (s : State) : Host.Outcome State Fault Refusal :=
  .next (s.coreRow (.a 0x03 rd rs1 rs2) CoreEnv.plain).settle

/-- XOR (R508). -/
def execXorOp (rd rs1 rs2 : Fin 16) (s : State) : Host.Outcome State Fault Refusal :=
  .next (s.coreRow (.a 0x04 rd rs1 rs2) CoreEnv.plain).settle

/-- SHL (R508). -/
def execShl (rd rs1 rs2 : Fin 16) (s : State) : Host.Outcome State Fault Refusal :=
  .next (s.coreRow (.a 0x05 rd rs1 rs2) CoreEnv.plain).settle

/-- SHR (R508). -/
def execShr (rd rs1 rs2 : Fin 16) (s : State) : Host.Outcome State Fault Refusal :=
  .next (s.coreRow (.a 0x06 rd rs1 rs2) CoreEnv.plain).settle

/-- SHRA (R508). -/
def execShra (rd rs1 rs2 : Fin 16) (s : State) : Host.Outcome State Fault Refusal :=
  .next (s.coreRow (.a 0x07 rd rs1 rs2) CoreEnv.plain).settle

/-- CLT (R508). -/
def execClt (rd rs1 rs2 : Fin 16) (s : State) : Host.Outcome State Fault Refusal :=
  .next (s.coreRow (.a 0x08 rd rs1 rs2) CoreEnv.plain).settle

/-- CLTU (R508). -/
def execCltu (rd rs1 rs2 : Fin 16) (s : State) : Host.Outcome State Fault Refusal :=
  .next (s.coreRow (.a 0x09 rd rs1 rs2) CoreEnv.plain).settle

/-- MUL (R508). -/
def execMulOp (rd rs1 rs2 : Fin 16) (s : State) : Host.Outcome State Fault Refusal :=
  .next (s.coreRow (.a 0x0a rd rs1 rs2) CoreEnv.plain).settle

/-- MULHIU (R508). -/
def execMulhiu (rd rs1 rs2 : Fin 16) (s : State) : Host.Outcome State Fault Refusal :=
  .next (s.coreRow (.a 0x0b rd rs1 rs2) CoreEnv.plain).settle

/-- MULHIS (R508). -/
def execMulhis (rd rs1 rs2 : Fin 16) (s : State) : Host.Outcome State Fault Refusal :=
  .next (s.coreRow (.a 0x0c rd rs1 rs2) CoreEnv.plain).settle

/-- QUOU (R508). -/
def execQuou (rd rs1 rs2 : Fin 16) (s : State) : Host.Outcome State Fault Refusal :=
  .next (s.coreRow (.a 0x0d rd rs1 rs2) CoreEnv.plain).settle

/-- MODU (R508). -/
def execModu (rd rs1 rs2 : Fin 16) (s : State) : Host.Outcome State Fault Refusal :=
  .next (s.coreRow (.a 0x0e rd rs1 rs2) CoreEnv.plain).settle

/-- QUOS (R508). -/
def execQuos (rd rs1 rs2 : Fin 16) (s : State) : Host.Outcome State Fault Refusal :=
  .next (s.coreRow (.a 0x0f rd rs1 rs2) CoreEnv.plain).settle

/-- MODS (R508). -/
def execMods (rd rs1 rs2 : Fin 16) (s : State) : Host.Outcome State Fault Refusal :=
  .next (s.coreRow (.a 0x10 rd rs1 rs2) CoreEnv.plain).settle

/-- SELNZ (R508). -/
def execSelnz (rd rs1 rs2 : Fin 16) (s : State) : Host.Outcome State Fault Refusal :=
  .next (s.coreRow (.a 0x11 rd rs1 rs2) CoreEnv.plain).settle

/-- ROTR (R508). -/
def execRotr (rd rs1 rs2 : Fin 16) (s : State) : Host.Outcome State Fault Refusal :=
  .next (s.coreRow (.a 0x12 rd rs1 rs2) CoreEnv.plain).settle

/-- LZC (R508). -/
def execLzc (rd rs1 : Fin 16) (s : State) : Host.Outcome State Fault Refusal :=
  .next (s.coreRow (.a 0x13 rd rs1 0) CoreEnv.plain).settle

/-- ONES (R508). -/
def execOnes (rd rs1 : Fin 16) (s : State) : Host.Outcome State Fault Refusal :=
  .next (s.coreRow (.a 0x14 rd rs1 0) CoreEnv.plain).settle

/-- ADDK (R509). -/
def execAddk (rd rs1 : Fin 16) (imm : BitVec 18) (s : State) : Host.Outcome State Fault Refusal :=
  .next (s.coreRow (.i 0x01 rd rs1 imm) CoreEnv.plain).settle

/-- ANDK (R509). -/
def execAndk (rd rs1 : Fin 16) (imm : BitVec 18) (s : State) : Host.Outcome State Fault Refusal :=
  .next (s.coreRow (.i 0x02 rd rs1 imm) CoreEnv.plain).settle

/-- ORK (R509). -/
def execOrk (rd rs1 : Fin 16) (imm : BitVec 18) (s : State) : Host.Outcome State Fault Refusal :=
  .next (s.coreRow (.i 0x03 rd rs1 imm) CoreEnv.plain).settle

/-- XORK (R509). -/
def execXork (rd rs1 : Fin 16) (imm : BitVec 18) (s : State) : Host.Outcome State Fault Refusal :=
  .next (s.coreRow (.i 0x04 rd rs1 imm) CoreEnv.plain).settle

/-- SHLK (R509). -/
def execShlk (rd rs1 : Fin 16) (amount : BitVec 6) (s : State) : Host.Outcome State Fault Refusal :=
  .next (s.coreRow (.i 0x05 rd rs1 (amount.zeroExtend 18)) CoreEnv.plain).settle

/-- SHRK (R509). -/
def execShrk (rd rs1 : Fin 16) (amount : BitVec 6) (s : State) : Host.Outcome State Fault Refusal :=
  .next (s.coreRow (.i 0x06 rd rs1 (amount.zeroExtend 18)) CoreEnv.plain).settle

/-- SHRAK (R509). -/
def execShrak (rd rs1 : Fin 16) (amount : BitVec 6) (s : State) : Host.Outcome State Fault Refusal :=
  .next (s.coreRow (.i 0x07 rd rs1 (amount.zeroExtend 18)) CoreEnv.plain).settle

/-- CLTK (R509). -/
def execCltk (rd rs1 : Fin 16) (imm : BitVec 18) (s : State) : Host.Outcome State Fault Refusal :=
  .next (s.coreRow (.i 0x08 rd rs1 imm) CoreEnv.plain).settle

/-- CLTUK (R509). -/
def execCltuk (rd rs1 : Fin 16) (imm : BitVec 18) (s : State) : Host.Outcome State Fault Refusal :=
  .next (s.coreRow (.i 0x09 rd rs1 imm) CoreEnv.plain).settle

/-- HIGH (R509). -/
def execHighOp (rd : Fin 16) (imm : BitVec 18) (s : State) : Host.Outcome State Fault Refusal :=
  .next (s.coreRow (.i 0x0a rd 0 imm) CoreEnv.plain).settle

/-- PCREL (R509). -/
def execPcrel (rd : Fin 16) (imm : BitVec 18) (s : State) : Host.Outcome State Fault Refusal :=
  .next (s.coreRow (.i 0x0b rd 0 imm) CoreEnv.plain).settle

/-- CALL (R509). -/
def execCallOp (rd : Fin 16) (imm : BitVec 18) (s : State) : Host.Outcome State Fault Refusal :=
  .next (s.coreRow (.i 0x0c rd 0 imm) CoreEnv.plain).settle

/-- JUMPR (R509). -/
def execJumpr (rd rs1 : Fin 16) (imm : BitVec 18) (s : State) : Host.Outcome State Fault Refusal :=
  .next (s.coreRow (.i 0x0d rd rs1 imm) CoreEnv.plain).settle

/-- LD64 (R510). -/
def execLd64 (rt rs1 : Fin 16) (off : BitVec 18) (ecc : Ecc) (s : State) : Host.Outcome State Fault Refusal :=
  .next (s.coreRow (.m 0x10 rt rs1 off) (CoreEnv.withEcc ecc)).settle

/-- LD32S (R510). -/
def execLd32s (rt rs1 : Fin 16) (off : BitVec 18) (ecc : Ecc) (s : State) : Host.Outcome State Fault Refusal :=
  .next (s.coreRow (.m 0x11 rt rs1 off) (CoreEnv.withEcc ecc)).settle

/-- LD32U (R510). -/
def execLd32u (rt rs1 : Fin 16) (off : BitVec 18) (ecc : Ecc) (s : State) : Host.Outcome State Fault Refusal :=
  .next (s.coreRow (.m 0x12 rt rs1 off) (CoreEnv.withEcc ecc)).settle

/-- LD16S (R510). -/
def execLd16s (rt rs1 : Fin 16) (off : BitVec 18) (ecc : Ecc) (s : State) : Host.Outcome State Fault Refusal :=
  .next (s.coreRow (.m 0x13 rt rs1 off) (CoreEnv.withEcc ecc)).settle

/-- LD16U (R510). -/
def execLd16u (rt rs1 : Fin 16) (off : BitVec 18) (ecc : Ecc) (s : State) : Host.Outcome State Fault Refusal :=
  .next (s.coreRow (.m 0x14 rt rs1 off) (CoreEnv.withEcc ecc)).settle

/-- LD8S (R510). -/
def execLd8s (rt rs1 : Fin 16) (off : BitVec 18) (ecc : Ecc) (s : State) : Host.Outcome State Fault Refusal :=
  .next (s.coreRow (.m 0x15 rt rs1 off) (CoreEnv.withEcc ecc)).settle

/-- LD8U (R510). -/
def execLd8u (rt rs1 : Fin 16) (off : BitVec 18) (ecc : Ecc) (s : State) : Host.Outcome State Fault Refusal :=
  .next (s.coreRow (.m 0x16 rt rs1 off) (CoreEnv.withEcc ecc)).settle

/-- ST64 (R510). -/
def execSt64 (rt rs1 : Fin 16) (off : BitVec 18) (ecc : Ecc) (s : State) : Host.Outcome State Fault Refusal :=
  .next (s.coreRow (.m 0x18 rt rs1 off) (CoreEnv.withEcc ecc)).settle

/-- ST32 (R510). -/
def execSt32 (rt rs1 : Fin 16) (off : BitVec 18) (ecc : Ecc) (s : State) : Host.Outcome State Fault Refusal :=
  .next (s.coreRow (.m 0x19 rt rs1 off) (CoreEnv.withEcc ecc)).settle

/-- ST16 (R510). -/
def execSt16 (rt rs1 : Fin 16) (off : BitVec 18) (ecc : Ecc) (s : State) : Host.Outcome State Fault Refusal :=
  .next (s.coreRow (.m 0x1a rt rs1 off) (CoreEnv.withEcc ecc)).settle

/-- ST8 (R510). -/
def execSt8 (rt rs1 : Fin 16) (off : BitVec 18) (ecc : Ecc) (s : State) : Host.Outcome State Fault Refusal :=
  .next (s.coreRow (.m 0x1b rt rs1 off) (CoreEnv.withEcc ecc)).settle

/-- IFEQ (R512). -/
def execIfeq (rs1 rs2 : Fin 16) (off : BitVec 18) (s : State) : Host.Outcome State Fault Refusal :=
  .next (s.coreRow (.b 0x20 rs1 rs2 off) CoreEnv.plain).settle

/-- IFNE (R512). -/
def execIfne (rs1 rs2 : Fin 16) (off : BitVec 18) (s : State) : Host.Outcome State Fault Refusal :=
  .next (s.coreRow (.b 0x21 rs1 rs2 off) CoreEnv.plain).settle

/-- IFLT (R512). -/
def execIflt (rs1 rs2 : Fin 16) (off : BitVec 18) (s : State) : Host.Outcome State Fault Refusal :=
  .next (s.coreRow (.b 0x22 rs1 rs2 off) CoreEnv.plain).settle

/-- IFGE (R512). -/
def execIfge (rs1 rs2 : Fin 16) (off : BitVec 18) (s : State) : Host.Outcome State Fault Refusal :=
  .next (s.coreRow (.b 0x23 rs1 rs2 off) CoreEnv.plain).settle

/-- IFLTU (R512). -/
def execIfltu (rs1 rs2 : Fin 16) (off : BitVec 18) (s : State) : Host.Outcome State Fault Refusal :=
  .next (s.coreRow (.b 0x24 rs1 rs2 off) CoreEnv.plain).settle

/-- IFGEU (R512). -/
def execIfgeu (rs1 rs2 : Fin 16) (off : BitVec 18) (s : State) : Host.Outcome State Fault Refusal :=
  .next (s.coreRow (.b 0x25 rs1 rs2 off) CoreEnv.plain).settle

/-- DSTOP (R513). -/
def execDstop (code : BitVec 12) (s : State) : Host.Outcome State Fault Refusal :=
  .next (s.coreRow (.s 1 code) CoreEnv.plain).settle

/-- TRET (R513). -/
def execTret (code : BitVec 12) (s : State) : Host.Outcome State Fault Refusal :=
  .next (s.coreRow (.s 2 code) CoreEnv.plain).settle

/-- IDLE (R513). -/
def execIdle (s : State) : Host.Outcome State Fault Refusal :=
  .next (s.coreRow (.s 3 0) CoreEnv.plain).settle

/-- IDLE_RESUME (R513). -/
def execIdleResume (s : State) : Host.Outcome State Fault Refusal :=
  .next (effIdleResume s).settle

/-- ILLEGAL (R507). -/
def execIllegal (word : BitVec 32) (s : State) : Host.Outcome State Fault Refusal :=
  .next (effIllegal word s).settle

end Sys2Proof.Machine
end

