-- ==== Sys2Proof/Machine/ExecField.lean ====
section
/-!
DEFINITION. Sys2Proof/Machine/ExecField.lean: what each command does: the barrier, the Carapace die, field I/O, the interlock and the commit gate. Every command has an effect in every state, if only none.
-/
namespace Sys2Proof.Machine
open Sys2Proof

/-- CARAPACE_SCAN (R258). -/
def execCarapaceScan (env : ScanEnv) (s : State) : Host.Outcome State Fault Refusal :=
  .next (effCarapaceScan env s).settle

/-- INBOUND_FRAME (R258). -/
def execInboundFrame (env : InEnv) (s : State) : Host.Outcome State Fault Refusal :=
  .next (effInboundFrame env s).settle

/-- SILENCE_DROP (R27). -/
def execSilenceDrop (s : State) : Host.Outcome State Fault Refusal :=
  .next (effSilenceDrop s).settle

/-- BARRIER_SILENCE (R29). -/
def execBarrierSilence (s : State) : Host.Outcome State Fault Refusal :=
  .next (effBarrierSilence s).settle

/-- WATCH_FRAME (R268). -/
def execWatchFrame (lanes : WatchLanes) (raw : BitVec 32) (vfldOk late : Bool) (s : State) : Host.Outcome State Fault Refusal :=
  .next (effWatchFrame lanes raw.toNat vfldOk late s).settle

/-- FENCE_AUTH_FAIL (R24). -/
def execFenceAuthFail (s : State) : Host.Outcome State Fault Refusal :=
  .next (effFenceAuthFail s).settle

/-- FENCE_REVOKE (R23). -/
def execFenceRevoke (s : State) : Host.Outcome State Fault Refusal :=
  .next (effFenceRevoke s).settle

/-- FOUT_SET (R283). -/
def execFoutSet (acc : Accessor) (value mask : BitVec 16) (s : State) : Host.Outcome State Fault Refusal :=
  .next (effFoutSet acc value mask s).settle

/-- FCNT_RESET (R279). -/
def execFcntReset (acc : Accessor) (units : BitVec 4) (s : State) : Host.Outcome State Fault Refusal :=
  .next (effFcntReset acc units s).settle

/-- FOUT_UNINHIBIT (R288). -/
def execFoutUninhibit (acc : Accessor) (channels : BitVec 16) (s : State) : Host.Outcome State Fault Refusal :=
  .next (effFoutUninhibit acc channels s).settle

/-- FOUT_SWEEP_START (R289). -/
def execFoutSweepStart (acc : Accessor) (mask : BitVec 16) (onTest allOff : Bool) (settle : Byte) (s : State) : Host.Outcome State Fault Refusal :=
  .next (effFoutSweepStart acc mask onTest allOff settle s).settle

/-- FOUT_SWEEP_ABORT (R292). -/
def execFoutSweepAbort (acc : Accessor) (s : State) : Host.Outcome State Fault Refusal :=
  .next (effFoutSweepAbort acc s).settle

/-- SWEEP_SETTLE_EXPIRY (R289). -/
def execSweepSettleExpiry (s : State) : Host.Outcome State Fault Refusal :=
  .next (effSweepSettleExpiry s).settle

/-- FLD_GATHER_START (R293). -/
def execFldGatherStart (acc : Accessor) (count : BitVec 5) (s : State) : Host.Outcome State Fault Refusal :=
  .next (effFldGatherStart acc count s).settle

/-- PULSED_SAMPLE (R272). -/
def execPulsedSample (raw : BitVec 32) (s : State) : Host.Outcome State Fault Refusal :=
  .next (effPulsedSample raw s).settle

/-- INPUT_FILTER_CHANGE (R273). -/
def execInputFilterChange (input : Fin 32) (s : State) : Host.Outcome State Fault Refusal :=
  .next (effInputFilterChange input.val s).settle

/-- PERIOD_OVERFLOW (R275). -/
def execPeriodOverflow (unit : Fin 4) (s : State) : Host.Outcome State Fault Refusal :=
  .next (effPeriodOverflow unit.val s).settle

/-- FREQUENCY_GATE_END (R275). -/
def execFrequencyGateEnd (unit : Fin 4) (s : State) : Host.Outcome State Fault Refusal :=
  .next (effFrequencyGateEnd unit.val s).settle

/-- THERMAL_SHUTDOWN (R284). -/
def execThermalShutdown (channel : Fin 16) (s : State) : Host.Outcome State Fault Refusal :=
  .next (effThermalShutdown channel.val s).settle

/-- CURRENT_LIMIT (R284). -/
def execCurrentLimit (channel : Fin 16) (s : State) : Host.Outcome State Fault Refusal :=
  .next (effCurrentLimit channel.val s).settle

/-- OUTPUT_FAULT (R286). -/
def execOutputFault (channel : Fin 16) (s : State) : Host.Outcome State Fault Refusal :=
  .next (effOutputFault channel.val s).settle

/-- ITE_TRIPCLR (R309). -/
def execIteTripclr (acc : Accessor) (s : State) : Host.Outcome State Fault Refusal :=
  .next (effIteTripclr acc s).settle

/-- ITE_STORE (R311). -/
def execIteStore (acc : Accessor) (check : TableCheck) (s : State) : Host.Outcome State Fault Refusal :=
  .next (effIteStore acc check s).settle

/-- ITE_STORE_AND_LOAD (R312). -/
def execIteStoreAndLoad (acc : Accessor) (check : TableCheck) (s : State) : Host.Outcome State Fault Refusal :=
  .next (effIteStoreAndLoad acc check s).settle

/-- TABLE_LOAD_DONE (R312). -/
def execTableLoadDone (s : State) : Host.Outcome State Fault Refusal :=
  .next (effTableLoadDone s).settle

/-- CMG_ARM (R330). -/
def execCmgArm (acc : Accessor) (base : BitVec 16) (s : State) : Host.Outcome State Fault Refusal :=
  .next (effCmgArm acc base s).settle

end Sys2Proof.Machine
end

