-- ==== Sys2Proof/Machine/ExecHost.lean ====
section
/-!
DEFINITION. Sys2Proof/Machine/ExecHost.lean: what each command does: the host attachment. Every command has an effect in every state, if only none.
-/
namespace Sys2Proof.Machine
open Sys2Proof

/-- PCIE_LINK_UP (R70). -/
def execPcieLinkUp (speed : BitVec 2) (s : State) : Host.Outcome State Fault Refusal :=
  .next (effPcieLinkUp speed s).settle

/-- PCIE_LINK_DOWN (R643). -/
def execPcieLinkDown (s : State) : Host.Outcome State Fault Refusal :=
  .next (effPcieLinkDown s).settle

/-- BUS_MASTER_ENABLE (R620). -/
def execBusMasterEnable (on : Bool) (s : State) : Host.Outcome State Fault Refusal :=
  .next (effBusMasterEnable on s).settle

/-- DOE_DISCOVERY (R621). -/
def execDoeDiscovery (read : Attempts) (index : Byte) (s : State) : Host.Outcome State Fault Refusal :=
  .next (effDoeDiscovery read index s).settle

/-- DOE_ABORT (R622). -/
def execDoeAbort (s : State) : Host.Outcome State Fault Refusal :=
  .next (effDoeAbort s).settle

/-- GET_MEASUREMENTS (R623). -/
def execGetMeasurements (read : Attempts) (block : Byte) (nonce : List Byte) (s : State) : Host.Outcome State Fault Refusal :=
  .next (effGetMeasurements read block nonce s).settle

/-- KEY_EXCHANGE (R624). -/
def execKeyExchange (read : Attempts) (requestId : BitVec 16) (finishOk : Bool) (s : State) : Host.Outcome State Fault Refusal :=
  .next (effKeyExchange read requestId finishOk s).settle

/-- KEY_UPDATE (R628). -/
def execKeyUpdate (read : Attempts) (s : State) : Host.Outcome State Fault Refusal :=
  .next (effKeyUpdate read s).settle

/-- VENDOR_DEFINED_REQUEST (R627). -/
def execVendorDefinedRequest (read : Attempts) (payload : List Byte) (s : State) : Host.Outcome State Fault Refusal :=
  .next (effVendorDefinedRequest read payload s).settle

/-- RECOVERY_OBJECT (R625). -/
def execRecoveryObject (offset flags : BitVec 32) (data : List Byte) (check : ImageCheck) (version : Nat) (s : State) : Host.Outcome State Fault Refusal :=
  .next (effRecoveryObject offset flags data check version s).settle

/-- HBX_H2D_TAIL_WRITE (R629). -/
def execHbxH2dTailWrite (acc : Accessor) (index : BitVec 16) (s : State) : Host.Outcome State Fault Refusal :=
  .next (effHbxH2dTailWrite acc index s).settle

/-- HBX_D2H_TAIL_WRITE (R629). -/
def execHbxD2hTailWrite (acc : Accessor) (index : BitVec 16) (s : State) : Host.Outcome State Fault Refusal :=
  .next (effHbxD2hTailWrite acc index s).settle

/-- H2D_MESSAGE (R632). -/
def execH2dMessage (entry : H2dEntry) (s : State) : Host.Outcome State Fault Refusal :=
  .next (effH2dMessage entry s).settle

/-- D2H_MESSAGE (R634). -/
def execD2hMessage (buffer : Word) (capacity : BitVec 32) (s : State) : Host.Outcome State Fault Refusal :=
  .next (effD2hMessage buffer capacity s).settle

/-- HBX_CLAIM (R237). -/
def execHbxClaim (acc : Accessor) (s : State) : Host.Outcome State Fault Refusal :=
  .next (effHbxClaim acc s).settle

/-- HBX_COMPLETE (R653). -/
def execHbxComplete (acc : Accessor) (source : BitVec 9) (s : State) : Host.Outcome State Fault Refusal :=
  .next (effHbxComplete acc source s).settle

/-- SPDM_END_SESSION (R624). -/
def execSpdmEndSession (read : Attempts) (s : State) : Host.Outcome State Fault Refusal :=
  .next (effSpdmEndSession read s).settle

/-- GET_CERTIFICATE (R623). -/
def execGetCertificate (read : Attempts) (slot : Byte) (s : State) : Host.Outcome State Fault Refusal :=
  .next (effGetCertificate read slot s).settle

/-- CHALLENGE (R623). -/
def execChallenge (read : Attempts) (slot : Byte) (nonce : List Byte) (s : State) : Host.Outcome State Fault Refusal :=
  .next (effChallenge read slot nonce s).settle

end Sys2Proof.Machine
end

