-- ==== Sys2Proof/Machine/ExecKey.lean ====
section
/-!
DEFINITION. Sys2Proof/Machine/ExecKey.lean: what each command does: keys, counters, tamper, tenancy, measurement and external memory. Every command has an effect in every state, if only none.
-/
namespace Sys2Proof.Machine
open Sys2Proof

/-- GENERATE (R572). -/
def execGenerateSlot (acc : Accessor) (slot : Byte) (arg : BitVec 16) (check : KeyCheck) (s : State) : Host.Outcome State Fault Refusal :=
  .next (effGenerateSlot acc slot arg check s).settle

/-- IMPORT (R556). -/
def execImportSlot (acc : Accessor) (slot : Byte) (arg : BitVec 16) (check : KeyCheck) (s : State) : Host.Outcome State Fault Refusal :=
  .next (effImportSlot acc slot arg check s).settle

/-- DELETE (R572). -/
def execDeleteSlot (acc : Accessor) (slot : Byte) (arg : BitVec 16) (check : KeyCheck) (s : State) : Host.Outcome State Fault Refusal :=
  .next (effDeleteSlot acc slot arg check s).settle

/-- CHECK (R551). -/
def execCheckSlot (acc : Accessor) (slot : Byte) (arg : BitVec 16) (s : State) : Host.Outcome State Fault Refusal :=
  .next (effCheckSlot acc slot arg s).settle

/-- DELIVER (R561). -/
def execDeliver (acc : Accessor) (slot : Byte) (arg : BitVec 16) (s : State) : Host.Outcome State Fault Refusal :=
  .next (effDeliver acc slot arg s).settle

/-- NEWROOT (R541). -/
def execNewroot (acc : Accessor) (slot : Byte) (arg : BitVec 16) (check : KeyCheck) (s : State) : Host.Outcome State Fault Refusal :=
  .next (effNewroot acc slot arg check s).settle

/-- LIFECYCLE (R573). -/
def execLifecycle (acc : Accessor) (slot : Byte) (arg : BitVec 16) (check : KeyCheck) (s : State) : Host.Outcome State Fault Refusal :=
  .next (effLifecycle acc slot arg check s).settle

/-- KEEPER_FLOOR (R572). -/
def execKeeperFloor (acc : Accessor) (slot : Byte) (arg : BitVec 16) (check : KeyCheck) (s : State) : Host.Outcome State Fault Refusal :=
  .next (effKeeperFloor acc slot arg check s).settle

/-- TMP_FLOOR (R565). -/
def execTmpFloor (acc : Accessor) (slot : Byte) (arg : BitVec 16) (check : KeyCheck) (s : State) : Host.Outcome State Fault Refusal :=
  .next (effTmpFloor acc slot arg check s).settle

/-- COMMIT (R574). -/
def execCommitRoot (acc : Accessor) (slot : Byte) (arg : BitVec 16) (s : State) : Host.Outcome State Fault Refusal :=
  .next (effCommitRoot acc slot arg s).settle

/-- INC (R560). -/
def execIncCounter (acc : Accessor) (index : Fin 32) (programOk : Bool) (s : State) : Host.Outcome State Fault Refusal :=
  .next (effIncCounter acc index.val programOk s).settle

/-- RAISE (R560). -/
def execRaiseCounter (acc : Accessor) (index : Fin 32) (value : BitVec 32) (programOk : Bool) (s : State) : Host.Outcome State Fault Refusal :=
  .next (effRaiseCounter acc index.val value programOk s).settle

/-- TAMPER_ANOMALY (R566). -/
def execTamperAnomaly (sensors : BitVec 11) (s : State) : Host.Outcome State Fault Refusal :=
  .next (effTamperAnomaly sensors s).settle

/-- TMP_LEVEL_WRITE (R565). -/
def execTmpLevelWrite (acc : Accessor) (value : Word) (s : State) : Host.Outcome State Fault Refusal :=
  .next (effTmpLevelWrite acc value s).settle

/-- TMP_CLR_LATCH (R575). -/
def execTmpClrLatch (acc : Accessor) (s : State) : Host.Outcome State Fault Refusal :=
  .next (effTmpClrLatch acc s).settle

/-- LOCK_LIFT (R569). -/
def execLockLift (acc : Accessor) (s : State) : Host.Outcome State Fault Refusal :=
  .next (effLockLift acc s).settle

/-- TMP_CLR_COUNTS (R575). -/
def execTmpClrCounts (acc : Accessor) (s : State) : Host.Outcome State Fault Refusal :=
  .next (effTmpClrCounts acc s).settle

/-- CONSENT_CLOCK_TICK (R559). -/
def execConsentClockTick (s : State) : Host.Outcome State Fault Refusal :=
  .next (effConsentClockTick s).settle

/-- TEN_MOLT (R581). -/
def execTenMolt (acc : Accessor) (signatureOk : Bool) (s : State) : Host.Outcome State Fault Refusal :=
  .next (effTenMolt acc signatureOk s).settle

/-- MOLT_ORDER_RECHECK (R582). -/
def execMoltOrderRecheck (signatureOk : Bool) (s : State) : Host.Outcome State Fault Refusal :=
  .next (effMoltOrderRecheck signatureOk s).settle

/-- MOLT_PREPARE (R583). -/
def execMoltPrepare (s : State) : Host.Outcome State Fault Refusal :=
  .next (effMoltPrepare s).settle

/-- SCRUB_DONE (R597). -/
def execScrubDone (s : State) : Host.Outcome State Fault Refusal :=
  .next (effScrubDone s).settle

/-- MOLT_FINISH (R583). -/
def execMoltFinish (appletsOk : List Bool) (s : State) : Host.Outcome State Fault Refusal :=
  .next (effMoltFinish appletsOk s).settle

/-- TEN_CFGLOAD (R578). -/
def execTenCfgload (acc : Accessor) (signatureOk : Bool) (s : State) : Host.Outcome State Fault Refusal :=
  .next (effTenCfgload acc signatureOk s).settle

/-- ATT_MEAS_HASH (R614). -/
def execAttMeasHash (acc : Accessor) (entry : BitVec 4) (version : BitVec 32) (s : State) : Host.Outcome State Fault Refusal :=
  .next (effAttMeasHash acc entry version s).settle

/-- ATT_MEAS_COPY_CMG (R600). -/
def execAttMeasCopyCmg (acc : Accessor) (entry : BitVec 4) (version : BitVec 32) (s : State) : Host.Outcome State Fault Refusal :=
  .next (effAttMeasCopyCmg acc entry version s).settle

/-- ATT_MEAS_COPY_PKG (R600). -/
def execAttMeasCopyPkg (acc : Accessor) (entry : BitVec 4) (version : BitVec 32) (s : State) : Host.Outcome State Fault Refusal :=
  .next (effAttMeasCopyPkg acc entry version s).settle

/-- ATT_MEAS_CLEAR (R614). -/
def execAttMeasClear (acc : Accessor) (entry : BitVec 4) (version : BitVec 32) (s : State) : Host.Outcome State Fault Refusal :=
  .next (effAttMeasClear acc entry version s).settle

/-- EMC_KEY_LOAD (R615). -/
def execEmcKeyLoad (acc : Accessor) (s : State) : Host.Outcome State Fault Refusal :=
  .next (effEmcKeyLoad acc s).settle

/-- EMC_KEY_CLEAR (R615). -/
def execEmcKeyClear (acc : Accessor) (s : State) : Host.Outcome State Fault Refusal :=
  .next (effEmcKeyClear acc s).settle

/-- EMC_SCRUB_START (R597). -/
def execEmcScrubStart (acc : Accessor) (s : State) : Host.Outcome State Fault Refusal :=
  .next (effEmcScrubStart acc s).settle

/-- EMC_REFRESH (R589). -/
def execEmcRefresh (s : State) : Host.Outcome State Fault Refusal :=
  .next (effEmcRefresh s).settle

end Sys2Proof.Machine
end

