-- ==== Sys2Proof/Machine/ExecLift.lean ====
section
/-!
DEFINITION. Sys2Proof/Machine/ExecLift.lean: what each command does: position, doors, dispatch and policy packages. Every command has an effect in every state, if only none.
-/
namespace Sys2Proof.Machine
open Sys2Proof

/-- CAR_UNIT_SCALE_WRITE (R346). -/
def execCarUnitScaleWrite (acc : Accessor) (scale : Bool) (value : Word) (s : State) : Host.Outcome State Fault Refusal :=
  .next (effCarUnitScaleWrite acc scale value s).settle

/-- DOOR_STATUS_FRAME (R355). -/
def execDoorStatusFrame (door : Fin 2) (payload : List Byte) (s : State) : Host.Outcome State Fault Refusal :=
  .next (effDoorStatusFrame door.val payload s).settle

/-- DWELL_EXPIRY (R359). -/
def execDwellExpiry (door : Fin 2) (s : State) : Host.Outcome State Fault Refusal :=
  .next (effDwellExpiry door.val s).settle

/-- LOCK_MS_EXPIRY (R364). -/
def execLockMsExpiry (door : Fin 2) (s : State) : Host.Outcome State Fault Refusal :=
  .next (effLockMsExpiry door.val s).settle

/-- NUDGE_HOLD_EXPIRY (R361). -/
def execNudgeHoldExpiry (door : Fin 2) (s : State) : Host.Outcome State Fault Refusal :=
  .next (effNudgeHoldExpiry door.val s).settle

/-- DOR_UNHOLD (R358). -/
def execDorUnhold (acc : Accessor) (door : Fin 2) (s : State) : Host.Outcome State Fault Refusal :=
  .next (effDorUnhold acc door.val s).settle

/-- CALL_FRAME (R381). -/
def execCallFrame (bus : Fin 2) (job : Fin 64) (payload : List Byte) (s : State) : Host.Outcome State Fault Refusal :=
  .next (effCallFrame bus.val job.val payload s).settle

/-- CALL_CANCEL (R383). -/
def execCallCancel (bus : Fin 2) (job : Fin 64) (payload : List Byte) (s : State) : Host.Outcome State Fault Refusal :=
  .next (effCallCancel bus.val job.val payload s).settle

/-- DSE_PASS (R375). -/
def execDsePass (overtaken : Bool) (s : State) : Host.Outcome State Fault Refusal :=
  .next (effDsePass overtaken s).settle

/-- DRIVE_STATUS_FRAME (R450). -/
def execDriveStatusFrame (payload : List Byte) (s : State) : Host.Outcome State Fault Refusal :=
  .next (effDriveStatusFrame payload s).settle

/-- ACK_RETRY (R405). -/
def execAckRetry (s : State) : Host.Outcome State Fault Refusal :=
  .next (effAckRetry s).settle

/-- PKG_LOAD (R408). -/
def execPkgLoad (acc : Accessor) (s : State) : Host.Outcome State Fault Refusal :=
  .next (effPkgLoad acc s).settle

/-- PKG_LOAD_END (R411). -/
def execPkgLoadEnd (env : PkgEnv) (s : State) : Host.Outcome State Fault Refusal :=
  .next (effPkgLoadEnd env s).settle

/-- DSE_PERF_UPDATE (R413). -/
def execDsePerfUpdate (s : State) : Host.Outcome State Fault Refusal :=
  .next (effDsePerfUpdate s).settle

/-- DSE_TOD_ADVANCE (R414). -/
def execDseTodAdvance (s : State) : Host.Outcome State Fault Refusal :=
  .next (effDseTodAdvance s).settle

end Sys2Proof.Machine
end

