-- ==== Sys2Proof/Machine/ExecMode.lean ====
section
/-!
DEFINITION. Sys2Proof/Machine/ExecMode.lean: what each command does: the mode, accesses to the page space, LOG and the ICU. Every command has an effect in every state, if only none.
-/
namespace Sys2Proof.Machine
open Sys2Proof

/-- MOD_EVALUATION (R94). -/
def execModEvaluation (s : State) : Host.Outcome State Fault Refusal :=
  .next (effModEvaluation s).settle

/-- MOD_REQN_WRITE (R80). -/
def execModReqnWrite (acc : Accessor) (index : Fin 11) (value arg : Byte) (s : State) : Host.Outcome State Fault Refusal :=
  .next (effModReqnWrite acc index.val value arg s).settle

/-- MOD_REQ_CANCEL (R81). -/
def execModReqCancel (acc : Accessor) (index : Fin 11) (s : State) : Host.Outcome State Fault Refusal :=
  .next (effModReqCancel acc index.val s).settle

/-- MODE_INPUT_CHANGE (R57). -/
def execModeInputChange (input : Fin 8) (s : State) : Host.Outcome State Fault Refusal :=
  .next (effModeInputChange input.val s).settle

/-- SECURE_DEGRADED_PARKED (R106). -/
def execSecureDegradedParked (s : State) : Host.Outcome State Fault Refusal :=
  .next (effSecureDegradedParked s).settle

/-- REGISTER_WRITE (R134). -/
def execRegisterWrite (acc : Accessor) (page offset : Nat) (value : Word) (s : State) : Host.Outcome State Fault Refusal :=
  .next (effRegisterWrite acc page offset value s).settle

/-- UNASSIGNED_PAGE_ACCESS (R120). -/
def execUnassignedPageAccess (page : Nat) (s : State) : Host.Outcome State Fault Refusal :=
  .next (effUnassignedPageAccess page s).settle

/-- NARROW_ACCESS (R121). -/
def execNarrowAccess (acc : Accessor) (page : Nat) (s : State) : Host.Outcome State Fault Refusal :=
  .next (effNarrowAccess acc page s).settle

/-- EVT_CLEAR (R129). -/
def execEvtClear (acc : Accessor) (page : Nat) (bits : Word) (s : State) : Host.Outcome State Fault Refusal :=
  .next (effEvtClear acc page bits s).settle

/-- EVTEN_WRITE (R130). -/
def execEvtenWrite (acc : Accessor) (page : Nat) (bits : Word) (s : State) : Host.Outcome State Fault Refusal :=
  .next (effEvtenWrite acc page bits s).settle

/-- TRCLR_WRITE (R132). -/
def execTrclrWrite (acc : Accessor) (page : Nat) (bits : Word) (s : State) : Host.Outcome State Fault Refusal :=
  .next (effTrclrWrite acc page bits s).settle

/-- LOCK_ARM (R137). -/
def execLockArm (acc : Accessor) (page : Nat) (seq : Byte) (arm : BitVec 16) (s : State) : Host.Outcome State Fault Refusal :=
  .next (effLockArm acc page seq arm s).settle

/-- LOCK_CANCEL (R140). -/
def execLockCancel (acc : Accessor) (page : Nat) (s : State) : Host.Outcome State Fault Refusal :=
  .next (effLockCancel acc page s).settle

/-- LOCKED_REGISTER_WRITE (R138). -/
def execLockedRegisterWrite (acc : Accessor) (page offset : Nat) (value : Word) (s : State) : Host.Outcome State Fault Refusal :=
  .next (effLockedRegisterWrite acc page offset value s).settle

/-- LOCK_WINDOW_EXPIRY (R140). -/
def execLockWindowExpiry (page : Nat) (s : State) : Host.Outcome State Fault Refusal :=
  .next (effLockWindowExpiry page s).settle

/-- SYS_ASSET_SET (R149). -/
def execSysAssetSet (acc : Accessor) (value : Word) (s : State) : Host.Outcome State Fault Refusal :=
  .next (effSysAssetSet acc value s).settle

/-- LOG_CLR_CLASS (R217). -/
def execLogClrClass (acc : Accessor) (classes : Word) (upsets : List (Nat × Bool)) (s : State) : Host.Outcome State Fault Refusal :=
  .next (effLogClrClass acc classes upsets s).settle

/-- LOG_CLR_SELF (R217). -/
def execLogClrSelf (acc : Accessor) (bits : Word) (s : State) : Host.Outcome State Fault Refusal :=
  .next (effLogClrSelf acc bits s).settle

/-- DOORBELL_DRAIN (R220). -/
def execDoorbellDrain (s : State) : Host.Outcome State Fault Refusal :=
  .next (effDoorbellDrain s).settle

/-- GROUP_TIMER_EXPIRY (R228). -/
def execGroupTimerExpiry (group : Fin 16) (s : State) : Host.Outcome State Fault Refusal :=
  .next (effGroupTimerExpiry group.val s).settle

/-- MSIX_UNMASK (R241). -/
def execMsixUnmask (control : MsixControl) (s : State) : Host.Outcome State Fault Refusal :=
  .next (effMsixUnmask control.enabled control.masked s).settle

/-- ICU_GCFG_WRITE (R236). -/
def execIcuGcfgWrite (acc : Accessor) (group : Fin 16) (value : Word) (s : State) : Host.Outcome State Fault Refusal :=
  .next (effIcuGcfgWrite acc group.val value s).settle

/-- ICU_SRCCFG_WRITE (R235). -/
def execIcuSrccfgWrite (acc : Accessor) (index : Fin 64) (value : Word) (s : State) : Host.Outcome State Fault Refusal :=
  .next (effIcuSrccfgWrite acc index.val value s).settle

/-- ICU_CLAIM (R231). -/
def execIcuClaim (acc : Accessor) (target : Target) (s : State) : Host.Outcome State Fault Refusal :=
  .next (effIcuClaim acc target s).settle

/-- ICU_COMPLETE (R233). -/
def execIcuComplete (acc : Accessor) (target : Target) (source : Nat) (s : State) : Host.Outcome State Fault Refusal :=
  .next (effIcuComplete acc target source s).settle

end Sys2Proof.Machine
end

