-- ==== Sys2Proof/Machine/Mgt.lean ====
section
/-!
DEFINITION. Sys2Proof/Machine/Mgt.lean: the management port: link and packets (R645 to R647), DTLS handshakes and sessions (R648 to
R650).
-/
namespace Sys2Proof.Machine
open Sys2Proof

/-- MGT runs: from boot step 7 on, outside Watch (R645). -/
def State.mgtLive (s : State) : Bool := s.canLive && s.wake.mgtUp

/-- MGT exchanges packets. -/
def State.mgtLink (s : State) : Bool := s.mgtLive && s.b F.MGT_STAT_LINK

/-- MGT_LINK_CHANGE (R645): MGT_STAT.LINK reads 1 only while the PHY reports 100BASE-TX full duplex. -/
def effMgtLinkChange (up : Bool) (s : State) : State :=
  if s.mgtLive && s.b F.MGT_STAT_LINK != up then ((s.pb F.MGT_STAT_LINK up).evt 0x2a 0) else s

/-- MGT_PACKET_DROP (R647). -/
def State.mgtDrop (s : State) : State := s.bump F.MGT_CNT_DROPPED
def effMgtPacketDrop (s : State) : State := if s.mgtLink then s.mgtDrop else s

/-- NEIGHBOUR_SOLICITATION (R647): one for an address of the 641 is answered; `target` says that it is. -/
def effNeighbourSolicitation (target : Bool) (s : State) : State :=
  if !s.mgtLink then s else if target then { s with mgtReply := .advertisement } else s.mgtDrop

/-- ECHO_REQUEST (R647): answered with the same data, within the datagram size limit (48 bytes of IPv6 and ICMPv6 header). -/
def effEchoRequest (data : List Byte) (s : State) : State :=
  if !s.mgtLink then s else if data.length + 48 ≤ 1280 then { s with mgtReply := .echo data } else s.mgtDrop

/-- "QPSK". -/
def pskLabel : List Byte := ascii [0x51, 0x50, 0x53, 0x4b]

/-- The slot that a PSK identity names (R649). -/
def pskSlot (identity : List Byte) : Option Nat :=
  if identity.length = 5 && identity.take 4 == pskLabel then some (leAt identity 4 1) else none

/-- A handshake is refused (R648, R649). -/
def State.mgtRefuse (s : State) : State := (({ s with mgtReply := .alert } : State).bump F.MGT_CNT_REFUSED).evt 0x2a 2

/-- A session is established: the lowest free one (R637, R648). -/
def State.mgtUpSession (s : State) (psk : Bool) (slot : Nat) : State :=
  match (List.range 4).find? (fun n => s.g (F.MGT_SESS_STATE n) == 0) with
  | none => s
  | some n =>
    let s1 := (((s.setWord (F.MGT_SESS_STATE n).key 0).p (F.MGT_SESS_STATE n) 2).pb (F.MGT_SESS_PSK n) psk).p (F.MGT_SESS_SLOT n) slot
    let s2 := s1.setMgt n { staging := [], last := none, unasked := none, keyNo := s1.freeCount }
    let s3 : State := { s2 with freeCount := s2.freeCount + 1 }
    (((s3.p F.MGT_STAT_SESSIONS (s3.g F.MGT_STAT_SESSIONS + 1)).evt 0x2a 1).statusTo (mgtChannel n))

/-- The credential of a handshake is checked under its slot, whose integrity the use of the slot checks (R551, R649). -/
def State.mgtCredential (s : State) (psk : Bool) (slot : Nat) (ok : Bool) : State :=
  let r := s.slotUse slot
  if r.1.isSome && ok then r.2.mgtUpSession psk slot else r.2.mgtRefuse

/-- CLIENT_HELLO (R648, R649). -/
def effClientHello (hello : Hello) (s : State) : State :=
  if !s.mgtLink || !s.keeperServes then s
  else if (List.range 4).all s.sessionUp then s.mgtRefuse
  else match hello with
    | .noCookie => { s with mgtReply := .cookie }
    | .badParameters => { s with mgtReply := .alert }
    | .certificate ok => (s.mgtCredential false 80 ok)
    | .psk identity binderOk =>
      match pskSlot identity with
      | none => s.mgtRefuse
      | some slot =>
        if slotClass slot = 1 && (s.g (F.KEY_POL_USES slot)).testBit 7 then (s.mgtCredential true slot binderOk)
        else s.mgtRefuse

/-- DTLS_KEY_UPDATE (R648): the session's traffic keys change; the record is an authenticated one. -/
def effDtlsKeyUpdate (n : Nat) (s : State) : State :=
  if s.mgtLink && s.keeperServes && s.sessionUp n then
    let s1 := (s.p (F.MGT_SESS_IDLE n) 0).setMgt n { s.mgtOf n with keyNo := s.freeCount }
    { s1 with freeCount := s1.freeCount + 1 }
  else s

/-- CLOSE_NOTIFY (R650): also any fatal alert. -/
def effCloseNotify (n : Nat) (s : State) : State := if s.mgtLive && s.sessionUp n then (s.sessionEnd n) else s

/-- SESSION_IDLE_TIMEOUT (R650): 60 s have passed without an authenticated record. -/
def effSessionIdleTimeout (n : Nat) (s : State) : State := if s.mgtLive && s.sessionUp n then (s.sessionEnd n) else s

end Sys2Proof.Machine
end

