-- ==== Sys2Proof/Machine/Debug.lean ====
section
/-!
DEFINITION. Sys2Proof/Machine/Debug.lean: the debug port: the TAP (R654 to R657), DPACC (R658 to R660), consent (R661 to R664), what each
scope unlocks (R665 to R667), halting and stepping (R668 to R674), the debug-port registers (R677).
-/
namespace Sys2Proof.Machine
open Sys2Proof

/-! ## The TAP -/

/-- The TAP's instruction register takes an opcode. -/
def State.tapIr (s : State) (op : Nat) : State := { s with dbg := { s.dbg with ir := op } }

/-- The die that holds the TAP runs: it is not in power-on reset, which resets it (R654). -/
def State.tapLive (s : State) : Bool := !s.wake.inReset

/-- EXTEST, CLAMP and HIGHZ are available (R655). -/
def State.extestOpen (s : State) : Bool := s.fuse.bscan && s.fuse.life.dead

/-- An instruction is shifted in; where it is not available the bypass register is selected. -/
def State.tapSelect (s : State) (op : Nat) (available : Bool) : State :=
  if s.tapLive then s.tapIr (if available then op else 0x1f) else s

/-- The identification register (R656). -/
def idcodeWord : Word := BitVec.ofNat 64 (0x641 * 2 ^ 12 + Config.manufacturer.toNat * 2 + 1)

def effTapReset (s : State) : State := if s.tapLive then s.tapIr 1 else s
def effExtest (s : State) : State := s.tapSelect 0 s.extestOpen
def effIdcode (s : State) : State := let s1 := s.tapSelect 1 true; if s.tapLive then { s1 with readOut := idcodeWord } else s1
def effSamplePreload (s : State) : State := s.tapSelect 2 s.fuse.bscan
def effClamp (s : State) : State := s.tapSelect 3 s.extestOpen
def effHighz (s : State) : State := s.tapSelect 4 s.extestOpen
def effDpacc (s : State) : State := s.tapSelect 0x10 s.fuse.dproto
def effBypass (s : State) : State := s.tapSelect 0x1f true

/-! ## DPACC -/

/-- DPACC is selected (R655, R658). -/
def State.dpSelected (s : State) : Bool := s.tapLive && s.dbg.ir == 0x10 && s.fuse.dproto

/-- Operations have an effect: not in Watch, not during a reset, not before boot step 3 completes (R660). -/
def State.dpLive (s : State) : Bool := s.canLive && decide (3 ≤ s.g F.RST_BOOT_STEP)

/-- The scope includes Observe, Observe-fine, Halt-permitted (R665). -/
def State.scopeObserve (s : State) : Bool := s.debug != .closed
def State.scopeFine (s : State) : Bool := s.debug == .observeFine || s.debug == .haltPermitted
def State.scopeHalt (s : State) : Bool := s.debug == .haltPermitted

/-- The core is halted. -/
def State.coreHalted (s : State) : Bool := s.b F.KPX_STAT_HALTED

/-- The result that the next Capture-DR loads. -/
def State.dpResult (s : State) (v : Word) : State := { s with dbg := { s.dbg with result := v } }

/-- DP_STATUS. -/
def State.dpStatus (s : State) : Nat :=
  s.dbg.cstate + s.dbg.cause * 2 ^ 8 + s.g F.MOD_CUR_DEBUG * 2 ^ 16 + b2n s.coreHalted * 2 ^ 19 + s.g F.DBG_STAT_PENDING * 2 ^ 20

/-- What a debug-port register reads, under the scope (R665, R671, R677); a write-only one and one outside the scope read zero. -/
def State.dpRead (s : State) (off : Nat) : Word :=
  let core := s.scopeHalt && s.coreHalted
  if off = 0 || off = 8 then
    (match s.dbg.nonce with | some n => BitVec.ofNat 64 (leAt n off 8) | none => 0)
  else if off = 0x48 then BitVec.ofNat 64 s.dpStatus
  else if off % 8 ≠ 0 then 0
  else if 0x200 ≤ off && off < 0x280 then (if core then s.xr ((off - 0x200) / 8) else 0)
  else if off = 0x280 then (if core then s.core.pc &&& ~~~(3 : Word) else 0)
  else if off = 0x288 then
    (if core then BitVec.ofNat 64 (s.g F.KPX_STATUS_PRIV + 2 * s.g F.KPX_STATUS_INTRAP + 4 * s.g F.KPX_STATUS_INTEN) else 0)
  else if 0x300 ≤ off && off < 0x320 then (if s.scopeHalt then s.dbg.bps.getD ((off - 0x300) / 8) 0 else 0)
  else 0

/-- The applet slot area that an address lies in: the slot, for data and for code (R659). -/
def slotArea (a : Nat) : Option Nat :=
  if 0x20020000 ≤ a && a < 0x20040000 then some ((a - 0x20020000) / 0x4000)
  else if 0x28040000 ≤ a && a < 0x28080000 then some ((a - 0x28040000) / 0x8000)
  else none

/-- A read of a slot is unlocked (R659). -/
def State.slotOpen (s : State) (slot : Nat) : Bool :=
  s.scopeHalt && s.coreHalted && s.tenancy != .molting && s.g (F.LVA_SLOT_TENANT slot) == s.tenantNo

/-- A read of a page by the debug port (R121, R659, R666): KPX and LVA under the finer scopes, the other Karpex-owned pages never. -/
def State.dpPageRead (s : State) (page off : Nat) : Word × State :=
  if off % 8 ≠ 0 then (0, s.lost (if pageAssigned page then page else 0) 53)
  else if page = 0x30 || page = 0x36 then (if s.scopeFine then s.readAs .keeper page off else (0, s.violation page))
  else s.readAs .debug page off

/-- The page that an address of DPACC names. -/
def dpPage (a : Nat) : Option (Nat × Nat) :=
  match pageOf 0x36 a with
  | some p => if p.1 ≤ 0x2b || 0x30 ≤ p.1 then some p else none
  | none => none

/-- DPACC_READ (R658, R659). What a read of a slot at an address that is no multiple of 8 returns the manual does not say: it is free. -/
def effDpaccRead (addr : BitVec 32) (s : State) : State :=
  let a := addr.toNat
  if !s.dpSelected then s
  else if !s.dpLive then s.dpResult 0
  else match dpPage a with
    | some p => let r := s.dpPageRead p.1 p.2; (r.2.dpResult r.1)
    | none =>
      if 0xf0000000 ≤ a && a < 0xf0001000 then s.dpResult (s.dpRead (a - 0xf0000000))
      else match slotArea a with
        | some slot =>
          if !s.slotOpen slot then s.dpResult 0
          else if a % 8 = 0 then s.dpResult (BitVec.ofNat 64 (s.loadLe a 8))
          else let d := s.draw; d.2.dpResult d.1
        | none => s.dpResult 0

/-! ## Consent (R661 to R664) -/

/-- A DP_CMD that has run well. -/
def State.dpDone (s : State) : State := { s with dbg := { s.dbg with cstate := 2 } }

/-- NEWNONCE (R661). -/
def State.dpNewnonce (s : State) : State :=
  let r := s.drbg 16
  (({ r.2 with dbg := { r.2.dbg with nonce := some r.1 } } : State).p F.DBG_STAT_NONCE 1).dpDone

/-- The token in DP_TOKEN. -/
def State.dpToken (s : State) : List Byte := (s.dbg.token.map wordBytes).flatten

/-- The check of R662 that fails first. -/
def State.tokenCause (s : State) (t : List Byte) (signatureOk : Bool) : Option Nat :=
  let scope := leAt t 7 1
  if leAt t 0 4 ≠ 0x47424451 || leAt t 4 2 ≠ 1 || scope < 1 || 3 < scope || !zeroAt t 0x24 28 then some 0x01
  else if BitVec.ofNat 64 (leAt t 8 8) != s.fuse.serial then some 0x02
  else if s.dbg.nonce != some (slice t 0x10 16) then some 0x03
  else if leAt t 6 1 ≠ s.tenantNo || s.tenancy == .molting || s.zeroized || s.bat.lock || s.life.dead then some 0x04
  else if !s.slotValid (slotConsent (leAt t 6 1)) || !signatureOk then some 0x05
  else if leAt t 0x20 4 ≤ s.ctr 3 then some 0x06
  else if scope = 3 && !s.b F.CAR_STAT_DZ then some 0x07
  else none

/-- A value asked of axis 9 shows in MOD_REQ9, which only reports (R73, R92). -/
def State.req9 (s : State) (v : Nat) : State := ((s.p (F.MOD_REQ_VALUE 9) v).p (F.MOD_REQ_ARG 9) 0).reqShow 9 0 0

/-- SUBMIT (R661 to R663): the nonce is consumed either way. MOD_REQ9 reports a refusal at once, with a cause that no rule names, and
the acceptance with the evaluation that enters the scope. -/
def State.dpSubmit (s : State) (signatureOk : Bool) : State :=
  let t := s.dpToken
  let s := s.req9 (leAt t 7 1)
  match s.tokenCause t signatureOk with
  | some c => (s.nonceClear.reqRefuseOpen 9).dbgRefuse c
  | none =>
    let d := (Config.sha384 t).toNat
    let s1 := (List.range 6).foldl (fun (x : State) i => x.setWord (F.DBG_TDIGEST_DIGEST i).key (BitVec.ofNat 64 (d / 2 ^ (64 * i)))) s.nonceClear
    let s2 := ((s1.p F.DBG_CONSENT_EXPIRY (leAt t 0x20 4)).p F.DBG_CONSENT_SCOPE (leAt t 7 1)).p F.DBG_CONSENT_TENANT (leAt t 6 1)
    (((s2.bump F.DBG_COUNT_ACCEPTED).evt 7 0).axisCall 9 (leAt t 7 1) 0x12 8).dpDone

/-- END (R664): the next evaluation closes the port. -/
def State.dpEnd (s : State) : State := if s.scopeObserve then ((s.req9 0).axisCall 9 0 0x01 8).dpDone else s

/-! ## Halting (R668 to R674) -/

/-- HALT: refused, deferred or accepted. -/
def State.dpHalt (s : State) : State :=
  match s.haltRefusal with
  | some c => s.dbgRefuse c
  | none =>
    if s.haltBlocked then ({ s.p F.DBG_STAT_PENDING 1 with dbg := { s.dbg with cstate := 1 } } : State)
    else (s.haltNow 1).dpDone

/-- CANCEL_HALT withdraws a deferred halt and records cause 0x15. -/
def State.dpCancel (s : State) : State :=
  if !s.scopeHalt then s
  else if s.b F.DBG_STAT_PENDING then
    ({ ((s.p F.DBG_STAT_PENDING 0).p F.DBG_LAST_CAUSE 0x15) with dbg := { s.dbg with cause := 0x15 } } : State).dpDone
  else s.dpDone

/-- RESUME: the next evaluation ends Halt. -/
def State.dpResume (s : State) : State :=
  if !s.scopeHalt then s else if s.coreHalted then (s.axisCall 0 3 0x01 8).dpDone else s.dpDone

/-- STEP (R672): one instruction at Applet privilege, with the Keeper work that it raises, then the core is halted again. Where that work
itself ends Halt, the core goes on. -/
def State.dpStep (s : State) (ecc : Ecc) : State :=
  if !(s.coreHalted && s.atApplet) then s.dbgRefuse 0x14
  else
    let s1 := ((s.p F.KPX_STAT_HALTED 0).p F.DBG_STAT_HALTED 0)
    let s2 := s1.stepOne ecc
    let s3 : State := { s2 with core := { s2.core with held := false, passed := true } }
    if s3.power == .halt || s.power != .halt then ((s3.p F.KPX_STAT_HALTED 1).p F.DBG_STAT_HALTED 1).dpDone else s3.haltEnd.dpDone

/-- DP_WIN (R667): the debug port's own window index. -/
def State.dpWindow (s : State) (page j : Nat) : State := if s.scopeObserve then s.setWindow .debug page (fld j 0 (if page = 0x1b then 10 else if page = 0x31 then 8 else 6)) else s

/-- A write of DP_CMD. -/
def State.dpCommand (s : State) (cmd : Nat) (signatureOk : Bool) (ecc : Ecc) : State :=
  match cmd with
  | 1 => s.dpNewnonce
  | 2 => s.dpSubmit signatureOk
  | 3 => s.dpHalt
  | 4 => s.dpResume
  | 5 => s.dpStep ecc
  | 6 => s.dpCancel
  | 7 => s.dpEnd
  | _ => s

/-- A write to a debug-port register within its scope, or no effect (R665, R671, R677). -/
def State.dpStore (s : State) (off : Nat) (v : Word) : State :=
  let x := v.toNat
  let core := s.scopeHalt && s.coreHalted && s.atApplet
  if off % 8 ≠ 0 then s
  else if off = 0x40 then let d := s.draw; d.2.dpCommand (fld x 0 4) (d.1.getLsbD 0) .ok
  else if 0x100 ≤ off && off < 0x1a0 then { s with dbg := { s.dbg with token := s.dbg.token.set ((off - 0x100) / 8) v } }
  else if 0x200 ≤ off && off < 0x280 then (if core then s.setX ((off - 0x200) / 8) v else s)
  else if off = 0x280 then (if core then { s with core := { s.core with pc := v &&& ~~~(3 : Word), passed := false } } else s)
  else if 0x300 ≤ off && off < 0x320 then
    (if s.scopeHalt then
      { s with dbg := { s.dbg with bps := s.dbg.bps.set ((off - 0x300) / 8) (v &&& 0x8000000000077ffc) } } else s)
  else if off = 0x380 then s.dpWindow (fld x 0 8) (fld x 16 10)
  else s

/-- DPACC_WRITE (R658, R659): the debug-port registers take writes; a write to a page is withheld and counted there, one to a slot is
withheld. What a Capture-DR shows after a write the manual does not say but for a withheld one: it is free. -/
def effDpaccWrite (addr : BitVec 32) (data : Word) (s : State) : State :=
  let a := addr.toNat
  if !s.dpSelected then s
  else if !s.dpLive then s.dpResult 0
  else match dpPage a with
    | some p =>
      ((if p.2 % 8 ≠ 0 then s.lost (if pageAssigned p.1 then p.1 else 0) 53 else s.pageStore .debug p.1 p.2 data).dpResult 0)
    | none =>
      if 0xf0000000 ≤ a && a < 0xf0001000 then
        let d := (s.dpStore (a - 0xf0000000) data).draw
        (d.2.dpResult d.1)
      else s.dpResult 0

/-- A DP_CMD command as a command of the block: it takes effect where DPACC operations do. -/
def State.dpCmdRow (s : State) (act : State → State) : State := if s.dpSelected && s.dpLive then act s else s

def effNewnonce (s : State) : State := s.dpCmdRow State.dpNewnonce
def effSubmit (signatureOk : Bool) (s : State) : State := s.dpCmdRow (fun x => x.dpSubmit signatureOk)
def effHaltCore (s : State) : State := s.dpCmdRow State.dpHalt
def effResumeCore (s : State) : State := s.dpCmdRow State.dpResume
def effStepCore (ecc : Ecc) (s : State) : State := s.dpCmdRow (fun x => x.dpStep ecc)
def effCancelHalt (s : State) : State := s.dpCmdRow State.dpCancel
def effEndConsent (s : State) : State := s.dpCmdRow State.dpEnd
def effDpWin (page : Byte) (index : BitVec 10) (s : State) : State := s.dpCmdRow (fun x => x.dpWindow page.toNat index.toNat)

/-- DEFERRED_HALT_TAKES_EFFECT (R668): nothing blocks a deferred halt any more. -/
def effDeferredHaltTakesEffect (s : State) : State :=
  if s.canLive && s.b F.DBG_STAT_PENDING then
    (match s.haltRefusal with
     | some c => (s.p F.DBG_STAT_PENDING 0).dbgRefuse c
     | none => if s.haltBlocked then s else (s.haltNow 2).dpDone)
  else s

end Sys2Proof.Machine
end

