-- ==== Sys2Proof/Machine/ExecPort.lean ====
section
/-!
DEFINITION. Sys2Proof/Machine/ExecPort.lean: what each command does: the management port and the debug port. Every command has an effect in every state, if only none.
-/
namespace Sys2Proof.Machine
open Sys2Proof

/-- MGT_LINK_CHANGE (R645). -/
def execMgtLinkChange (up : Bool) (s : State) : Host.Outcome State Fault Refusal :=
  .next (effMgtLinkChange up s).settle

/-- MGT_PACKET_DROP (R647). -/
def execMgtPacketDrop (s : State) : Host.Outcome State Fault Refusal :=
  .next (effMgtPacketDrop s).settle

/-- NEIGHBOUR_SOLICITATION (R647). -/
def execNeighbourSolicitation (target : Bool) (s : State) : Host.Outcome State Fault Refusal :=
  .next (effNeighbourSolicitation target s).settle

/-- ECHO_REQUEST (R647). -/
def execEchoRequest (data : List Byte) (s : State) : Host.Outcome State Fault Refusal :=
  .next (effEchoRequest data s).settle

/-- CLIENT_HELLO (R648). -/
def execClientHello (hello : Hello) (s : State) : Host.Outcome State Fault Refusal :=
  .next (effClientHello hello s).settle

/-- DTLS_KEY_UPDATE (R648). -/
def execDtlsKeyUpdate (session : Fin 4) (s : State) : Host.Outcome State Fault Refusal :=
  .next (effDtlsKeyUpdate session.val s).settle

/-- CLOSE_NOTIFY (R650). -/
def execCloseNotify (session : Fin 4) (s : State) : Host.Outcome State Fault Refusal :=
  .next (effCloseNotify session.val s).settle

/-- SESSION_IDLE_TIMEOUT (R650). -/
def execSessionIdleTimeout (session : Fin 4) (s : State) : Host.Outcome State Fault Refusal :=
  .next (effSessionIdleTimeout session.val s).settle

/-- TAP_RESET (R654). -/
def execTapReset (s : State) : Host.Outcome State Fault Refusal :=
  .next (effTapReset s).settle

/-- EXTEST (R655). -/
def execExtest (s : State) : Host.Outcome State Fault Refusal :=
  .next (effExtest s).settle

/-- IDCODE (R656). -/
def execIdcode (s : State) : Host.Outcome State Fault Refusal :=
  .next (effIdcode s).settle

/-- SAMPLE_PRELOAD (R655). -/
def execSamplePreload (s : State) : Host.Outcome State Fault Refusal :=
  .next (effSamplePreload s).settle

/-- CLAMP (R655). -/
def execClamp (s : State) : Host.Outcome State Fault Refusal :=
  .next (effClamp s).settle

/-- HIGHZ (R655). -/
def execHighz (s : State) : Host.Outcome State Fault Refusal :=
  .next (effHighz s).settle

/-- DPACC (R658). -/
def execDpacc (s : State) : Host.Outcome State Fault Refusal :=
  .next (effDpacc s).settle

/-- BYPASS (R655). -/
def execBypass (s : State) : Host.Outcome State Fault Refusal :=
  .next (effBypass s).settle

/-- DPACC_READ (R659). -/
def execDpaccRead (addr : BitVec 32) (s : State) : Host.Outcome State Fault Refusal :=
  .next (effDpaccRead addr s).settle

/-- DPACC_WRITE (R659). -/
def execDpaccWrite (addr : BitVec 32) (data : Word) (s : State) : Host.Outcome State Fault Refusal :=
  .next (effDpaccWrite addr data s).settle

/-- NEWNONCE (R661). -/
def execNewnonce (s : State) : Host.Outcome State Fault Refusal :=
  .next (effNewnonce s).settle

/-- SUBMIT (R662). -/
def execSubmit (signatureOk : Bool) (s : State) : Host.Outcome State Fault Refusal :=
  .next (effSubmit signatureOk s).settle

/-- HALT (R668). -/
def execHaltCore (s : State) : Host.Outcome State Fault Refusal :=
  .next (effHaltCore s).settle

/-- DEFERRED_HALT_TAKES_EFFECT (R668). -/
def execDeferredHaltTakesEffect (s : State) : Host.Outcome State Fault Refusal :=
  .next (effDeferredHaltTakesEffect s).settle

/-- RESUME (R674). -/
def execResumeCore (s : State) : Host.Outcome State Fault Refusal :=
  .next (effResumeCore s).settle

/-- STEP (R672). -/
def execStepCore (ecc : Ecc) (s : State) : Host.Outcome State Fault Refusal :=
  .next (effStepCore ecc s).settle

/-- CANCEL_HALT (R668). -/
def execCancelHalt (s : State) : Host.Outcome State Fault Refusal :=
  .next (effCancelHalt s).settle

/-- END (R664). -/
def execEndConsent (s : State) : Host.Outcome State Fault Refusal :=
  .next (effEndConsent s).settle

/-- DP_WIN (R667). -/
def execDpWin (page : Byte) (index : BitVec 10) (s : State) : Host.Outcome State Fault Refusal :=
  .next (effDpWin page index s).settle

/-- BREAKPOINT_MATCH (R673). -/
def execBreakpointMatch (s : State) : Host.Outcome State Fault Refusal :=
  .next (effBreakpointMatch s).settle

end Sys2Proof.Machine
end

