-- ==== Sys2Proof/Machine/ExecPower.lean ====
section
/-!
DEFINITION. Sys2Proof/Machine/ExecPower.lean: what each command does: power, resets, boot and wake. Every command has an effect in every state, if only none.
-/
namespace Sys2Proof.Machine
open Sys2Proof

/-- VISO_IN_LOSS (R30). -/
def execVisoInLoss (s : State) : Host.Outcome State Fault Refusal :=
  .next (effVisoInLoss s).settle

/-- VISO_IN_RETURN (R172). -/
def execVisoInReturn (env : FieldEnv) (s : State) : Host.Outcome State Fault Refusal :=
  .next (effVisoInReturn env s).settle

/-- VFLD_CHANGE (R30). -/
def execVfldChange (ok : Bool) (s : State) : Host.Outcome State Fault Refusal :=
  .next (effVfldChange ok s).settle

/-- POWER_ON_RESET (R170). -/
def execPowerOnReset (source : PorSource) (s : State) : Host.Outcome State Fault Refusal :=
  .next (effPowerOnReset source s).settle

/-- POWER_ON_RESET_END (R165). -/
def execPowerOnResetEnd (xmode : Bool) (s : State) : Host.Outcome State Fault Refusal :=
  .next (effPowerOnResetEnd xmode s).settle

/-- BATTERY_POWER_ON (R174). -/
def execBatteryPowerOn (s : State) : Host.Outcome State Fault Refusal :=
  .next (effBatteryPowerOn s).settle

/-- BATTERY_HOLD_ENTRY (R158). -/
def execBatteryHoldEntry (s : State) : Host.Outcome State Fault Refusal :=
  .next (effBatteryHoldEntry s).settle

/-- WARM_RESET (R171). -/
def execWarmReset (s : State) : Host.Outcome State Fault Refusal :=
  .next (effWarmReset s).settle

/-- PLL_LOCK (R154). -/
def execPllLock (env : BootEnv) (s : State) : Host.Outcome State Fault Refusal :=
  .next (effPllLock env s).settle

/-- PLL_LOCK_TIMEOUT (R154). -/
def execPllLockTimeout (s : State) : Host.Outcome State Fault Refusal :=
  .next (effPllLockTimeout s).settle

/-- PLL_LOCK_LOST (R154). -/
def execPllLockLost (s : State) : Host.Outcome State Fault Refusal :=
  .next (effPllLockLost s).settle

/-- VDDQ_LOSS (R167). -/
def execVddqLoss (s : State) : Host.Outcome State Fault Refusal :=
  .next (effVddqLoss s).settle

/-- VDDQ_RETURN (R167). -/
def execVddqReturn (training : Training) (s : State) : Host.Outcome State Fault Refusal :=
  .next (effVddqReturn training s).settle

/-- VPCIE_LOSS (R167). -/
def execVpcieLoss (s : State) : Host.Outcome State Fault Refusal :=
  .next (effVpcieLoss s).settle

/-- VPCIE_RETURN (R167). -/
def execVpcieReturn (s : State) : Host.Outcome State Fault Refusal :=
  .next (effVpcieReturn s).settle

/-- VBAT_LOW (R187). -/
def execVbatLow (s : State) : Host.Outcome State Fault Refusal :=
  .next (effVbatLow s).settle

/-- XIN_MEASUREMENT (R156). -/
def execXinMeasurement (dev : BitVec 16) (s : State) : Host.Outcome State Fault Refusal :=
  .next (effXinMeasurement dev s).settle

/-- PWR_MON_UPDATE (R187). -/
def execPwrMonUpdate (logicMw fieldMw : Nat) (s : State) : Host.Outcome State Fault Refusal :=
  .next (effPwrMonUpdate logicMw fieldMw s).settle

/-- PWR_MON_FINE_UPDATE (R187). -/
def execPwrMonFineUpdate (logicMw fieldMw : Nat) (s : State) : Host.Outcome State Fault Refusal :=
  .next (effPwrMonFineUpdate logicMw fieldMw s).settle

/-- PWR_LEVEL_UPDATE (R187). -/
def execPwrLevelUpdate (vbatMv monitorMv : Nat) (s : State) : Host.Outcome State Fault Refusal :=
  .next (effPwrLevelUpdate vbatMv monitorMv s).settle

/-- BOOT_FIELD_BRANCH (R184). -/
def execBootFieldBranch (env : FieldEnv) (s : State) : Host.Outcome State Fault Refusal :=
  .next (effBootFieldBranch env s).settle

/-- RST_CMD_WARM (R170). -/
def execRstCmdWarm (acc : Accessor) (s : State) : Host.Outcome State Fault Refusal :=
  .next (effRstCmdWarm acc s).settle

/-- RST_CMD_MOLT (R170). -/
def execRstCmdMolt (acc : Accessor) (s : State) : Host.Outcome State Fault Refusal :=
  .next (effRstCmdMolt acc s).settle

/-- RST_CMD_CARAPACE (R172). -/
def execRstCmdCarapace (acc : Accessor) (s : State) : Host.Outcome State Fault Refusal :=
  .next (effRstCmdCarapace acc s).settle

/-- PERSTN (R175). -/
def execPerstn (s : State) : Host.Outcome State Fault Refusal :=
  .next (effPerstn s).settle

/-- PCI_RESET (R620). -/
def execPciReset (d3hot : Bool) (s : State) : Host.Outcome State Fault Refusal :=
  .next (effPciReset d3hot s).settle

/-- FIREFLY_WAKE (R163). -/
def execFireflyWake (source : Nat) (s : State) : Host.Outcome State Fault Refusal :=
  .next (effFireflyWake source s).settle

/-- FFY_TIMER_EXPIRY (R249). -/
def execFfyTimerExpiry (s : State) : Host.Outcome State Fault Refusal :=
  .next (effFfyTimerExpiry s).settle

/-- CB_WAKE_PATTERN (R419). -/
def execCbWakePattern (bus : Fin 2) (s : State) : Host.Outcome State Fault Refusal :=
  .next (effCbWakePattern bus.val s).settle

end Sys2Proof.Machine
end

