-- ==== Sys2Proof/Machine/ExecService.lean ====
section
/-!
DEFINITION. Sys2Proof/Machine/ExecService.lean: what each command does: the services that applets call, applet entries and secure NVM. Every command has an effect in every state, if only none.
-/
namespace Sys2Proof.Machine
open Sys2Proof

/-- EXIT (R525). -/
def execExitEntry (s : State) : Host.Outcome State Fault Refusal :=
  .next (s.coreRow (.s 0 0x000) CoreEnv.plain).settle

/-- SEND (R525). -/
def execSend (s : State) : Host.Outcome State Fault Refusal :=
  .next (s.coreRow (.s 0 0x001) CoreEnv.plain).settle

/-- KEY_OPEN (R557). -/
def execKeyOpen (s : State) : Host.Outcome State Fault Refusal :=
  .next (s.coreRow (.s 0 0x010) CoreEnv.plain).settle

/-- KEY_CLOSE (R525). -/
def execKeyClose (s : State) : Host.Outcome State Fault Refusal :=
  .next (s.coreRow (.s 0 0x011) CoreEnv.plain).settle

/-- AES_GCM_SEAL (R525). -/
def execAesGcmSeal (s : State) : Host.Outcome State Fault Refusal :=
  .next (s.coreRow (.s 0 0x020) CoreEnv.plain).settle

/-- AES_GCM_OPEN (R525). -/
def execAesGcmOpen (tagOk : Bool) (s : State) : Host.Outcome State Fault Refusal :=
  .next (s.coreRow (.s 0 0x021) (CoreEnv.withTag tagOk)).settle

/-- AES_CMAC (R525). -/
def execAesCmac (s : State) : Host.Outcome State Fault Refusal :=
  .next (s.coreRow (.s 0 0x022) CoreEnv.plain).settle

/-- SHA384 (R525). -/
def execSha384 (s : State) : Host.Outcome State Fault Refusal :=
  .next (s.coreRow (.s 0 0x023) CoreEnv.plain).settle

/-- ECDSA_SIGN (R525). -/
def execEcdsaSign (s : State) : Host.Outcome State Fault Refusal :=
  .next (s.coreRow (.s 0 0x024) CoreEnv.plain).settle

/-- ECDSA_VERIFY (R525). -/
def execEcdsaVerify (s : State) : Host.Outcome State Fault Refusal :=
  .next (s.coreRow (.s 0 0x025) CoreEnv.plain).settle

/-- ECDH (R558). -/
def execEcdh (s : State) : Host.Outcome State Fault Refusal :=
  .next (s.coreRow (.s 0 0x026) CoreEnv.plain).settle

/-- HKDF (R558). -/
def execHkdf (s : State) : Host.Outcome State Fault Refusal :=
  .next (s.coreRow (.s 0 0x027) CoreEnv.plain).settle

/-- RANDOM (R525). -/
def execRandom (s : State) : Host.Outcome State Fault Refusal :=
  .next (s.coreRow (.s 0 0x028) CoreEnv.plain).settle

/-- CTR_READ (R525). -/
def execCtrRead (s : State) : Host.Outcome State Fault Refusal :=
  .next (s.coreRow (.s 0 0x030) CoreEnv.plain).settle

/-- CTR_INC (R559). -/
def execCtrInc (programOk : Bool) (s : State) : Host.Outcome State Fault Refusal :=
  .next (s.coreRow (.s 0 0x031) (CoreEnv.withProgram programOk)).settle

/-- JOB_KEY (R525). -/
def execJobKey (s : State) : Host.Outcome State Fault Refusal :=
  .next (s.coreRow (.s 0 0x040) CoreEnv.plain).settle

/-- ATT_FULL (R525). -/
def execAttFull (s : State) : Host.Outcome State Fault Refusal :=
  .next (s.coreRow (.s 0 0x050) CoreEnv.plain).settle

/-- ATT_CERT (R604). -/
def execAttCert (s : State) : Host.Outcome State Fault Refusal :=
  .next (s.coreRow (.s 0 0x051) CoreEnv.plain).settle

/-- LOG_EVENT (R525). -/
def execLogEvent (s : State) : Host.Outcome State Fault Refusal :=
  .next (s.coreRow (.s 0 0x060) CoreEnv.plain).settle

/-- MOD_REQ (R528). -/
def execModReq (s : State) : Host.Outcome State Fault Refusal :=
  .next (s.coreRow (.s 0 0x070) CoreEnv.plain).settle

/-- PAGE_WRITE (R529). -/
def execPageWrite (s : State) : Host.Outcome State Fault Refusal :=
  .next (s.coreRow (.s 0 0x071) CoreEnv.plain).settle

/-- TIME (R525). -/
def execTimeService (s : State) : Host.Outcome State Fault Refusal :=
  .next (s.coreRow (.s 0 0x080) CoreEnv.plain).settle

/-- APPLET_TICK (R520). -/
def execAppletTick (slot : Fin 8) (s : State) : Host.Outcome State Fault Refusal :=
  .next (effAppletTick slot.val s).settle

/-- APPLET_ENTRY (R521). -/
def execAppletEntry (s : State) : Host.Outcome State Fault Refusal :=
  .next (effAppletEntry s).settle

/-- ROMOFF (R501). -/
def execRomoff (acc : Accessor) (s : State) : Host.Outcome State Fault Refusal :=
  .next (effRomoff acc s).settle

/-- NVM_PROGRAM (R537). -/
def execNvmProgram (acc : Accessor) (s : State) : Host.Outcome State Fault Refusal :=
  .next (effNvmProgram acc s).settle

/-- NVM_ERASE (R537). -/
def execNvmErase (acc : Accessor) (s : State) : Host.Outcome State Fault Refusal :=
  .next (effNvmErase acc s).settle

/-- NVM_DONE (R537). -/
def execNvmDone (verified : Bool) (s : State) : Host.Outcome State Fault Refusal :=
  .next (effNvmDone verified s).settle

/-- LVA_LOAD (R532). -/
def execLvaLoad (acc : Accessor) (slot : Fin 8) (check : LoadCheck) (s : State) : Host.Outcome State Fault Refusal :=
  .next (effLvaLoad acc slot.val check s).settle

end Sys2Proof.Machine
end

