-- ==== Sys2Proof/Machine/Dispatch.lean ====
section
/-!
DEFINITION. Sys2Proof/Machine/Dispatch.lean: one arm per command.
-/
namespace Sys2Proof.Machine
open Sys2Proof

def exec (i : Instr) (s : State) : Host.Outcome State Fault Refusal :=
  match i with
  | .carapaceScan env => Sys2Proof.Machine.execCarapaceScan env s
  | .inboundFrame env => Sys2Proof.Machine.execInboundFrame env s
  | .silenceDrop => Sys2Proof.Machine.execSilenceDrop s
  | .barrierSilence => Sys2Proof.Machine.execBarrierSilence s
  | .watchFrame lanes raw vfldOk late => Sys2Proof.Machine.execWatchFrame lanes raw vfldOk late s
  | .fenceAuthFail => Sys2Proof.Machine.execFenceAuthFail s
  | .fenceRevoke => Sys2Proof.Machine.execFenceRevoke s
  | .visoInLoss => Sys2Proof.Machine.execVisoInLoss s
  | .visoInReturn env => Sys2Proof.Machine.execVisoInReturn env s
  | .vfldChange ok => Sys2Proof.Machine.execVfldChange ok s
  | .powerOnReset source => Sys2Proof.Machine.execPowerOnReset source s
  | .powerOnResetEnd xmode => Sys2Proof.Machine.execPowerOnResetEnd xmode s
  | .batteryPowerOn => Sys2Proof.Machine.execBatteryPowerOn s
  | .batteryHoldEntry => Sys2Proof.Machine.execBatteryHoldEntry s
  | .warmReset => Sys2Proof.Machine.execWarmReset s
  | .pllLock env => Sys2Proof.Machine.execPllLock env s
  | .pllLockTimeout => Sys2Proof.Machine.execPllLockTimeout s
  | .pllLockLost => Sys2Proof.Machine.execPllLockLost s
  | .vddqLoss => Sys2Proof.Machine.execVddqLoss s
  | .vddqReturn training => Sys2Proof.Machine.execVddqReturn training s
  | .vpcieLoss => Sys2Proof.Machine.execVpcieLoss s
  | .vpcieReturn => Sys2Proof.Machine.execVpcieReturn s
  | .vbatLow => Sys2Proof.Machine.execVbatLow s
  | .xinMeasurement dev => Sys2Proof.Machine.execXinMeasurement dev s
  | .pwrMonUpdate logicMw fieldMw => Sys2Proof.Machine.execPwrMonUpdate logicMw fieldMw s
  | .pwrMonFineUpdate logicMw fieldMw => Sys2Proof.Machine.execPwrMonFineUpdate logicMw fieldMw s
  | .pwrLevelUpdate vbatMv monitorMv => Sys2Proof.Machine.execPwrLevelUpdate vbatMv monitorMv s
  | .bootFieldBranch env => Sys2Proof.Machine.execBootFieldBranch env s
  | .rstCmdWarm acc => Sys2Proof.Machine.execRstCmdWarm acc s
  | .rstCmdMolt acc => Sys2Proof.Machine.execRstCmdMolt acc s
  | .rstCmdCarapace acc => Sys2Proof.Machine.execRstCmdCarapace acc s
  | .perstn => Sys2Proof.Machine.execPerstn s
  | .pciReset d3hot => Sys2Proof.Machine.execPciReset d3hot s
  | .modEvaluation => Sys2Proof.Machine.execModEvaluation s
  | .modReqnWrite acc index value arg => Sys2Proof.Machine.execModReqnWrite acc index value arg s
  | .modReqCancel acc index => Sys2Proof.Machine.execModReqCancel acc index s
  | .modeInputChange input => Sys2Proof.Machine.execModeInputChange input s
  | .secureDegradedParked => Sys2Proof.Machine.execSecureDegradedParked s
  | .fireflyWake source => Sys2Proof.Machine.execFireflyWake source s
  | .ffyTimerExpiry => Sys2Proof.Machine.execFfyTimerExpiry s
  | .cbWakePattern bus => Sys2Proof.Machine.execCbWakePattern bus s
  | .registerWrite acc page offset value => Sys2Proof.Machine.execRegisterWrite acc page offset value s
  | .unassignedPageAccess page => Sys2Proof.Machine.execUnassignedPageAccess page s
  | .narrowAccess acc page => Sys2Proof.Machine.execNarrowAccess acc page s
  | .evtClear acc page bits => Sys2Proof.Machine.execEvtClear acc page bits s
  | .evtenWrite acc page bits => Sys2Proof.Machine.execEvtenWrite acc page bits s
  | .trclrWrite acc page bits => Sys2Proof.Machine.execTrclrWrite acc page bits s
  | .lockArm acc page seq arm => Sys2Proof.Machine.execLockArm acc page seq arm s
  | .lockCancel acc page => Sys2Proof.Machine.execLockCancel acc page s
  | .lockedRegisterWrite acc page offset value => Sys2Proof.Machine.execLockedRegisterWrite acc page offset value s
  | .lockWindowExpiry page => Sys2Proof.Machine.execLockWindowExpiry page s
  | .sysAssetSet acc value => Sys2Proof.Machine.execSysAssetSet acc value s
  | .logClrClass acc classes upsets => Sys2Proof.Machine.execLogClrClass acc classes upsets s
  | .logClrSelf acc bits => Sys2Proof.Machine.execLogClrSelf acc bits s
  | .doorbellDrain => Sys2Proof.Machine.execDoorbellDrain s
  | .groupTimerExpiry group => Sys2Proof.Machine.execGroupTimerExpiry group s
  | .msixUnmask control => Sys2Proof.Machine.execMsixUnmask control s
  | .icuGcfgWrite acc group value => Sys2Proof.Machine.execIcuGcfgWrite acc group value s
  | .icuSrccfgWrite acc index value => Sys2Proof.Machine.execIcuSrccfgWrite acc index value s
  | .icuClaim acc target => Sys2Proof.Machine.execIcuClaim acc target s
  | .icuComplete acc target source => Sys2Proof.Machine.execIcuComplete acc target source s
  | .foutSet acc value mask => Sys2Proof.Machine.execFoutSet acc value mask s
  | .fcntReset acc units => Sys2Proof.Machine.execFcntReset acc units s
  | .foutUninhibit acc channels => Sys2Proof.Machine.execFoutUninhibit acc channels s
  | .foutSweepStart acc mask onTest allOff settle => Sys2Proof.Machine.execFoutSweepStart acc mask onTest allOff settle s
  | .foutSweepAbort acc => Sys2Proof.Machine.execFoutSweepAbort acc s
  | .sweepSettleExpiry => Sys2Proof.Machine.execSweepSettleExpiry s
  | .fldGatherStart acc count => Sys2Proof.Machine.execFldGatherStart acc count s
  | .pulsedSample raw => Sys2Proof.Machine.execPulsedSample raw s
  | .inputFilterChange input => Sys2Proof.Machine.execInputFilterChange input s
  | .periodOverflow unit => Sys2Proof.Machine.execPeriodOverflow unit s
  | .frequencyGateEnd unit => Sys2Proof.Machine.execFrequencyGateEnd unit s
  | .thermalShutdown channel => Sys2Proof.Machine.execThermalShutdown channel s
  | .currentLimit channel => Sys2Proof.Machine.execCurrentLimit channel s
  | .outputFault channel => Sys2Proof.Machine.execOutputFault channel s
  | .iteTripclr acc => Sys2Proof.Machine.execIteTripclr acc s
  | .iteStore acc check => Sys2Proof.Machine.execIteStore acc check s
  | .iteStoreAndLoad acc check => Sys2Proof.Machine.execIteStoreAndLoad acc check s
  | .tableLoadDone => Sys2Proof.Machine.execTableLoadDone s
  | .cmgArm acc base => Sys2Proof.Machine.execCmgArm acc base s
  | .carUnitScaleWrite acc scale value => Sys2Proof.Machine.execCarUnitScaleWrite acc scale value s
  | .doorStatusFrame door payload => Sys2Proof.Machine.execDoorStatusFrame door payload s
  | .dwellExpiry door => Sys2Proof.Machine.execDwellExpiry door s
  | .lockMsExpiry door => Sys2Proof.Machine.execLockMsExpiry door s
  | .nudgeHoldExpiry door => Sys2Proof.Machine.execNudgeHoldExpiry door s
  | .dorUnhold acc door => Sys2Proof.Machine.execDorUnhold acc door s
  | .callFrame bus job payload => Sys2Proof.Machine.execCallFrame bus job payload s
  | .callCancel bus job payload => Sys2Proof.Machine.execCallCancel bus job payload s
  | .dsePass overtaken => Sys2Proof.Machine.execDsePass overtaken s
  | .driveStatusFrame payload => Sys2Proof.Machine.execDriveStatusFrame payload s
  | .ackRetry => Sys2Proof.Machine.execAckRetry s
  | .pkgLoad acc => Sys2Proof.Machine.execPkgLoad acc s
  | .pkgLoadEnd env => Sys2Proof.Machine.execPkgLoadEnd env s
  | .dsePerfUpdate => Sys2Proof.Machine.execDsePerfUpdate s
  | .dseTodAdvance => Sys2Proof.Machine.execDseTodAdvance s
  | .canFrameReceive bus received => Sys2Proof.Machine.execCanFrameReceive bus received s
  | .rxpop acc bus => Sys2Proof.Machine.execRxpop acc bus s
  | .txgoBuffer acc bus dest => Sys2Proof.Machine.execTxgoBuffer acc bus dest s
  | .txgoQueue acc bus => Sys2Proof.Machine.execTxgoQueue acc bus s
  | .txjob acc bus job => Sys2Proof.Machine.execTxjob acc bus job s
  | .abortHead acc bus => Sys2Proof.Machine.execAbortHead acc bus s
  | .flush acc bus => Sys2Proof.Machine.execFlush acc bus s
  | .bufabort acc bus buffers => Sys2Proof.Machine.execBufabort acc bus buffers s
  | .canTransmitAttempt bus attempt => Sys2Proof.Machine.execCanTransmitAttempt bus attempt s
  | .busOffRecovery bus => Sys2Proof.Machine.execBusOffRecovery bus s
  | .keeperRecoveryRequest bus => Sys2Proof.Machine.execKeeperRecoveryRequest bus s
  | .rateSearchDwell bus => Sys2Proof.Machine.execRateSearchDwell bus s
  | .bitTimingWrite acc bus data value => Sys2Proof.Machine.execBitTimingWrite acc bus data value s
  | .jobHeartbeat bus job => Sys2Proof.Machine.execJobHeartbeat bus job s
  | .jobSupervisionTimeout bus job => Sys2Proof.Machine.execJobSupervisionTimeout bus job s
  | .cycleBoundary => Sys2Proof.Machine.execCycleBoundary s
  | .referenceLateDrop bus => Sys2Proof.Machine.execReferenceLateDrop bus s
  | .referenceReceive lengthOk macOk payload fresh offset => Sys2Proof.Machine.execReferenceReceive lengthOk macOk payload fresh offset s
  | .referenceMiss => Sys2Proof.Machine.execReferenceMiss s
  | .wakeSearchEnd => Sys2Proof.Machine.execWakeSearchEnd s
  | .fixtureStatusFrame bus job payload => Sys2Proof.Machine.execFixtureStatusFrame bus job payload s
  | .digestExchange => Sys2Proof.Machine.execDigestExchange s
  | .digestReceive station macOk fresh payload => Sys2Proof.Machine.execDigestReceive station macOk fresh payload s
  | .stationAbsent station => Sys2Proof.Machine.execStationAbsent station s
  | .bidFrame station macOk fresh payload => Sys2Proof.Machine.execBidFrame station macOk fresh payload s
  | .assignmentFrame station macOk fresh payload => Sys2Proof.Machine.execAssignmentFrame station macOk fresh payload s
  | .interrupt => Sys2Proof.Machine.execInterrupt s
  | .addOp rd rs1 rs2 => Sys2Proof.Machine.execAddOp rd rs1 rs2 s
  | .subOp rd rs1 rs2 => Sys2Proof.Machine.execSubOp rd rs1 rs2 s
  | .andOp rd rs1 rs2 => Sys2Proof.Machine.execAndOp rd rs1 rs2 s
  | .orOp rd rs1 rs2 => Sys2Proof.Machine.execOrOp rd rs1 rs2 s
  | .xorOp rd rs1 rs2 => Sys2Proof.Machine.execXorOp rd rs1 rs2 s
  | .shl rd rs1 rs2 => Sys2Proof.Machine.execShl rd rs1 rs2 s
  | .shr rd rs1 rs2 => Sys2Proof.Machine.execShr rd rs1 rs2 s
  | .shra rd rs1 rs2 => Sys2Proof.Machine.execShra rd rs1 rs2 s
  | .clt rd rs1 rs2 => Sys2Proof.Machine.execClt rd rs1 rs2 s
  | .cltu rd rs1 rs2 => Sys2Proof.Machine.execCltu rd rs1 rs2 s
  | .mulOp rd rs1 rs2 => Sys2Proof.Machine.execMulOp rd rs1 rs2 s
  | .mulhiu rd rs1 rs2 => Sys2Proof.Machine.execMulhiu rd rs1 rs2 s
  | .mulhis rd rs1 rs2 => Sys2Proof.Machine.execMulhis rd rs1 rs2 s
  | .quou rd rs1 rs2 => Sys2Proof.Machine.execQuou rd rs1 rs2 s
  | .modu rd rs1 rs2 => Sys2Proof.Machine.execModu rd rs1 rs2 s
  | .quos rd rs1 rs2 => Sys2Proof.Machine.execQuos rd rs1 rs2 s
  | .mods rd rs1 rs2 => Sys2Proof.Machine.execMods rd rs1 rs2 s
  | .selnz rd rs1 rs2 => Sys2Proof.Machine.execSelnz rd rs1 rs2 s
  | .rotr rd rs1 rs2 => Sys2Proof.Machine.execRotr rd rs1 rs2 s
  | .lzc rd rs1 => Sys2Proof.Machine.execLzc rd rs1 s
  | .ones rd rs1 => Sys2Proof.Machine.execOnes rd rs1 s
  | .addk rd rs1 imm => Sys2Proof.Machine.execAddk rd rs1 imm s
  | .andk rd rs1 imm => Sys2Proof.Machine.execAndk rd rs1 imm s
  | .ork rd rs1 imm => Sys2Proof.Machine.execOrk rd rs1 imm s
  | .xork rd rs1 imm => Sys2Proof.Machine.execXork rd rs1 imm s
  | .shlk rd rs1 amount => Sys2Proof.Machine.execShlk rd rs1 amount s
  | .shrk rd rs1 amount => Sys2Proof.Machine.execShrk rd rs1 amount s
  | .shrak rd rs1 amount => Sys2Proof.Machine.execShrak rd rs1 amount s
  | .cltk rd rs1 imm => Sys2Proof.Machine.execCltk rd rs1 imm s
  | .cltuk rd rs1 imm => Sys2Proof.Machine.execCltuk rd rs1 imm s
  | .highOp rd imm => Sys2Proof.Machine.execHighOp rd imm s
  | .pcrel rd imm => Sys2Proof.Machine.execPcrel rd imm s
  | .callOp rd imm => Sys2Proof.Machine.execCallOp rd imm s
  | .jumpr rd rs1 imm => Sys2Proof.Machine.execJumpr rd rs1 imm s
  | .ld64 rt rs1 off ecc => Sys2Proof.Machine.execLd64 rt rs1 off ecc s
  | .ld32s rt rs1 off ecc => Sys2Proof.Machine.execLd32s rt rs1 off ecc s
  | .ld32u rt rs1 off ecc => Sys2Proof.Machine.execLd32u rt rs1 off ecc s
  | .ld16s rt rs1 off ecc => Sys2Proof.Machine.execLd16s rt rs1 off ecc s
  | .ld16u rt rs1 off ecc => Sys2Proof.Machine.execLd16u rt rs1 off ecc s
  | .ld8s rt rs1 off ecc => Sys2Proof.Machine.execLd8s rt rs1 off ecc s
  | .ld8u rt rs1 off ecc => Sys2Proof.Machine.execLd8u rt rs1 off ecc s
  | .st64 rt rs1 off ecc => Sys2Proof.Machine.execSt64 rt rs1 off ecc s
  | .st32 rt rs1 off ecc => Sys2Proof.Machine.execSt32 rt rs1 off ecc s
  | .st16 rt rs1 off ecc => Sys2Proof.Machine.execSt16 rt rs1 off ecc s
  | .st8 rt rs1 off ecc => Sys2Proof.Machine.execSt8 rt rs1 off ecc s
  | .ifeq rs1 rs2 off => Sys2Proof.Machine.execIfeq rs1 rs2 off s
  | .ifne rs1 rs2 off => Sys2Proof.Machine.execIfne rs1 rs2 off s
  | .iflt rs1 rs2 off => Sys2Proof.Machine.execIflt rs1 rs2 off s
  | .ifge rs1 rs2 off => Sys2Proof.Machine.execIfge rs1 rs2 off s
  | .ifltu rs1 rs2 off => Sys2Proof.Machine.execIfltu rs1 rs2 off s
  | .ifgeu rs1 rs2 off => Sys2Proof.Machine.execIfgeu rs1 rs2 off s
  | .dstop code => Sys2Proof.Machine.execDstop code s
  | .tret code => Sys2Proof.Machine.execTret code s
  | .idle => Sys2Proof.Machine.execIdle s
  | .idleResume => Sys2Proof.Machine.execIdleResume s
  | .exitEntry => Sys2Proof.Machine.execExitEntry s
  | .send => Sys2Proof.Machine.execSend s
  | .keyOpen => Sys2Proof.Machine.execKeyOpen s
  | .keyClose => Sys2Proof.Machine.execKeyClose s
  | .aesGcmSeal => Sys2Proof.Machine.execAesGcmSeal s
  | .aesGcmOpen tagOk => Sys2Proof.Machine.execAesGcmOpen tagOk s
  | .aesCmac => Sys2Proof.Machine.execAesCmac s
  | .sha384 => Sys2Proof.Machine.execSha384 s
  | .ecdsaSign => Sys2Proof.Machine.execEcdsaSign s
  | .ecdsaVerify => Sys2Proof.Machine.execEcdsaVerify s
  | .ecdh => Sys2Proof.Machine.execEcdh s
  | .hkdf => Sys2Proof.Machine.execHkdf s
  | .random => Sys2Proof.Machine.execRandom s
  | .ctrRead => Sys2Proof.Machine.execCtrRead s
  | .ctrInc programOk => Sys2Proof.Machine.execCtrInc programOk s
  | .jobKey => Sys2Proof.Machine.execJobKey s
  | .attFull => Sys2Proof.Machine.execAttFull s
  | .attCert => Sys2Proof.Machine.execAttCert s
  | .logEvent => Sys2Proof.Machine.execLogEvent s
  | .modReq => Sys2Proof.Machine.execModReq s
  | .pageWrite => Sys2Proof.Machine.execPageWrite s
  | .timeService => Sys2Proof.Machine.execTimeService s
  | .appletTick slot => Sys2Proof.Machine.execAppletTick slot s
  | .appletEntry => Sys2Proof.Machine.execAppletEntry s
  | .romoff acc => Sys2Proof.Machine.execRomoff acc s
  | .nvmProgram acc => Sys2Proof.Machine.execNvmProgram acc s
  | .nvmErase acc => Sys2Proof.Machine.execNvmErase acc s
  | .nvmDone verified => Sys2Proof.Machine.execNvmDone verified s
  | .lvaLoad acc slot check => Sys2Proof.Machine.execLvaLoad acc slot check s
  | .generateSlot acc slot arg check => Sys2Proof.Machine.execGenerateSlot acc slot arg check s
  | .importSlot acc slot arg check => Sys2Proof.Machine.execImportSlot acc slot arg check s
  | .deleteSlot acc slot arg check => Sys2Proof.Machine.execDeleteSlot acc slot arg check s
  | .checkSlot acc slot arg => Sys2Proof.Machine.execCheckSlot acc slot arg s
  | .deliver acc slot arg => Sys2Proof.Machine.execDeliver acc slot arg s
  | .newroot acc slot arg check => Sys2Proof.Machine.execNewroot acc slot arg check s
  | .lifecycle acc slot arg check => Sys2Proof.Machine.execLifecycle acc slot arg check s
  | .keeperFloor acc slot arg check => Sys2Proof.Machine.execKeeperFloor acc slot arg check s
  | .tmpFloor acc slot arg check => Sys2Proof.Machine.execTmpFloor acc slot arg check s
  | .commitRoot acc slot arg => Sys2Proof.Machine.execCommitRoot acc slot arg s
  | .incCounter acc index programOk => Sys2Proof.Machine.execIncCounter acc index programOk s
  | .raiseCounter acc index value programOk => Sys2Proof.Machine.execRaiseCounter acc index value programOk s
  | .tamperAnomaly sensors => Sys2Proof.Machine.execTamperAnomaly sensors s
  | .tmpLevelWrite acc value => Sys2Proof.Machine.execTmpLevelWrite acc value s
  | .tmpClrLatch acc => Sys2Proof.Machine.execTmpClrLatch acc s
  | .lockLift acc => Sys2Proof.Machine.execLockLift acc s
  | .tmpClrCounts acc => Sys2Proof.Machine.execTmpClrCounts acc s
  | .consentClockTick => Sys2Proof.Machine.execConsentClockTick s
  | .tenMolt acc signatureOk => Sys2Proof.Machine.execTenMolt acc signatureOk s
  | .moltOrderRecheck signatureOk => Sys2Proof.Machine.execMoltOrderRecheck signatureOk s
  | .moltPrepare => Sys2Proof.Machine.execMoltPrepare s
  | .scrubDone => Sys2Proof.Machine.execScrubDone s
  | .moltFinish appletsOk => Sys2Proof.Machine.execMoltFinish appletsOk s
  | .tenCfgload acc signatureOk => Sys2Proof.Machine.execTenCfgload acc signatureOk s
  | .attMeasHash acc entry version => Sys2Proof.Machine.execAttMeasHash acc entry version s
  | .attMeasCopyCmg acc entry version => Sys2Proof.Machine.execAttMeasCopyCmg acc entry version s
  | .attMeasCopyPkg acc entry version => Sys2Proof.Machine.execAttMeasCopyPkg acc entry version s
  | .attMeasClear acc entry version => Sys2Proof.Machine.execAttMeasClear acc entry version s
  | .emcKeyLoad acc => Sys2Proof.Machine.execEmcKeyLoad acc s
  | .emcKeyClear acc => Sys2Proof.Machine.execEmcKeyClear acc s
  | .emcScrubStart acc => Sys2Proof.Machine.execEmcScrubStart acc s
  | .emcRefresh => Sys2Proof.Machine.execEmcRefresh s
  | .pcieLinkUp speed => Sys2Proof.Machine.execPcieLinkUp speed s
  | .pcieLinkDown => Sys2Proof.Machine.execPcieLinkDown s
  | .busMasterEnable on => Sys2Proof.Machine.execBusMasterEnable on s
  | .doeDiscovery read index => Sys2Proof.Machine.execDoeDiscovery read index s
  | .doeAbort => Sys2Proof.Machine.execDoeAbort s
  | .getMeasurements read block nonce => Sys2Proof.Machine.execGetMeasurements read block nonce s
  | .keyExchange read requestId finishOk => Sys2Proof.Machine.execKeyExchange read requestId finishOk s
  | .keyUpdate read => Sys2Proof.Machine.execKeyUpdate read s
  | .vendorDefinedRequest read payload => Sys2Proof.Machine.execVendorDefinedRequest read payload s
  | .recoveryObject offset flags data check version => Sys2Proof.Machine.execRecoveryObject offset flags data check version s
  | .hbxH2dTailWrite acc index => Sys2Proof.Machine.execHbxH2dTailWrite acc index s
  | .hbxD2hTailWrite acc index => Sys2Proof.Machine.execHbxD2hTailWrite acc index s
  | .h2dMessage entry => Sys2Proof.Machine.execH2dMessage entry s
  | .d2hMessage buffer capacity => Sys2Proof.Machine.execD2hMessage buffer capacity s
  | .hbxClaim acc => Sys2Proof.Machine.execHbxClaim acc s
  | .hbxComplete acc source => Sys2Proof.Machine.execHbxComplete acc source s
  | .status cmd => Sys2Proof.Machine.execStatus cmd s
  | .attestFull cmd => Sys2Proof.Machine.execAttestFull cmd s
  | .attestCert cmd => Sys2Proof.Machine.execAttestCert cmd s
  | .moltReport cmd => Sys2Proof.Machine.execMoltReport cmd s
  | .modRequest cmd => Sys2Proof.Machine.execModRequest cmd s
  | .regRead cmd => Sys2Proof.Machine.execRegRead cmd s
  | .regWrite cmd => Sys2Proof.Machine.execRegWrite cmd s
  | .appletMsg cmd => Sys2Proof.Machine.execAppletMsg cmd s
  | .appletLoad cmd check => Sys2Proof.Machine.execAppletLoad cmd check s
  | .appletStop cmd => Sys2Proof.Machine.execAppletStop cmd s
  | .tenantConfig cmd signatureOk => Sys2Proof.Machine.execTenantConfig cmd signatureOk s
  | .moltOrder cmd signatureOk => Sys2Proof.Machine.execMoltOrder cmd signatureOk s
  | .table cmd check => Sys2Proof.Machine.execTable cmd check s
  | .pkgRelease cmd signatureOk tagOk => Sys2Proof.Machine.execPkgRelease cmd signatureOk tagOk s
  | .pkgImage cmd => Sys2Proof.Machine.execPkgImage cmd s
  | .keyCommand cmd check => Sys2Proof.Machine.execKeyCommand cmd check s
  | .tamper cmd => Sys2Proof.Machine.execTamper cmd s
  | .lastresortClear cmd => Sys2Proof.Machine.execLastresortClear cmd s
  | .troubleClear cmd => Sys2Proof.Machine.execTroubleClear cmd s
  | .appletResv cmd => Sys2Proof.Machine.execAppletResv cmd s
  | .reset cmd => Sys2Proof.Machine.execReset cmd s
  | .mgtConfig cmd => Sys2Proof.Machine.execMgtConfig cmd s
  | .upload cmd => Sys2Proof.Machine.execUpload cmd s
  | .mgtLinkChange up => Sys2Proof.Machine.execMgtLinkChange up s
  | .mgtPacketDrop => Sys2Proof.Machine.execMgtPacketDrop s
  | .neighbourSolicitation target => Sys2Proof.Machine.execNeighbourSolicitation target s
  | .echoRequest data => Sys2Proof.Machine.execEchoRequest data s
  | .clientHello hello => Sys2Proof.Machine.execClientHello hello s
  | .dtlsKeyUpdate session => Sys2Proof.Machine.execDtlsKeyUpdate session s
  | .closeNotify session => Sys2Proof.Machine.execCloseNotify session s
  | .sessionIdleTimeout session => Sys2Proof.Machine.execSessionIdleTimeout session s
  | .tapReset => Sys2Proof.Machine.execTapReset s
  | .extest => Sys2Proof.Machine.execExtest s
  | .idcode => Sys2Proof.Machine.execIdcode s
  | .samplePreload => Sys2Proof.Machine.execSamplePreload s
  | .clamp => Sys2Proof.Machine.execClamp s
  | .highz => Sys2Proof.Machine.execHighz s
  | .dpacc => Sys2Proof.Machine.execDpacc s
  | .bypass => Sys2Proof.Machine.execBypass s
  | .dpaccRead addr => Sys2Proof.Machine.execDpaccRead addr s
  | .dpaccWrite addr data => Sys2Proof.Machine.execDpaccWrite addr data s
  | .newnonce => Sys2Proof.Machine.execNewnonce s
  | .submit signatureOk => Sys2Proof.Machine.execSubmit signatureOk s
  | .haltCore => Sys2Proof.Machine.execHaltCore s
  | .deferredHaltTakesEffect => Sys2Proof.Machine.execDeferredHaltTakesEffect s
  | .resumeCore => Sys2Proof.Machine.execResumeCore s
  | .stepCore ecc => Sys2Proof.Machine.execStepCore ecc s
  | .cancelHalt => Sys2Proof.Machine.execCancelHalt s
  | .endConsent => Sys2Proof.Machine.execEndConsent s
  | .dpWin page index => Sys2Proof.Machine.execDpWin page index s
  | .breakpointMatch => Sys2Proof.Machine.execBreakpointMatch s
  | .illegal word => Sys2Proof.Machine.execIllegal word s
  | .spdmEndSession read => Sys2Proof.Machine.execSpdmEndSession read s
  | .getCertificate read slot => Sys2Proof.Machine.execGetCertificate read slot s
  | .challenge read slot nonce => Sys2Proof.Machine.execChallenge read slot nonce s

end Sys2Proof.Machine
end

