-- ==== Sys2Proof/Machine/Tick.lean ====
section
/-!
DEFINITION. Sys2Proof/Machine/Tick.lean: what one microsecond of time does to the registers that show time (log entry 1): CLK_UPTIME, PWR_BTIME,
LOCK.REMAIN, ICU_GSTATg.ELAPSED, TSY_COUNT.PHASE, KPX_CYCLE, JOB_STAT.AGE, GRP_PEERn.AGE and MGT_SESSn.IDLE. What falls due at a
time is a command of its own.
-/
namespace Sys2Proof.Machine
open Sys2Proof

/-- 200 PCLK cycles of an armed window pass; the last cycle stays until LOCK_WINDOW_EXPIRY (R137, R140). -/
def State.lockTick (s : State) (page : Nat) : State :=
  if s.b (lockArmed page) then s.p (lockRemain page) (max 1 (s.g (lockRemain page) - 200)) else s

/-- A running group's timer advances, up to its TIME (R228). -/
def State.groupTick (s : State) (g : Nat) : State :=
  if s.b (F.ICU_GSTAT_RUNNING g) then s.p (F.ICU_GSTAT_ELAPSED g) (min (s.groupTime g) (s.g (F.ICU_GSTAT_ELAPSED g) + 1)) else s

/-- The pages with locked sequences (R136). -/
def lockPages : List Nat := [0x00, 0x03, 0x12, 0x14, 0x15, 0x1c, 0x31, 0x34, 0x35, 0x36]

/-- A microsecond while PCLK runs. -/
def State.clockTick (s : State) : State :=
  let s1 := lockPages.foldl State.lockTick s
  let s2 := (List.range 16).foldl State.groupTick s1
  (s2.p F.TSY_COUNT_PHASE (s2.g F.TSY_COUNT_PHASE + 1)).p F.KPX_CYCLE_COUNT (s2.g F.KPX_CYCLE_COUNT + 400)

/-- A millisecond while PCLK runs (R455). -/
def State.milliTick (s : State) : State :=
  [0, 1].foldl (fun (x : State) n => (List.range (jobCount n)).foldl (fun (y : State) j => y.bump (F.CB_JOB_STAT_AGE n j)) x) s

/-- Ten milliseconds (R492). -/
def State.centiTick (s : State) : State := (List.range 8).foldl (fun (x : State) i => x.bump (F.GRP_PEER_AGE i)) s

/-- A second of the management sessions (R653). -/
def State.sessionTick (s : State) : State :=
  (List.range 4).foldl (fun (x : State) n => if x.sessionUp n then x.bump (F.MGT_SESS_IDLE n) else x) s

/-- One microsecond in which nothing is commanded; a boot that runs takes its next step (R178; log entry 94). The registers count in which power states: CLK_UPTIME in Run, Halt and Watch (R186), PWR_BTIME always (R187), the rest while PCLK
runs. -/
def State.idleTick (s : State) : State :=
  let now := s.tick + 1
  let live := s.canLive
  let s0 : State := ({ (if live && s.wake.applets.isSome then s.bootBranch.settle else s) with tick := now % 1000000 } : State)
  let s1 := if s.wake.inReset then s0 else s0.wrapInc F.CLK_UPTIME_US
  let s2 := if live then s1.clockTick else s1
  let s3 := if live && now % 1000 = 0 then s2.milliTick else s2
  let s4 := if live && now % 10000 = 0 then s3.centiTick else s3
  if now % 1000000 = 0 then (if live then s4.sessionTick else s4).wrapInc F.PWR_BTIME_S else s4

end Sys2Proof.Machine
end

