-- ==== Sys2Proof/Machine/Pads.lean ====
section
/-!
DEFINITION. Sys2Proof/Machine/Pads.lean: what the logic-side and field-side output pads carry, as functions of the state (R157, R177): in a
reset of the logic die, after it, in Watch. The pads that one bit of State holds are CBn_STB (CBn_STAT.STB), DDR_RESETN and RSTOUTN (Wake)
and FO00 to FO15 (the Carapace's applied states).
-/
namespace Sys2Proof.Machine
open Sys2Proof

/-- What an output pad carries: a level, a clock of 50 MHz, electrical idle, high impedance, or what its block drives. -/
inductive Pad where
  | low | high | clock | idle | highZ | block
  deriving DecidableEq, Repr

/-- MGT_REFCLK (R157): 50 MHz while the PLL is locked, low in reset and in Watch. -/
def State.padMgtRefclk (s : State) : Pad := if s.canLive then .clock else .low

/-- CBn_TX: recessive in reset and in Watch, once a frame that was in transmission at entry is complete (R161), and recessive until
the controller leaves its reset mode, which never drives the bus; Internal Loop-back drives no pad (R65). -/
def State.padCanTx (s : State) (n : Nat) : Pad :=
  let sends := s.bus n == .normal || s.bus n == .externalLoop
  if s.wake.inReset || !sends then .high
  else if s.wake.watch then (if (s.can n).inTx.isSome then .block else .high)
  else if s.canLive then .block else .high

/-- CBn_STB: high in reset and in Watch. -/
def State.padCanStb (s : State) (n : Nat) : Pad :=
  if s.wake.inReset || s.wake.watch || !s.b F.CLK_STAT_PLL_LOCK || s.b (F.CB_STAT_STB n) then .high else .low

/-- The PCIe transmit lanes: they train from the end of boot step 4 (R618). -/
def State.padPcie (s : State) : Pad := if s.pcieLive then .block else .idle

/-- PHY_RSTN and the RMII outputs TXEN and TXD: low until Keeper enables MGT. -/
def State.padPhyRstn (s : State) : Pad := if s.canLive && s.wake.mgtUp then .high else .low
def State.padRmii (s : State) : Pad := if s.canLive && s.wake.mgtUp && s.b F.MGT_STAT_LINK then .block else .low

/-- DDR_RESETN: high from the start of EMC training. DDR_CKE: as EMC drives it; low in reset and in self-refresh. -/
def State.padDdrResetn (s : State) : Pad := if s.wake.ddrResetN && !s.wake.inReset then .high else .low
def State.padDdrCke (s : State) : Pad :=
  if s.wake.inReset || s.b F.EMC_STAT_SELFREF || !s.wake.ddrResetN then .low else .block

/-- TDO between two shifts: a command of the TAP is a whole shift. -/
def State.padTdo (_ : State) : Pad := .highZ

/-- RSTOUTN: low until boot step 8 completes. -/
def State.padRstoutn (s : State) : Pad := if s.wake.rstoutN then .high else .low

/-- FO00 to FO15: driven where the Carapace applies the command. -/
def State.padFo (s : State) (c : Nat) : Pad := if s.cpc.on && s.cpc.applied.testBit c then .high else .low

end Sys2Proof.Machine
end

