-- ==== Sys2Proof/Safety.lean ====
section
/-!
DEFINITION. Sys2Proof/Safety.lean: what every state of the block is to satisfy, and what a command may leave changed beside its own effect, in
the terms of the statements.
-/
namespace Sys2Proof
open Sys2Proof.Machine

/-- The register file and memory are in their canonical form: equal contents are equal data. -/
def canonical (s : State) : Bool := s.regsWf && s.memWf

/-- A step does not stop the block. -/
def runs (s : State) : Prop := ∃ t, step s = .next t

/-- The frame of a command. `t` is `s` except in the registers whose keys `touched` names and in what counting and posting change:
registers of LOG (page 4) and of the ICU (page 5), the ICU's sets and queue, what Firefly has noticed, the parity of LOG
entries that were read, and the last-resort byte (R130, R206, R210, R212, R220, R246). Every other register, every byte of memory and every other
part of the state is as it was. -/
def Quiet (touched : Nat → Prop) (s t : State) : Prop :=
  (∀ k, ¬ touched k → k / 0x100000 ≠ 4 → k / 0x100000 ≠ 5 → t.word k = s.word k) ∧
  t = { s with
    regs := t.regs
    icu := t.icu
    wake := { s.wake with
      recorded := t.wake.recorded, waking := t.wake.waking, starter := t.wake.starter, pllStarted := t.wake.pllStarted }
    logUpsets := t.logUpsets
    bat := { s.bat with lastResort := t.bat.lastResort } }

/-- A command that touches no register of its own. -/
def Still (s t : State) : Prop := Quiet (fun _ => False) s t

end Sys2Proof
end

