-- ==== Sys2Proof/Certificates/Slice0/Obligations.lean ====
section
/-!
DEFINITION. Sys2Proof/Certificates/Slice0/Obligations.lean: the statements about the 641, by family, with the words they are stated in.
-/

section Statements
open Sys2Proof Sys2Proof.Machine

/-! ## Words of the statements -/

namespace Sys2Proof

/-- The command completes, and what it leaves satisfies `post`. -/
def Gives (c : Instr) (s : State) (post : State → Prop) : Prop := ∃ t, exec c s = .next t ∧ post t

end Sys2Proof

/-! ## The Karpex core (R495 to R518) -/

namespace Sys2Proof

/-- The core runs at pc: it is clocked and neither locked up, halted nor waiting (R517, R669, R513), no interrupt is due (R516), no breakpoint
stops it (R673), and the fetch at pc delivers a word (R501, R503). -/
def CoreAt (s : State) : Prop :=
  s.coreReady = true ∧ s.interruptDue = false ∧ (s.bpHit = false ∨ s.core.passed = true) ∧ ∃ v, s.fetch .ok = .value v

/-- The general registers with `v` in `rd`; x0 takes nothing (R495). -/
def WithReg (s : State) (rd : Fin 16) (v : Word) : List Word := if rd.val = 0 then s.core.x else s.core.x.set rd.val v

/-- An instruction completes: the general registers become `x`, the pc `pc`, KPX_INSTRET counts it, and nothing else of the 641 changes. -/
def Runs (i : Instr) (s : State) (x : List Word) (pc : Word) : Prop :=
  Gives i s (fun t =>
    t.core = { s.core with x := x, pc := pc, passed := false, held := false } ∧
    t.g F.KPX_INSTRET_COUNT = (s.g F.KPX_INSTRET_COUNT + 1) % 2 ^ 64 ∧
    Quiet (fun k => k = F.KPX_INSTRET_COUNT.key) { s with core := t.core } t)

/-- An instruction writes one register and goes on with the next. -/
def Sets (i : Instr) (s : State) (rd : Fin 16) (v : Word) : Prop := Runs i s (WithReg s rd v) (s.core.pc + 4)

/-- The keys of the registers that an exception writes (R515). -/
def trapKeys (k : Nat) : Prop :=
  k = F.KPX_TRAPPC_PC.key ∨ k = F.KPX_TRAPCAUSE_CAUSE.key ∨ k = F.KPX_TRAPADDR_ADDR.key ∨ k = F.KPX_TRAPWORD_WORD.key ∨
  k = F.KPX_STATUS_PRIV.key

/-- The entry of an exception as R515 lists it: TRAPPC, TRAPCAUSE, TRAPADDR and TRAPWORD, the privilege saved, Keeper privilege, INTRAP, and the
pc at TRAPVEC; no general register changes. -/
def Trapped (s : State) (cause : Nat) (pc addr : Word) (word : BitVec 32) (t : State) : Prop :=
  t.g F.KPX_TRAPPC_PC = pc.toNat ∧ t.g F.KPX_TRAPCAUSE_CAUSE = cause ∧ t.g F.KPX_TRAPADDR_ADDR = addr.toNat ∧
  t.g F.KPX_TRAPWORD_WORD = word.toNat ∧ t.g F.KPX_STATUS_RETPRIV = s.g F.KPX_STATUS_PRIV ∧ t.g F.KPX_STATUS_PRIV = 0 ∧
  t.g F.KPX_STATUS_INTRAP = 1 ∧ t.g F.KPX_STATUS_INTEN = s.g F.KPX_STATUS_INTEN ∧
  t.core = { s.core with pc := BitVec.ofNat 64 (s.g F.KPX_TRAPVEC_ADDR), passed := false, held := false } ∧
  Quiet trapKeys { s with core := t.core } t

end Sys2Proof

/-- The four divisions, with their corner, and the two counts of bits (R508). A division by zero raises DIVZERO: cause 11, the instruction's own address and word (R508, R514, R515). -/
def Obligations.divisionsAndCounts : Prop :=
  (∀ (s : State) (rd rs1 rs2 : Fin 16), CoreAt s →
      let a := s.xr rs1
      let b := s.xr rs2
      (b ≠ 0 → Sets (.quou rd rs1 rs2) s rd (BitVec.ofNat 64 (a.toNat / b.toNat))) ∧
      (b ≠ 0 → Sets (.modu rd rs1 rs2) s rd (BitVec.ofNat 64 (a.toNat % b.toNat))) ∧
      (b ≠ 0 → (a.toInt ≠ -2 ^ 63 ∨ b.toInt ≠ -1) → Sets (.quos rd rs1 rs2) s rd (BitVec.ofInt 64 (a.toInt.tdiv b.toInt))) ∧
      (b ≠ 0 → (a.toInt ≠ -2 ^ 63 ∨ b.toInt ≠ -1) → Sets (.mods rd rs1 rs2) s rd (BitVec.ofInt 64 (a.toInt.tmod b.toInt))) ∧
      (a.toInt = -2 ^ 63 → b.toInt = -1 → Sets (.quos rd rs1 rs2) s rd (BitVec.ofInt 64 (2 ^ 63 - 1)) ∧ Sets (.mods rd rs1 rs2) s rd 0) ∧
      (∃ n : Nat, Sets (.lzc rd rs1) s rd (BitVec.ofNat 64 n) ∧ n ≤ 64 ∧ a.toNat < 2 ^ (64 - n) ∧ (n < 64 → 2 ^ (63 - n) ≤ a.toNat)) ∧
      Sets (.ones rd rs1) s rd (BitVec.ofNat 64 ((List.range 64).countP (fun k => a.toNat.testBit k)))) ∧
  (∀ (s : State) (rd rs1 rs2 : Fin 16), CoreAt s → s.b F.KPX_STATUS_INTRAP = false → s.atApplet = false → s.xr rs2 = 0 →
      let word := fun (fn : Nat) => (LarvaOp.a fn rd rs1 rs2).word
      Gives (.quou rd rs1 rs2) s (Trapped s 11 s.core.pc 0 (word 0x0d)) ∧ Gives (.modu rd rs1 rs2) s (Trapped s 11 s.core.pc 0 (word 0x0e)) ∧
      Gives (.quos rd rs1 rs2) s (Trapped s 11 s.core.pc 0 (word 0x0f)) ∧ Gives (.mods rd rs1 rs2) s (Trapped s 11 s.core.pc 0 (word 0x10)))

/-- The results of the A-format instructions (R508), of every one but the divisions by zero. The I-format instructions (R509): constants are sign- or zero-extended as the table says, HIGH shifts by 18, PCREL and CALL count in words,
JUMPR goes to a multiple of 4. -/
def Obligations.aluResults : Prop :=
  (∀ (s : State) (rd rs1 rs2 : Fin 16), CoreAt s →
      let a := s.xr rs1
      let b := s.xr rs2
      let sh := b.toNat % 64
      Sets (.addOp rd rs1 rs2) s rd (a + b) ∧
      Sets (.subOp rd rs1 rs2) s rd (a - b) ∧
      Sets (.andOp rd rs1 rs2) s rd (a &&& b) ∧
      Sets (.orOp rd rs1 rs2) s rd (a ||| b) ∧
      Sets (.xorOp rd rs1 rs2) s rd (a ^^^ b) ∧
      Sets (.shl rd rs1 rs2) s rd (BitVec.ofNat 64 (a.toNat * 2 ^ sh)) ∧
      Sets (.shr rd rs1 rs2) s rd (BitVec.ofNat 64 (a.toNat / 2 ^ sh)) ∧
      Sets (.shra rd rs1 rs2) s rd (BitVec.ofInt 64 (a.toInt / 2 ^ sh)) ∧
      Sets (.clt rd rs1 rs2) s rd (if a.toInt < b.toInt then 1 else 0) ∧
      Sets (.cltu rd rs1 rs2) s rd (if a.toNat < b.toNat then 1 else 0) ∧
      Sets (.mulOp rd rs1 rs2) s rd (BitVec.ofNat 64 (a.toNat * b.toNat)) ∧
      Sets (.mulhiu rd rs1 rs2) s rd (BitVec.ofNat 64 (a.toNat * b.toNat / 2 ^ 64)) ∧
      Sets (.mulhis rd rs1 rs2) s rd (BitVec.ofInt 64 (a.toInt * b.toInt / 2 ^ 64)) ∧
      Sets (.selnz rd rs1 rs2) s rd (if b = 0 then s.xr rd else a) ∧
      Sets (.rotr rd rs1 rs2) s rd (a >>> sh ||| a <<< (64 - sh))) ∧
  (∀ (s : State) (rd rs1 : Fin 16) (imm : BitVec 18) (amount : BitVec 6), CoreAt s →
      let a := s.xr rs1
      let pc := s.core.pc
      let words := BitVec.ofInt 64 (4 * imm.toInt)
      Sets (.addk rd rs1 imm) s rd (BitVec.ofInt 64 (a.toInt + imm.toInt)) ∧
      Sets (.andk rd rs1 imm) s rd (a &&& BitVec.ofNat 64 imm.toNat) ∧
      Sets (.ork rd rs1 imm) s rd (a ||| BitVec.ofNat 64 imm.toNat) ∧
      Sets (.xork rd rs1 imm) s rd (a ^^^ BitVec.ofNat 64 imm.toNat) ∧
      Sets (.shlk rd rs1 amount) s rd (BitVec.ofNat 64 (a.toNat * 2 ^ amount.toNat)) ∧
      Sets (.shrk rd rs1 amount) s rd (BitVec.ofNat 64 (a.toNat / 2 ^ amount.toNat)) ∧
      Sets (.shrak rd rs1 amount) s rd (BitVec.ofInt 64 (a.toInt / 2 ^ amount.toNat)) ∧
      Sets (.cltk rd rs1 imm) s rd (if a.toInt < imm.toInt then 1 else 0) ∧
      Sets (.cltuk rd rs1 imm) s rd (if a.toNat < (BitVec.ofInt 64 imm.toInt).toNat then 1 else 0) ∧
      Sets (.highOp rd imm) s rd (BitVec.ofInt 64 (imm.toInt * 2 ^ 18)) ∧
      Sets (.pcrel rd imm) s rd (pc + words) ∧
      Runs (.callOp rd imm) s (WithReg s rd (pc + 4)) (pc + words) ∧
      ((a + words).toNat % 4 = 0 → Runs (.jumpr rd rs1 imm) s (WithReg s rd (pc + 4)) (a + words)))

/-- The branches (R512). -/
def Obligations.branches : Prop :=
  ∀ (s : State) (rs1 rs2 : Fin 16) (off : BitVec 18), CoreAt s →
    let a := s.xr rs1
    let b := s.xr rs2
    let goes := fun (i : Instr) (c : Prop) => (c → Runs i s s.core.x (s.core.pc + BitVec.ofInt 64 (4 * off.toInt))) ∧
      (¬ c → Runs i s s.core.x (s.core.pc + 4))
    goes (.ifeq rs1 rs2 off) (a = b) ∧ goes (.ifne rs1 rs2 off) (a ≠ b) ∧
    goes (.iflt rs1 rs2 off) (a.toInt < b.toInt) ∧ goes (.ifge rs1 rs2 off) (b.toInt ≤ a.toInt) ∧
    goes (.ifltu rs1 rs2 off) (a.toNat < b.toNat) ∧ goes (.ifgeu rs1 rs2 off) (b.toNat ≤ a.toNat)

namespace Sys2Proof

/-- Where plain memory of the map lies behind the `n` bytes at an address: at Applet privilege the data window (R503), at Keeper privilege
on-chip SRAM and Keeper's part of secure SRAM (R501, R502). -/
def PlainAt (s : State) (a n : Nat) : Option Nat :=
  if s.atApplet then (if s.b F.KPX_ASLOT_MAPPED && 0x10000 ≤ a && a + n ≤ 0x14000 then some (0x20020000 + s.g F.KPX_ASLOT_SLOT * 0x4000 + (a - 0x10000)) else none)
  else if a + n ≤ 0x600000 then some a
  else if 0x20000000 ≤ a && a + n ≤ 0x20020000 then some a
  else none

/-- The number that `n` bytes from an address of memory spell, the lowest first (R495). -/
def littleEndian (s : State) (p : Nat) : Nat → Nat
  | 0 => 0
  | n + 1 => (s.byte p).toNat + 256 * littleEndian s (p + 1) n

/-- A signed number of `w` bits. -/
def signed (w v : Nat) : Int := if v < 2 ^ (w - 1) then (v : Int) else (v : Int) - 2 ^ w

end Sys2Proof

/-- The loads (R510) from plain memory: aligned, they put the bytes into rt, extended as the table says, at either privilege. -/
def Obligations.loads : Prop :=
  ∀ (s : State) (rt rs1 : Fin 16) (off : BitVec 18) (ecc : Ecc) (p : Nat), CoreAt s →
    let a := (s.xr rs1 + BitVec.ofInt 64 off.toInt).toNat
    (PlainAt s a 8 = some p → a % 8 = 0 → Sets (.ld64 rt rs1 off ecc) s rt (BitVec.ofNat 64 (littleEndian s p 8))) ∧
    (PlainAt s a 4 = some p → a % 4 = 0 → Sets (.ld32s rt rs1 off ecc) s rt (BitVec.ofInt 64 (signed 32 (littleEndian s p 4))) ∧
      Sets (.ld32u rt rs1 off ecc) s rt (BitVec.ofNat 64 (littleEndian s p 4))) ∧
    (PlainAt s a 2 = some p → a % 2 = 0 → Sets (.ld16s rt rs1 off ecc) s rt (BitVec.ofInt 64 (signed 16 (littleEndian s p 2))) ∧
      Sets (.ld16u rt rs1 off ecc) s rt (BitVec.ofNat 64 (littleEndian s p 2))) ∧
    (PlainAt s a 1 = some p → Sets (.ld8s rt rs1 off ecc) s rt (BitVec.ofInt 64 (signed 8 (littleEndian s p 1))) ∧
      Sets (.ld8u rt rs1 off ecc) s rt (BitVec.ofNat 64 (littleEndian s p 1)))

namespace Sys2Proof

/-- What a store of `n` bytes at `p` leaves: the bytes of rt there, the lowest first, every other byte as it was, the pc at the next
instruction, and nothing else changed. -/
def Stored (s : State) (p n : Nat) (v : Word) (t : State) : Prop :=
  (∀ k < n, t.byte (p + k) = BitVec.ofNat 8 (v.toNat / 256 ^ k)) ∧
  (∀ b, b < p ∨ p + n ≤ b → t.byte b = s.byte b) ∧
  t.core = { s.core with pc := s.core.pc + 4, passed := false, held := false } ∧
  t.g F.KPX_INSTRET_COUNT = (s.g F.KPX_INSTRET_COUNT + 1) % 2 ^ 64 ∧
  Quiet (fun k => k = F.KPX_INSTRET_COUNT.key) { s with core := t.core, mem := t.mem } t

end Sys2Proof

/-- The stores (R510) to plain memory. At Keeper privilege a misaligned load raises cause 5 and a misaligned store cause 6, with the address in TRAPADDR and the instruction in TRAPWORD;
nothing is loaded or stored (R510, R514, R515). -/
def Obligations.stores : Prop :=
  (∀ (s : State) (rt rs1 : Fin 16) (off : BitVec 18) (ecc : Ecc) (p : Nat), CoreAt s →
      let a := (s.xr rs1 + BitVec.ofInt 64 off.toInt).toNat
      (PlainAt s a 8 = some p → a % 8 = 0 → Gives (.st64 rt rs1 off ecc) s (Stored s p 8 (s.xr rt))) ∧
      (PlainAt s a 4 = some p → a % 4 = 0 → Gives (.st32 rt rs1 off ecc) s (Stored s p 4 (s.xr rt))) ∧
      (PlainAt s a 2 = some p → a % 2 = 0 → Gives (.st16 rt rs1 off ecc) s (Stored s p 2 (s.xr rt))) ∧
      (PlainAt s a 1 = some p → Gives (.st8 rt rs1 off ecc) s (Stored s p 1 (s.xr rt)))) ∧
  (∀ (s : State) (rt rs1 : Fin 16) (off : BitVec 18) (ecc : Ecc), CoreAt s → s.b F.KPX_STATUS_INTRAP = false → s.atApplet = false →
      let addr := s.xr rs1 + BitVec.ofInt 64 off.toInt
      let word := fun (op : Nat) => (LarvaOp.m op rt rs1 off).word
      (addr.toNat % 8 ≠ 0 → Gives (.ld64 rt rs1 off ecc) s (Trapped s 5 s.core.pc addr (word 0x10)) ∧
        Gives (.st64 rt rs1 off ecc) s (Trapped s 6 s.core.pc addr (word 0x18))) ∧
      (addr.toNat % 4 ≠ 0 → Gives (.ld32s rt rs1 off ecc) s (Trapped s 5 s.core.pc addr (word 0x11)) ∧
        Gives (.ld32u rt rs1 off ecc) s (Trapped s 5 s.core.pc addr (word 0x12)) ∧
        Gives (.st32 rt rs1 off ecc) s (Trapped s 6 s.core.pc addr (word 0x19))) ∧
      (addr.toNat % 2 ≠ 0 → Gives (.ld16s rt rs1 off ecc) s (Trapped s 5 s.core.pc addr (word 0x13)) ∧
        Gives (.ld16u rt rs1 off ecc) s (Trapped s 5 s.core.pc addr (word 0x14)) ∧
        Gives (.st16 rt rs1 off ecc) s (Trapped s 6 s.core.pc addr (word 0x1a))))

/-- TRET at Keeper privilege takes the pc from TRAPPC and the privilege from RETPRIV, clears INTRAP and leaves INTEN (R515, R516); IDLE waits, or
with the T0 line asserted goes on, and IDLE_RESUME ends the wait (R513); DSTOP raises cause 9 (R513, R514). A word that no encoding lists raises cause 1 (R506, R514); a due interrupt raises cause 16 before the next instruction (R516); a match of a
breakpoint whose halt is refused lets the instruction run (R673). -/
def Obligations.systemInstructions : Prop :=
  (∀ (s : State) (code : BitVec 12),
      (CoreAt s → s.atApplet = false → Gives (.tret code) s (fun t =>
        t.g F.KPX_STATUS_PRIV = s.g F.KPX_STATUS_RETPRIV ∧ t.g F.KPX_STATUS_INTRAP = 0 ∧ t.g F.KPX_STATUS_INTEN = s.g F.KPX_STATUS_INTEN ∧
        t.core = { s.core with pc := BitVec.ofNat 64 (s.g F.KPX_TRAPPC_PC), passed := false, held := false } ∧
        Quiet (fun k => k = F.KPX_STATUS_PRIV.key ∨ k = F.KPX_INSTRET_COUNT.key) { s with core := t.core } t)) ∧
      (CoreAt s → s.atApplet = false → s.requestLine false = false → Gives .idle s (fun t =>
        t.core = { s.core with idle := true } ∧ Still { s with core := t.core } t)) ∧
      (CoreAt s → s.atApplet = false → s.requestLine false = true → Runs .idle s s.core.x (s.core.pc + 4)) ∧
      (s.core.idle = true → s.requestLine false = true → s.canLive = true → s.power ≠ .halt → s.b F.KPX_STAT_HALTED = false →
        Gives .idleResume s (fun t => t.core = { s.core with idle := false, pc := s.core.pc + 4, passed := false, held := false } ∧
          Quiet (fun k => k = F.KPX_INSTRET_COUNT.key) { s with core := t.core } t)) ∧
      (CoreAt s → s.b F.KPX_STATUS_INTRAP = false → s.atApplet = false →
        Gives (.dstop code) s (Trapped s 9 s.core.pc 0 (LarvaOp.s 1 code).word))) ∧
  (∀ (s : State) (word : BitVec 32),
      (CoreAt s → s.b F.KPX_STATUS_INTRAP = false → s.atApplet = false → decodeLarva word = none →
        Gives (.illegal word) s (Trapped s 1 s.core.pc 0 word)) ∧
      (s.coreReady = true → s.requestLine false = true → s.b F.KPX_STATUS_INTRAP = false → (s.atApplet = true ∨ s.b F.KPX_STATUS_INTEN = true) →
        Gives .interrupt s (Trapped s 16 s.core.pc 0 0)) ∧
      ((s.requestLine false = false ∨ s.b F.KPX_STATUS_INTRAP = true ∨ (s.atApplet = false ∧ s.b F.KPX_STATUS_INTEN = false)) → Gives .interrupt s (Still s)) ∧
      (s.coreReady = true → s.bpHit = true → s.haltRefusal.isSome = true → Gives .breakpointMatch s (fun t =>
        t.core = { s.core with passed := true } ∧ Still { s with core := t.core } t)))

/-! ## The page space (R119 to R144) -/

namespace Sys2Proof

/-- The page space takes accesses (R153), the accessor reaches the page (R115, R123), and the column grants the write (R114, R142). -/
def MayWrite (s : State) (acc : Accessor) (col page : Nat) : Prop :=
  s.clocked = true ∧ s.reaches acc page = true ∧ s.mayWrite acc col page = true

/-- The registers of plain settings that have no action of their own: every bit of the mask takes what is written. -/
def setting (page off : Nat) : Bool :=
  [0x00, 0x01, 0x02, 0x06, 0x10, 0x11, 0x12, 0x13, 0x14, 0x15, 0x1b, 0x1c, 0x29, 0x2a, 0x2b].contains page && decide (0x48 ≤ off) &&
  decide (off < 0x400) && decide (off % 8 = 0) && !lockedReg page off &&
  !([(0x10, 0xc0), (0x10, 0xc8), (0x10, 0xd0), (0x11, 0x88), (0x11, 0x90), (0x11, 0x98), (0x12, 0x88), (0x12, 0xa0), (0x13, 0x80), (0x1b, 0x100), (0x2b, 0xd8)].contains (page, off))

end Sys2Proof

/-- A granted write of a register of settings changes the bits that its row lets the accessor write, and no other register; one under SYS_PAM1
reaches the site record (R134, R181). A write that the map withholds changes nothing and counts VIOLATION (R142, R143). An access that is not 64 bits
wide and aligned, or to an unassigned page, counts LOST (R120, R121). The common header: EVT is written one to clear and posts nothing, EVTEN takes the bits that mean something (R129, R130), TRCLR clears the
fields of TROUBLE that it selects and no other (R132). -/
def Obligations.registerWrites : Prop :=
  (∀ (s : State) (acc : Accessor) (page off : Nat) (v : Word) (row : RegRow),
      (setting page off = true → rowAt page off = some row → row.wcol < 8 → MayWrite s acc row.wcol page → Gives (.registerWrite acc page off v) s (fun t =>
        t.word (regKey page off) = underMask (s.word (regKey page off)) v (row.rw ||| if acc = .keeper ∨ acc = .mgmt then row.km else 0) ∧
        t.nvm = (if row.wcol = 1 ∧ page ≠ 0 then { s.nvm with site := cellPut resetWord (regKey page off) (t.word (regKey page off)) s.nvm.site }
          else s.nvm) ∧
        Quiet (fun k => k = regKey page off) { s with nvm := t.nvm } t)) ∧
      (setting page off = true → rowAt page off = some row → row.wcol < 8 → row.km = 0 → s.clocked = true →
        (s.reaches acc page = false ∨ s.mayWrite acc row.wcol page = false) → Gives (.registerWrite acc page off v) s (fun t =>
          t.g (hdrTrouble page 2) = satTo 16 (s.g (hdrTrouble page 2) + 1) ∧ Quiet (fun k => k = regKey page 0x30) s t)) ∧
      (s.clocked = true → pageAssigned page = true → page ≠ 4 → page ≠ 5 → Gives (.narrowAccess acc page) s (fun t =>
        t.g (hdrTrouble page 3) = satTo 16 (s.g (hdrTrouble page 3) + 1) ∧ Quiet (fun k => k = regKey page 0x30) s t)) ∧
      (s.clocked = true → pageAssigned page = false → Gives (.unassignedPageAccess page) s (fun t =>
        t.g (hdrTrouble 0 3) = satTo 16 (s.g (hdrTrouble 0 3) + 1) ∧ Quiet (fun k => k = regKey 0 0x30) s t))) ∧
  (∀ (s : State) (acc : Accessor) (page : Nat) (bits : Word), pageAssigned page = true → page ≠ 4 → page ≠ 5 →
      (MayWrite s acc 2 page → Gives (.evtClear acc page bits) s (fun t =>
        t.word (regKey page 0x20) = s.word (regKey page 0x20) &&& ~~~(bits &&& BitVec.ofNat 64 (evtMask page)) ∧
        t.word (regKey page 0x28) = s.word (regKey page 0x28) ∧ Quiet (fun k => k = regKey page 0x20) s t)) ∧
      (MayWrite s acc 2 page → Gives (.evtenWrite acc page bits) s (fun t =>
        t.word (regKey page 0x28) = bits &&& BitVec.ofNat 64 (evtMask page) ∧
        t.word (regKey page 0x20) = s.word (regKey page 0x20) ∧ Quiet (fun k => k = regKey page 0x28) s t)) ∧
      (MayWrite s acc 5 page → Gives (.trclrWrite acc page bits) s (fun t =>
        (∀ i < 4, t.g (hdrTrouble page i) = if bits.toNat.testBit i then 0 else s.g (hdrTrouble page i)) ∧
        Quiet (fun k => k = regKey page 0x30) s t)))

namespace Sys2Proof

/-- A page's sequence `n` is armed by the accessor, who may write its registers, and its first writes, in order, are held (R136 to R139). -/
def SequenceAt (s : State) (acc : Accessor) (col page n : Nat) (held : List (Nat × Word)) : Prop :=
  MayWrite s acc col page ∧ s.b (lockArmed page) = true ∧ s.g (lockSeq page) = n ∧ s.g (lockOwner page) = ownerOf acc ∧ s.heldOf page = held

end Sys2Proof

/-- The locked sequences: a LOCK write with ARM 0x4C4B arms one for 4,096 ms and empties the holding copy (R136, R137); SEQ 0 by the owner
abandons it (R140); a write in order is held and applied to no register (R138); one out of order, or by another accessor, is LOST and the sequence
goes on (R139); when REMAIN reaches zero the sequence is abandoned and counted (R140). -/
def Obligations.lockSequences : Prop :=
  ∀ (s : State) (acc other : Accessor) (page col off : Nat) (v : Word) (seq : Byte) (regs : List Nat) (held : List (Nat × Word)),
    sequences page ≠ [] →
    (seq ≠ 0 → seqOf page seq.toNat = some (seq.toNat, col, regs) → MayWrite s acc col page → s.b (lockArmed page) = false →
      Gives (.lockArm acc page seq 0x4c4b) s (fun t =>
        t.b (lockArmed page) = true ∧ t.g (lockSeq page) = seq.toNat ∧ t.g (lockOwner page) = ownerOf acc ∧ t.g (lockRemain page) = 4096 ∧
        t.b (lockAbandoned page) = false ∧ t.b (lockDone page) = false ∧ t.heldOf page = [] ∧
        (∀ p, p ≠ page → t.heldOf p = s.heldOf p) ∧ Quiet (fun k => k = regKey page 0x40) { s with holds := t.holds } t)) ∧
    (s.clocked = true → s.reaches acc page = true → s.b (lockArmed page) = true → s.g (lockOwner page) = ownerOf acc →
      Gives (.lockCancel acc page) s (fun t =>
        t.b (lockArmed page) = false ∧ t.b (lockAbandoned page) = true ∧ t.g (lockRemain page) = 0 ∧ t.heldOf page = [] ∧
        (∀ p, p ≠ page → t.heldOf p = s.heldOf p) ∧ Quiet (fun k => k = regKey page 0x40) { s with holds := t.holds } t)) ∧
    (s.clocked = true → s.b (lockArmed page) = true → Gives (.lockWindowExpiry page) s (fun t =>
        t.b (lockArmed page) = false ∧ t.b (lockAbandoned page) = true ∧ t.g (lockRemain page) = 0 ∧ t.heldOf page = [] ∧
        t.g (hdrTrouble page 3) = satTo 16 (s.g (hdrTrouble page 3) + 1) ∧
        Quiet (fun k => k = regKey page 0x40 ∨ k = regKey page 0x30) { s with holds := t.holds } t)) ∧
    (seqOf page seq.toNat = some (seq.toNat, col, regs) → SequenceAt s acc col page seq.toNat held → off < 0x400 → regs[held.length]? = some off →
      held.length + 1 < regs.length → Gives (.lockedRegisterWrite acc page off v) s (fun t =>
        t.heldOf page = held ++ [(off, v)] ∧ (∀ p, p ≠ page → t.heldOf p = s.heldOf p) ∧ Still { s with holds := t.holds } t)) ∧
    (seqOf page seq.toNat = some (seq.toNat, col, regs) → SequenceAt s acc col page seq.toNat held → off ∈ regs → regs[held.length]? ≠ some off →
      Gives (.lockedRegisterWrite acc page off v) s (fun t =>
        t.g (hdrTrouble page 3) = satTo 16 (s.g (hdrTrouble page 3) + 1) ∧ Quiet (fun k => k = regKey page 0x30) s t)) ∧
    (seqOf page seq.toNat = some (seq.toNat, col, regs) → SequenceAt s acc col page seq.toNat held → off ∈ regs → MayWrite s other col page →
      ownerOf other ≠ ownerOf acc → Gives (.lockedRegisterWrite other page off v) s (fun t =>
        t.g (hdrTrouble page 3) = satTo 16 (s.g (hdrTrouble page 3) + 1) ∧ Quiet (fun k => k = regKey page 0x30) s t))

namespace Sys2Proof

/-- The lock of a page as the final write of a sequence leaves it: not armed, done, nothing held (R139). -/
def LockDone (page : Nat) (t : State) : Prop :=
  t.b (lockArmed page) = false ∧ t.b (lockDone page) = true ∧ t.g (lockRemain page) = 0 ∧ t.heldOf page = []

/-- The keys of the registers of the listed pages. -/
def onPages (pages : List Nat) (k : Nat) : Prop := k / 0x100000 ∈ pages

end Sys2Proof

/-! ## Field I/O (R271 to R298) -/

/-- Writes of the field pages: FOUT_SET merges with what the page holds, the last write of a channel standing (R283); FCNT_RESET selects
units (R279); FOUT sequence 1 lifts inhibits in the next frame (R288); the edge enables of the inputs go with the next frame and read back only then (R128). -/
def Obligations.outputWrites : Prop :=
  ∀ (s : State) (acc : Accessor) (value mask channels : BitVec 16) (units : BitVec 4) (enables : Word),
    (MayWrite s acc 2 0x11 → Gives (.registerWrite acc 0x11 0x90 enables) s (fun t =>
      t.bar = { s.bar with rise := some (enables.toNat % 2 ^ 32) } ∧ Still { s with bar := t.bar } t)) ∧
    (MayWrite s acc 2 0x11 → Gives (.registerWrite acc 0x11 0x98 enables) s (fun t =>
      t.bar = { s.bar with fall := some (enables.toNat % 2 ^ 32) } ∧ Still { s with bar := t.bar } t)) ∧
    (MayWrite s acc 3 0x12 → Gives (.foutSet acc value mask) s (fun t =>
      (∀ ch < 16, t.bar.setMask.testBit ch = (s.bar.setMask.testBit ch || mask.toNat.testBit ch)) ∧
      (∀ ch < 16, t.bar.setValue.testBit ch =
        if mask.toNat.testBit ch then value.toNat.testBit ch else s.bar.setMask.testBit ch && s.bar.setValue.testBit ch) ∧
      Still { s with bar := { s.bar with setMask := t.bar.setMask, setValue := t.bar.setValue } } t)) ∧
    (MayWrite s acc 3 0x13 → (units.toNat.testBit s.carUnit = false ∨ (s.b F.CAR_STAT_VALID = false ∧ s.b F.CAR_STAT_RELEARNING = false)) →
      Gives (.fcntReset acc units) s (fun t =>
      t.bar = { s.bar with fcntReset := s.bar.fcntReset ||| units.toNat } ∧ Still { s with bar := t.bar } t)) ∧
    (SequenceAt s acc 3 0x12 1 [] → Gives (.foutUninhibit acc channels) s (fun t =>
      LockDone 0x12 t ∧ t.bar = { s.bar with uninhibit := s.bar.uninhibit ||| channels.toNat } ∧
      Quiet (onPages [0x12]) { s with bar := t.bar, holds := t.holds, freeCount := t.freeCount } t))

/-- Between two scans on a powered Carapace: a pulsed sample reaches the filters of the pulsed inputs alone (R272), a filter that is met changes its
input's state (R273), in field-watch for the frames after it (R264, R274), a period or a gate that has run its time ends on its unit, and in field-watch
does not (R275, R280), TSD, ILIM and FAULT are set for the channel (R284, R286), the field supply's monitor changes (R30). -/
def Obligations.carapaceEvents : Prop :=
  ∀ (s : State) (raw : BitVec 32) (unit : Fin 4) (ch : Fin 16) (input : Fin 32) (ok : Bool) (u : CUnit),
    (s.cpc.on = true → s.cpc.fieldWatch = false → Gives (.pulsedSample raw) s (fun t =>
      (∀ i < 32, t.cpc.raw.testBit i = if s.cpc.finMode i = 1 then raw.toNat.testBit i else s.cpc.raw.testBit i) ∧
      (∀ i < 32, s.cpc.finMode i ≠ 1 → t.cpc.filtCount[i]? = some (s.cpc.filtCount.getD i 0)) ∧
      t.cpc.filt = s.cpc.filt ∧ Still { s with cpc := { s.cpc with raw := t.cpc.raw, filtCount := t.cpc.filtCount } } t)) ∧
    (s.cpc.on = true → s.cpc.finFilter input.val + 1 ≤ s.cpc.filtCount.getD input.val 0 → Gives (.inputFilterChange input) s (fun t =>
      (∀ i, t.cpc.filt.testBit i = if i = input.val then !s.cpc.filt.testBit i else s.cpc.filt.testBit i) ∧
      (s.cpc.fieldWatch = false → t.cpc.edges.testBit input.val = true ∧ t.cpc.watchEdges = s.cpc.watchEdges) ∧
      (s.cpc.fieldWatch = true → t.cpc.watchEdges.testBit input.val = true ∧ t.cpc.edges = s.cpc.edges) ∧
      t.cpc.filtCount = s.cpc.filtCount.set input.val 0 ∧
      Still { s with cpc := { s.cpc with filt := t.cpc.filt, edges := t.cpc.edges, watchEdges := t.cpc.watchEdges, filtCount := t.cpc.filtCount
                                         changedAt := t.cpc.changedAt } } t)) ∧
    (s.cpc.on = true → s.cpc.fieldWatch = false → s.cpc.unitMode unit.val = 5 → s.cpc.units[unit.val]? = some u → 2 ^ 32 ≤ u.since →
      Gives (.periodOverflow unit) s (fun t =>
      t.cpc.units = s.cpc.units.set unit.val { u with value := 0, povf := true, timing := false, since := 0 } ∧
      Still { s with cpc := { s.cpc with units := t.cpc.units } } t)) ∧
    (s.cpc.on = true → s.cpc.fieldWatch = false → s.cpc.unitMode unit.val = 6 → s.cpc.units[unit.val]? = some u →
      50 * min 1000 (max 1 (s.cpc.cfg (33 + unit.val) 16 10)) ≤ u.gateScans → Gives (.frequencyGateEnd unit) s (fun t =>
      t.cpc.units = s.cpc.units.set unit.val { u with value := u.gateEdges % 2 ^ 32, gateEdges := 0, gateScans := 0 } ∧
      Still { s with cpc := { s.cpc with units := t.cpc.units } } t)) ∧
    (s.cpc.fieldWatch = true → Gives (.periodOverflow unit) s (Still s) ∧ Gives (.frequencyGateEnd unit) s (Still s)) ∧
    (s.cpc.on = true → s.cpc.applied.testBit ch.val = true → Gives (.thermalShutdown ch) s (fun t =>
      (∀ i, t.cpc.tsd.testBit i = (s.cpc.tsd.testBit i || i == ch.val)) ∧ (∀ i, t.cpc.applied.testBit i = (s.cpc.applied.testBit i && i != ch.val)) ∧
      Still { s with cpc := { s.cpc with tsd := t.cpc.tsd, applied := t.cpc.applied } } t)) ∧
    (s.cpc.on = true → s.cpc.applied.testBit ch.val = true → Gives (.currentLimit ch) s (fun t =>
      (∀ i, t.cpc.ilim.testBit i = (s.cpc.ilim.testBit i || i == ch.val)) ∧ Still { s with cpc := { s.cpc with ilim := t.cpc.ilim } } t)) ∧
    (s.cpc.on = true → (s.cpc.applied.testBit ch.val = false ∨ s.cpc.vfldOk = true) → Gives (.outputFault ch) s (fun t =>
      (∀ i, t.cpc.faults.testBit i = (s.cpc.faults.testBit i || i == ch.val)) ∧ Still { s with cpc := { s.cpc with faults := t.cpc.faults } } t)) ∧
    (s.cpc.on = true → Gives (.vfldChange ok) s (fun t => t.cpc = { s.cpc with vfldOk := ok } ∧ Still { s with cpc := t.cpc } t))

/-! ## The barrier link, the interlock table and the commit gate (R24 to R30, R258 to R268, R289 to R291, R307 to R332) -/

/-- Silence and the Carapace's supplies: a silence drop turns every command off and disarms the gate, and configuration, counters and table stay
(R27, R267); the logic die's own silence is Position Lost and is counted (R29, R266); without VISO_IN every output is off (R30). -/
def Obligations.silence : Prop :=
  ∀ (s : State) (env : FieldEnv),
    (s.cpc.on = true → s.cpc.fieldWatch = false → Gives .silenceDrop s (fun t =>
      t.cpc = { s.cpc with armed := false, slots := List.replicate 8 none, cmd := 0, applied := 0, dropped := true, drops := s.cpc.drops + 1 } ∧
      Still { s with cpc := t.cpc } t)) ∧
    (s.linkRuns = true → s.bar.sweep = none → s.b F.FLD_GSTAT_RUNNING = false → s.bar.load = none → s.waitingTags = [] → Gives .barrierSilence s (fun t =>
      t.b F.FLD_STAT_SILENT = true ∧ t.b F.SYS_STAT_BARRIER_UP = false ∧ t.mod = { s.mod with positionLost := true, lostCause := 7 } ∧
      t.g (hdrTrouble 0x10 3) = satTo 16 (s.g (hdrTrouble 0x10 3) + 1) ∧ t.b ((hdrEvt 0x10).bit 2) = true ∧
      Quiet (fun k => onPages [0x10] k ∨ k = F.SYS_STAT_BARRIER_UP.key) { s with mod := t.mod, dse := { s.dse with due := true } } t)) ∧
    (s.cpc.viso = true → Gives .visoInLoss s (fun t =>
      t.b F.PWR_STAT_ISO_OK = false ∧ t.cpc.viso = false ∧ t.cpc.applied = 0 ∧ t.cpc.armed = false ∧ t.cpc.slots = List.replicate 8 none ∧
      Quiet (fun k => k = F.PWR_STAT_ISO_OK.key) { s with cpc := t.cpc } t)) ∧
    (s.cpc.viso = false → s.cpc.driven = false → Gives (.visoInReturn env) s (fun t =>
      t.b F.PWR_STAT_ISO_OK = true ∧ t.cpc = { s.cpc with viso := true } ∧ Quiet (fun k => k = F.PWR_STAT_ISO_OK.key) { s with cpc := t.cpc } t)) ∧
    (s.cpc.viso = false → s.cpc.driven = true → s.wake.inReset = false → s.g F.RST_BOOT_FSTEP ≠ 0 → env.linkUp = false → Gives (.visoInReturn env) s (fun t =>
      t.cpc.viso = true ∧ t.cpc.table = none ∧ t.cpc.armed = false ∧ t.cpc.applied = 0 ∧ t.cpc.scans = 0 ∧ t.mod.positionLost = true ∧
      t.g F.RST_COUNT_CARAPACE = satTo F.RST_COUNT_CARAPACE.w (s.g F.RST_COUNT_CARAPACE + 1) ∧ t.g F.RST_BOOT_FSTEP = 0 ∧ t.b F.SYS_STAT_BARRIER_UP = false))

/-- One slot on a powered Carapace: the scan advances and no pad is driven unless the gate is armed, the table permits the channel and nothing
inhibits it (R258, R281). An inbound frame that repeats one already taken ends the silence and clears the count of failures (R262, R266). A first
failure is kept for the repeat (R263). In field-watch every watch frame samples the inputs; a new frame that arrives shows the filtered states and the
field supply, and one that fails is repeated in the next watch slot (R162, R268, R274). -/
def Obligations.barrierFrames : Prop :=
  (∀ (s : State) (env : ScanEnv) (inEnv : InEnv),
      (s.cpc.on = true → s.cpc.fieldWatch = false → Gives (.carapaceScan env) s (fun t =>
        t.cpc.scans = s.cpc.scans + 1 ∧
        (∀ ch < 16, t.cpc.applied.testBit ch = true → t.cpc.armed = true ∧ t.cpc.permit.testBit ch = true ∧ t.cpc.inhibit.testBit ch = false ∧
          t.cpc.tsd.testBit ch = false) ∧
        Quiet (fun k => k = F.FLD_SEQ_OUT.key) { s with bar := t.bar, cpc := t.cpc } t)) ∧
      (s.linkRuns = true → s.b F.DBG_STAT_PENDING = false → s.cpc.on = true → s.cpc.fieldWatch = false → inEnv.frameOk = true → inEnv.ackOut = some 0 →
        s.cpc.heardOut = true → s.cpc.lastOutSeq = some s.bar.out.seq → s.bar.outFails = 0 → s.cpc.inFlight.retry = true → s.bar.lastInSeq = some s.cpc.inFlight.seq →
        Gives (.inboundFrame inEnv) s (fun t =>
          t.b F.FLD_STAT_SILENT = false ∧ t.b F.SYS_STAT_BARRIER_UP = true ∧ t.bar.inFails = 0 ∧ t.cpc.repeatIn = false ∧
          t.car = { s.car with frame := s.car.frame + 1 } ∧
          Quiet (fun k => k = F.FLD_STAT_SILENT.key ∨ k = F.SYS_STAT_BARRIER_UP.key) { s with bar := t.bar, cpc := t.cpc, car := t.car } t)) ∧
      (s.linkRuns = true → s.b F.DBG_STAT_PENDING = false → s.cpc.on = true → s.cpc.fieldWatch = false → inEnv.frameOk = false → inEnv.ackOut = some 0 →
        (inEnv.ackIn = none ∨ inEnv.ackIn = some 0) → s.cpc.heardOut = true → s.cpc.lastOutSeq = some s.bar.out.seq → s.bar.outFails = 0 → s.bar.inFails = 0 → s.cpc.inFlight.retry = false →
        Gives (.inboundFrame inEnv) s (fun t => t.bar.inFails = 1 ∧ t.cpc.repeatIn = true ∧
          Still { s with bar := t.bar, cpc := t.cpc, car := { s.car with frame := s.car.frame + 1 } } t))) ∧
  (∀ (s : State) (lanes : WatchLanes) (raw : BitVec 32) (vfldOk late : Bool), s.wake.watch = true → s.cpc.on = true → s.cpc.fieldWatch = true → s.cpc.watchRepeat = false →
      (lanes.inOk = true → Gives (.watchFrame lanes raw vfldOk late) s (fun t =>
        (∀ i < 32, t.cpc.raw.testBit i = raw.toNat.testBit i) ∧ t.g F.FIN_STATE_STATE = t.cpc.filt % 2 ^ 32 ∧ t.cpc.vfldOk = vfldOk ∧
        t.b F.PWR_STAT_VFLD_OK = vfldOk ∧ t.bar.watchGap = (s.bar.watchGap || late) ∧
        Quiet (onPages [0x02, 0x10, 0x11])
          { s with bar := { s.bar with watchGap := t.bar.watchGap, watchLink := t.bar.watchLink }, cpc := t.cpc } t)) ∧
      (lanes.inOk = false → (lanes.ackIn = none ∨ lanes.ackIn = some 0) → s.bar.watchLink.inFails = 0 → Gives (.watchFrame lanes raw vfldOk late) s (fun t =>
        (∀ i < 32, t.cpc.raw.testBit i = raw.toNat.testBit i) ∧ t.cpc.watchRepeat = true ∧ t.bar.watchLink.inFails = 1 ∧
        t.g F.FIN_STATE_STATE = s.g F.FIN_STATE_STATE ∧
        Quiet (onPages [0x10])
          { s with bar := { s.bar with watchGap := t.bar.watchGap, watchLink := t.bar.watchLink }, cpc := t.cpc } t)))

/-- The sweep and the gather: a START of the sweep clears the results of its channels and holds off the lowest one, with ALL_OFF every other one too
(R289, R290); an ABORT restores, and clears the result of every channel not finished (R292); a second START is LOST (R292); a START of a gather clears
every result and takes COUNT elements in order (R293, R296). A hold of the sweep ends, FAULT being that of the last valid frame: a test of the
held-off channel goes on to the held-on one, or skips it; a first fault is tried again; the result is 1 without a fault, 2 after a second attempt without
one, 3 after two, which inhibits the channel; the channel is restored and the next one is taken, or the sweep is done (R289, R290). -/
def Obligations.sweepAndGather : Prop :=
  (∀ (s : State) (acc : Accessor) (mask : BitVec 16) (onTest allOff : Bool) (hold : Byte) (count : BitVec 5) (first : Nat) (rest : List Nat) (sw : Sweep),
      (MayWrite s acc 3 0x12 → s.bar.sweep = none → bitsBelow 16 mask.toNat = first :: rest →
        Gives (.foutSweepStart acc mask onTest allOff hold) s (fun t =>
          t.bar = { s.bar with sweep := some { remaining := rest, step := 0, attempt := 1, faulted := false, firstFault := false }
                               sweepQ := s.bar.sweepQ ++ (if allOff then rest.map (fun c => (c, 1)) else []) ++ [(first, 1)] } ∧
          t.g F.FOUT_SWEEPSTAT_CHANNEL = first ∧ t.g F.FOUT_SWEEPSTAT_MASK = mask.toNat ∧ t.b F.FOUT_SWEEPSTAT_ON_TEST = onTest ∧
          t.b F.FOUT_SWEEPSTAT_ALL_OFF = allOff ∧ t.b F.FOUT_SWEEPSTAT_RUNNING = true ∧ t.b F.FOUT_SWEEPSTAT_DONE = false ∧
          t.b F.FOUT_SWEEPSTAT_ABORTED = false ∧ t.g F.FOUT_SWEEPSTAT_SETTLE = max 1 hold.toNat ∧
          (∀ c < 16, mask.toNat.testBit c = true → t.g (F.FOUT_SWR_RESULT c) = 0) ∧ Quiet (onPages [0x12]) { s with bar := t.bar } t)) ∧
      (MayWrite s acc 3 0x12 → s.bar.sweep = some sw → Gives (.foutSweepStart acc mask onTest allOff hold) s (fun t =>
          t.g (hdrTrouble 0x12 3) = satTo 16 (s.g (hdrTrouble 0x12 3) + 1) ∧ Quiet (fun k => k = regKey 0x12 0x30) s t)) ∧
      (MayWrite s acc 3 0x12 → s.bar.sweep = some sw → Gives (.foutSweepAbort acc) s (fun t =>
          t.bar = { s.bar with sweep := none, sweepQ := [(s.g F.FOUT_SWEEPSTAT_CHANNEL, 3)] } ∧ t.b F.FOUT_SWEEPSTAT_RUNNING = false ∧
          t.b F.FOUT_SWEEPSTAT_ABORTED = true ∧
          (∀ c ∈ s.g F.FOUT_SWEEPSTAT_CHANNEL :: sw.remaining, t.g (F.FOUT_SWR_RESULT c) = 0) ∧
          Quiet (fun k => onPages [0x12] k ∨ ∃ c ∈ sw.remaining, k = (F.FOUT_SWR_RESULT c).key) { s with bar := t.bar } t)) ∧
      (MayWrite s acc 3 0x10 → s.b F.FLD_GSTAT_RUNNING = false → 1 ≤ count.toNat → count.toNat ≤ 16 → Gives (.fldGatherStart acc count) s (fun t =>
          t.b F.FLD_GSTAT_RUNNING = true ∧ (∀ i < 16, t.word (F.FLD_GRES_VALUE i).key = 0) ∧ t.bar.gather.length = count.toNat ∧
          (∀ i < count.toNat, t.bar.gather[i]? = some { code := (s.word (F.FLD_GCODE0_CODE.key + 8 * (i / 8))).toNat / 256 ^ (i % 8) % 256
                                                        phase := 0, value := 0, lasting := false, retried := false }) ∧
          Quiet (onPages [0x10]) { s with bar := { s.bar with gather := t.bar.gather } } t))) ∧
  (∀ (s : State) (sw : Sweep) (next : Nat) (rest : List Nat), s.bar.sweep = some sw → s.bar.sweepQ = [] →
      let c := s.g F.FOUT_SWEEPSTAT_CHANNEL
      let fault := s.bar.testFault
      let onTest := s.b F.FOUT_SWEEPSTAT_ON_TEST && (s.g F.ITE_PERMIT_GRANT).testBit c && s.b F.PWR_STAT_VFLD_OK
      let ends := fun (faulted : Bool) => (sw.step = 1 ∨ (sw.step = 0 ∧ onTest = false)) ∧ (sw.faulted || fault) = faulted
      (sw.step = 0 → onTest = true → Gives .sweepSettleExpiry s (fun t =>
          t.bar = { s.bar with sweep := some { sw with step := 1, faulted := sw.faulted || fault }, sweepQ := [(c, 2)] } ∧
          t.b (F.FOUT_SWR_OFF_FAULT c) = fault ∧ Quiet (fun k => k = (F.FOUT_SWR_OFF_FAULT c).key) { s with bar := t.bar } t)) ∧
      (ends true → sw.attempt = 1 → Gives .sweepSettleExpiry s (fun t =>
          t.bar = { s.bar with sweep := some { sw with step := 0, attempt := 2, faulted := false, firstFault := true }, sweepQ := [(c, 1)] } ∧
          Quiet (fun k => k = (F.FOUT_SWR_ON_FAULT c).key) { s with bar := t.bar } t)) ∧
      (ends false → sw.firstFault = false → sw.remaining = next :: rest → next < 16 → Gives .sweepSettleExpiry s (fun t =>
          t.g (F.FOUT_SWR_RESULT c) = 1 ∧ t.b (F.FOUT_SWR_ON_SKIPPED c) = (sw.step == 0 || s.b (F.FOUT_SWR_ON_SKIPPED c)) ∧
          t.g F.FOUT_SWEEPSTAT_CHANNEL = next ∧
          t.bar = { s.bar with sweep := some { remaining := rest, step := 0, attempt := 1, faulted := false, firstFault := false }
                               sweepQ := (c, 3) :: s.holdSteps next } ∧
          Quiet (fun k => k = (F.FOUT_SWR_RESULT c).key ∨ k = F.FOUT_SWEEPSTAT_CHANNEL.key) { s with bar := t.bar } t)) ∧
      (ends false → sw.firstFault = false → sw.remaining = [] → Gives .sweepSettleExpiry s (fun t =>
          t.g (F.FOUT_SWR_RESULT c) = 1 ∧ t.b F.FOUT_SWEEPSTAT_RUNNING = false ∧ t.b F.FOUT_SWEEPSTAT_DONE = true ∧
          t.b ((hdrEvt 0x12).bit 0) = true ∧ t.bar = { s.bar with sweep := none, sweepQ := [(c, 3)] } ∧
          Quiet (onPages [0x12]) { s with bar := t.bar } t)) ∧
      (ends false → sw.attempt = 2 → sw.firstFault = true → Gives .sweepSettleExpiry s (fun t =>
          t.g (F.FOUT_SWR_RESULT c) = 2 ∧ t.g (hdrTrouble 0x12 0) = satTo 16 (s.g (hdrTrouble 0x12 0) + 1) ∧
          t.bar = { s.bar with sweep := t.bar.sweep, sweepQ := t.bar.sweepQ } ∧ Quiet (onPages [0x12]) { s with bar := t.bar } t)) ∧
      (ends true → sw.attempt = 2 → sw.firstFault = true → Gives .sweepSettleExpiry s (fun t =>
          t.g (F.FOUT_SWR_RESULT c) = 3 ∧ t.g (hdrTrouble 0x12 1) = satTo 16 (s.g (hdrTrouble 0x12 1) + 1) ∧
          t.bar = { s.bar with sweep := t.bar.sweep, sweepQ := t.bar.sweepQ, inhibit := s.bar.inhibit ||| 2 ^ c } ∧
          Quiet (onPages [0x12]) { s with bar := t.bar } t))) ∧
  (∀ (s : State), (s.bar.sweep = none ∨ s.bar.sweepQ ≠ []) → Gives .sweepSettleExpiry s (Still s))

namespace Sys2Proof

/-- The three words of the recorded table digest, as the frames that arm the gate carry them. -/
def digestWords (d : BitVec 384) : List GateCmd :=
  (List.range 3).map (fun i => GateCmd.digestWord i (BitVec.ofNat 128 (d.toNat / 2 ^ (128 * i))))

end Sys2Proof

/-- The interlock table and the gate: ITE sequence 1 queues a trip clear (R309); sequence 2 stores an image that passes the checks of R310, and one
that fails ends in state 6 with its cause (R311); sequence 3 also measures it, disarms the gate and sends the body (R312); at the end Keeper writes
the new digest and arms the gate (R312 step 6); CMG sequence 1 sends three digest words and the arm command (R330), and in life-cycle Blank or Returned
sends nothing (R52). -/
def Obligations.interlockTable : Prop :=
  ∀ (s : State) (acc : Accessor) (check : TableCheck) (v : Word) (base : BitVec 16) (body : List Byte) (c : Nat),
    let img := s.bytes (v.toNat % 2 ^ 32) 10336
    (SequenceAt s acc 3 0x14 1 [] → Gives (.iteTripclr acc) s (fun t =>
      LockDone 0x14 t ∧ t.bar = { s.bar with gateQ := s.bar.gateQ ++ [.tripClear] } ∧
      Quiet (onPages [0x14]) { s with bar := t.bar, holds := t.holds, freeCount := t.freeCount } t)) ∧
    (SequenceAt s acc 7 0x14 2 [(0xc0, v)] → s.tableCause img check = none → check.writeOk = true → Gives (.iteStore acc check) s (fun t =>
      LockDone 0x14 t ∧ t.g F.ITE_LOADSTAT_STATE = 5 ∧ t.g F.ITE_LOADSTAT_CAUSE = 0 ∧ t.nvm = { s.nvm with table := some img } ∧
      t.ctr 0 = max (s.ctr 0) (bodyVersion img) ∧ Quiet (onPages [0x14, 0x32]) { s with nvm := t.nvm, holds := t.holds } t)) ∧
    (SequenceAt s acc 7 0x14 2 [(0xc0, v)] → s.tableCause img check = some c → c < 256 → Gives (.iteStore acc check) s (fun t =>
      LockDone 0x14 t ∧ t.g F.ITE_LOADSTAT_STATE = 6 ∧ t.g F.ITE_LOADSTAT_CAUSE = c ∧ Quiet (onPages [0x14]) { s with holds := t.holds } t)) ∧
    (SequenceAt s acc 4 0x14 3 [(0xc0, v)] → s.tableCause img check = none → check.writeOk = true → Gives (.iteStoreAndLoad acc check) s (fun t =>
      LockDone 0x14 t ∧ t.g F.ITE_LOADSTAT_STATE = 3 ∧ t.b F.ITE_STAT_LOADING = true ∧ t.nvm = { s.nvm with table := some img } ∧
      t.bar = { s.bar with gateQ := s.bar.gateQ ++ [.disarm], disarming := true, load := some (img.take 10240), chunks := chunksOf (img.take 10240) } ∧
      t.b (F.ATT_INFO_PRESENT 3) = true ∧ Quiet (onPages [0x14, 0x32, 0x35]) { s with nvm := t.nvm, bar := t.bar, holds := t.holds } t)) ∧
    (s.g F.ITE_LOADSTAT_STATE = 4 → s.keeperServes = true → s.fuse.life.dead = false → s.bar.load = some body → s.host.waiting = [] → Gives .tableLoadDone s (fun t =>
      t.digestRecord = Config.sha384 body ∧ t.g F.ITE_LOADSTAT_STATE = 5 ∧ t.g F.ITE_LOADSTAT_CAUSE = 0 ∧
      t.bar = { s.bar with load := none, chunks := [], gateQ := s.bar.gateQ ++ digestWords (Config.sha384 body) ++
        [.arm ((s.g F.DSE_TAG_NEXT + 0xffff) % 0x10000)] } ∧
      Quiet (onPages [0x14, 0x15]) { s with bar := t.bar } t)) ∧
    (SequenceAt s acc 7 0x15 1 [] → Gives (.cmgArm acc base) s (fun t =>
      LockDone 0x15 t ∧ t.g F.CMG_ARM_BASE = base.toNat ∧
      t.bar = (if s.fuse.life.dead then s.bar else { s.bar with gateQ := s.bar.gateQ ++ digestWords s.digestRecord ++ [.arm base.toNat] }) ∧
      Quiet (onPages [0x15]) { s with bar := t.bar, holds := t.holds, freeCount := t.freeCount } t))

/-! ## Position, doors and DSE (R335 to R413) -/

/-- CAR and the door engines: a change of CAR_SCALE while VALID is 1 is a position deviation (R346, R347); the dwell ends in a request for a close or a
nudge (R359, R361); an unconfirmed lock counts a miss and sends a reopen, where the landing has the side and the class is granted, or a stop (R353, R357, R364); a standing curtain arms nudging (R361); UNHOLD opens a
held door with its dwell (R358, R359); the operator's report is taken, and closed ends CLOSING (R355, R358). -/
def Obligations.doorEngines : Prop :=
  ∀ (s : State) (acc : Accessor) (n : Fin 2) (value : Word) (payload : List Byte),
    (MayWrite s acc 1 0x18 → s.b F.CAR_STAT_VALID = false → Gives (.carUnitScaleWrite acc true value) s (fun t =>
      t.g F.CAR_SCALE_SCALE = value.toNat % 2 ^ 32 ∧ Quiet (fun k => k = F.CAR_SCALE_SCALE.key) { s with nvm := { s.nvm with site := t.nvm.site } } t)) ∧
    (MayWrite s acc 1 0x18 → s.b F.CAR_STAT_VALID = true → s.waitingTags = [] → value.toNat % 2 ^ 32 ≠ s.g F.CAR_SCALE_SCALE →
      Gives (.carUnitScaleWrite acc true value) s (fun t =>
      t.g F.CAR_SCALE_SCALE = value.toNat % 2 ^ 32 ∧ t.b F.CAR_STAT_VALID = false ∧ t.mod = { s.mod with positionLost := true, lostCause := 5 } ∧
      Quiet (onPages [0x18]) { s with nvm := { s.nvm with site := t.nvm.site }, mod := t.mod, dse := { s.dse with due := true } } t)) ∧
    (s.doorActs n.val = true → (s.doorIs n.val = 4 ∨ s.doorIs n.val = 8) → (s.door n.val).dwellRunning = true → (s.door n.val).dwellHeld = false →
      s.holdToRun = false → Gives (.dwellExpiry n) s (fun t =>
      t.door n.val = { s.door n.val with dwell := 0, dwellRunning := false, ask := if s.b (F.DOR_STAT_NUDGE_ARMED n.val) then 3 else 2 } ∧
      t.door (1 - n.val) = s.door (1 - n.val) ∧ Still { s with dor0 := t.dor0, dor1 := t.dor1 } t)) ∧
    (s.doorActs n.val = true → s.doorIs n.val = 2 → (s.door n.val).confirming = true → s.doorMute = false →
      s.g (F.DOR_STATE_LOCKMISS n.val) + 1 < s.g (F.DOR_CFG_LOCKMISS_MAX n.val) → Gives (.lockMsExpiry n) s (fun t =>
      let opens := s.openGranted n.val && s.doorSide n.val (s.g (F.DOR_STATE_LANDING n.val))
      t.g (F.DOR_STATE_LOCKMISS n.val) = s.g (F.DOR_STATE_LOCKMISS n.val) + 1 ∧
      t.doorIs n.val = (if opens then 3 else 8) ∧ t.g (F.DOR_STATE_CMD n.val) = (if opens then 1 else 4) ∧
      (t.door n.val).confirming = false ∧ t.door (1 - n.val) = s.door (1 - n.val) ∧
      Quiet (onPages [0x19 + n.val, 0x20]) { s with dor0 := t.dor0, dor1 := t.dor1, cb0 := t.cb0 } t)) ∧
    (s.doorActs n.val = true → s.doorIs n.val = 4 → s.b (F.DOR_STAT_CURTAIN n.val) = true → s.b (F.DOR_CFG_NUDGE_HOLD n.val) = true →
      s.nudgeAllowed = true → Gives (.nudgeHoldExpiry n) s (fun t =>
      t.b (F.DOR_STAT_NUDGE_ARMED n.val) = true ∧ Quiet (fun k => k = (F.DOR_STAT_NUDGE_ARMED n.val).key) s t)) ∧
    (MayWrite s acc 2 (0x19 + n.val) → s.doorIs n.val = 9 → (s.door n.val).heldDue = false → (s.door n.val).holdIn = false → s.modeHolds = false → Gives (.dorUnhold acc n) s (fun t =>
      t.doorIs n.val = 4 ∧ t.b (F.DOR_STAT_HELD n.val) = false ∧ t.b ((hdrEvt (0x19 + n.val)).bit 0) = true ∧
      t.door n.val = { s.door n.val with dwell := s.dwellValue n.val, dwellRunning := true, dwellHeld := s.b (F.DOR_STAT_CURTAIN n.val), ask := 0 } ∧
      t.door (1 - n.val) = s.door (1 - n.val) ∧ Quiet (onPages [0x19 + n.val]) { s with dor0 := t.dor0, dor1 := t.dor1 } t)) ∧
    (s.doorActs n.val = true → s.doorIs n.val = 6 → payload.getD 0 0 = 1 → Gives (.doorStatusFrame n payload) s (fun t =>
      t.doorIs n.val = 2 ∧ (t.door n.val).confirming = true ∧ t.g (F.DOR_STATE_OP_STATE n.val) = 1 ∧ (t.door n.val).opSeq = (payload.getD 1 0).toNat ∧
      t.g (F.DOR_STATE_OP_POS n.val) = (payload.getD 3 0).toNat ∧ t.g (F.DOR_STATE_FORCE n.val) = leAt payload 4 2 ∧
      t.b (F.DOR_STAT_CURTAIN n.val) = ((s.door n.val).curtainIn || (payload.getD 2 0).toNat.testBit 0) ∧
      t.door (1 - n.val) = s.door (1 - n.val) ∧ Quiet (onPages [0x19 + n.val]) { s with dor0 := t.dor0, dor1 := t.dor1 } t))

/-- Frames that reach DSE. Frozen in Halt, DSE keeps them in its intake queue (R378). Running, it enters a permitted car call (R382), drops the car
calls that a cancel names (R383), takes the drive's status (R450), and sends a pending acknowledge when there is room (R405). -/
def Obligations.dseFrames : Prop :=
  ∀ (s : State) (bus : Fin 2) (job : Fin 64) (payload : List Byte) (owner : Nat) (ack : List Byte), s.b F.DSE_STAT_RUN = true →
    (s.power = .halt → s.dse.intake.length < 32 →
      Gives (.callFrame bus job payload) s (fun t => Still { s with dse := { s.dse with intake := s.dse.intake ++ [.call bus.val job.val payload] } } t) ∧
      Gives (.callCancel bus job payload) s (fun t => Still { s with dse := { s.dse with intake := s.dse.intake ++ [.cancel bus.val job.val payload] } } t) ∧
      Gives (.driveStatusFrame payload) s (fun t => Still { s with dse := { s.dse with intake := s.dse.intake ++ [.drive payload] } } t)) ∧
    (s.power ≠ .halt → payload.getD 0 0 = 0x11 → s.landNamed (payload.getD 2 0).toNat = true → s.carPermitted (payload.getD 2 0).toNat = true →
      s.lift ≠ .evacuation → Gives (.callFrame 0 3 payload) s (fun t =>
      (∀ l < 64, (t.g F.DSE_CARCALLS_CALLS).testBit l = ((s.g F.DSE_CARCALLS_CALLS).testBit l || l == (payload.getD 2 0).toNat)) ∧
      t.callSeq (1024 + (payload.getD 2 0).toNat) = (payload.getD 3 0).toNat ∧ t.dse.due = true ∧ 1 ∈ t.dse.causes ∧
      t.dse.planned = s.dse.planned ∧ Quiet (onPages [0x1b, 0x20]) { s with dse := t.dse, cb0 := t.cb0 } t)) ∧
    (s.power ≠ .halt → payload.getD 2 0 = 0x11 → s.g F.DSE_CARCALLS_CALLS ≠ 0 → Gives (.callCancel 0 3 payload) s (fun t =>
      t.g F.DSE_CARCALLS_CALLS = 0 ∧ t.dse.due = true ∧ 2 ∈ t.dse.causes ∧
      t.dse.planned = s.dse.planned ∧ Quiet (onPages [0x1b, 0x20]) { s with dse := t.dse, cb0 := t.cb0 } t)) ∧
    (s.power ≠ .halt → Gives (.driveStatusFrame payload) s (fun t =>
      t.g F.DSE_DRIVE_DSTATE = (payload.getD 0 0).toNat % 8 ∧ t.g F.DSE_DRIVE_DSEQ = (payload.getD 1 0).toNat ∧
      t.dse = { s.dse with due := s.dse.due || s.g F.DSE_DRIVE_DSTATE != (payload.getD 0 0).toNat % 8 || s.g F.DSE_DRIVE_DSEQ != (payload.getD 1 0).toNat } ∧
      Quiet (onPages [0x1b]) { s with dse := t.dse } t)) ∧
    (s.power ≠ .halt → s.dse.acks = [(none, owner, ack)] → owner < 512 → s.ackRoom owner = true → Gives .ackRetry s (fun t =>
      t.dse = { s.dse with acks := [] } ∧ Quiet (onPages [0x20, 0x21]) { s with dse := t.dse, cb0 := t.cb0, cb1 := t.cb1 } t)) ∧
    (s.power ≠ .halt → s.dse.acks = [(none, owner, ack)] → s.ackRoom owner = false → Gives .ackRetry s (fun t => Still s t))

/-- A policy package (R408 to R411): PKG sequence 1 starts a load; a read that fails twice ends it with cause 5, without the package key, and is counted
by EMC and PKG (R192, R593); what it decrypts
is put into the other bank, and waits for the switch where it passes the checks of a package, else the load ends with cause 4. DSE's clockwork: a pass that finds nothing to stage counts itself, and is shown in the exact counts (R375, R413); the coarse counts are multiples of
1024 (R413); the minute of the week wraps. -/
def Obligations.packageLoad : Prop :=
  (∀ (s : State) (acc : Accessor) (addr len : Word) (env : PkgEnv) (key : List Byte),
      let img := s.bytes (s.g F.PKG_SRC_ADDR) (min (s.g F.PKG_LEN_LEN) 262224)
      let plain := (List.range (pkgLength img)).map (Config.gcmOpenByte key (slice img 0xc 12) (img.take 64) (slice img 64 (pkgLength img)))
      let bank := 1 - s.g F.PKG_STAT_ACTIVE
      (SequenceAt s acc 7 0x1c 1 [(0x80, addr), (0x88, len)] → s.b F.PKG_STAT_LOADING = false → Gives (.pkgLoad acc) s (fun t =>
        LockDone 0x1c t ∧ t.b F.PKG_STAT_LOADING = true ∧ t.g F.PKG_STAT_CAUSE = 0 ∧
        Quiet (onPages [0x1c]) { s with holds := t.holds, freeCount := t.freeCount } t)) ∧
      (s.b F.PKG_STAT_LOADING = true → s.keeperServes = true → s.host.waiting = [] → s.region (s.g F.PKG_SRC_ADDR) = .ext →
        s.emcRefuses (s.g F.PKG_SRC_ADDR) .pkgRead = none → env.read = .lasting → Gives (.pkgLoadEnd env) s (fun t =>
        t.g (hdrTrouble 0x2b 1) = satTo 16 (s.g (hdrTrouble 0x2b 1) + 1) ∧ t.b ((hdrEvt 0x2b).bit 0) = true ∧
        t.b F.PKG_STAT_LOADING = false ∧ t.g F.PKG_STAT_CAUSE = 5 ∧ t.dse = { s.dse with pkgKey := none } ∧
        t.g (hdrTrouble 0x1c 3) = satTo 16 (s.g (hdrTrouble 0x1c 3) + 1) ∧ t.b ((hdrEvt 0x1c).bit 1) = true ∧
        Quiet (onPages [0x1c, 0x2b]) { s with dse := t.dse } t)) ∧
      (s.b F.PKG_STAT_LOADING = true → s.keeperServes = true → s.host.waiting = [] → env.tagOk = true →
        s.region (s.g F.PKG_SRC_ADDR) = .sram → pkgHeadOk img (s.g F.PKG_LEN_LEN) = true → leAt img 0x18 8 = 0 → s.dse.pkgKey = some key →
        Gives (.pkgLoadEnd env) s (fun t =>
        t.b F.PKG_STAT_LOADING = false ∧ t.dse.pkgKey = none ∧ t.mem = (s.putBytes (bankBase bank) plain).mem ∧
        (if bank = 0 then t.dse.valid0 else t.dse.valid1) = pkgPlainOk plain ∧ t.b F.PKG_STAT_SWITCH_PENDING = pkgPlainOk plain ∧
        (pkgPlainOk plain = true → t.dse.pkgDigest = Config.sha384 plain ∧ t.b (F.ATT_INFO_PRESENT 4) = true) ∧
        (pkgPlainOk plain = false → t.g F.PKG_STAT_CAUSE = 4 ∧ t.b ((hdrEvt 0x1c).bit 1) = true) ∧
        Quiet (onPages [0x1c, 0x35]) { s with dse := t.dse, mem := t.mem } t))) ∧
  (∀ (s : State),
      (s.b F.DSE_STAT_RUN = true → s.power ≠ .halt → s.dse.due = true → s.grouped = false → s.b F.PKG_STAT_SWITCH_PENDING = false → s.mayStage = false →
        s.b F.DSE_DRIVE_CMD = false → s.dse.planned = [] → s.dse.causes = [] → s.g F.DSE_STAT_ENTRIES = 0 → Gives (.dsePass false) s (fun t =>
        t.dse = { s.dse with passes := s.dse.passes + 1, modelRuns := s.dse.modelRuns + b2n (s.b F.PKG_STAT_VALID), due := false,
                             depth := s.g F.MOD_CUR_SPEC, owe := t.dse.owe,
                             target := if s.dse.runOn || s.dse.brakeOn || s.dse.doorOwed then s.dse.target else none } ∧
        t.g F.DSE_PERF_FINE0_RAW = (s.dse.passes + 1) % 2 ^ 32 + 2 ^ 32 * (s.dse.staged % 2 ^ 32) ∧
        Quiet (onPages [0x1b]) { s with dse := t.dse, freeCount := t.freeCount } t)) ∧
      Gives .dsePerfUpdate s (fun t =>
        t.g F.DSE_PERF0_PASSES = s.dse.passes / 1024 * 1024 % 2 ^ F.DSE_PERF0_PASSES.w ∧
        t.g F.DSE_PERF0_STAGED = s.dse.staged / 1024 * 1024 % 2 ^ F.DSE_PERF0_STAGED.w ∧
        t.g F.DSE_PERF1_SQUASHED = s.dse.squashed / 1024 * 1024 % 2 ^ F.DSE_PERF1_SQUASHED.w ∧
        t.g F.DSE_PERF1_DISCARDED = s.dse.discarded / 1024 * 1024 % 2 ^ F.DSE_PERF1_DISCARDED.w ∧
        t.g F.DSE_PERF1_MODELRUNS = s.dse.modelRuns / 1024 * 1024 % 2 ^ F.DSE_PERF1_MODELRUNS.w ∧
        Quiet (fun k => k = F.DSE_PERF0_PASSES.key ∨ k = F.DSE_PERF1_SQUASHED.key) s t) ∧
      Gives .dseTodAdvance s (fun t => t.g F.DSE_TOD_MINUTE = (s.g F.DSE_TOD_MINUTE + 1) % 10080 ∧ Quiet (fun k => k = F.DSE_TOD_MINUTE.key) s t))

/-! ## The CAN controllers (R418 to R454) -/

namespace Sys2Proof

/-- Controller `n` has become `c`; the other one, and everything outside the page of `n`, are as they were. -/
def OnBus (n : Nat) (s t : State) (c : CanState) : Prop :=
  t.can n = c ∧ t.can (1 - n) = s.can (1 - n) ∧ Quiet (onPages [0x20 + n]) { s with cb0 := t.cb0, cb1 := t.cb1 } t

/-- The frame that a writer has staged: Keeper's staging is its own, another's is CBn_TXH and CBn_TXDk (R429). -/
def staged (s : State) (n : Nat) (acc : Accessor) : TxFrame :=
  if isKeeper acc then stagedFrame (s.can n).stageHead (s.can n).stageData
  else stagedFrame (s.word (regKey (0x20 + n) 0xf8)) ((List.range 8).map (fun k => s.word (regKey (0x20 + n) (0x100 + 8 * k))))

end Sys2Proof

/-- Transmit writes: GO for a free buffer or for the queue takes the staged frame (R429, R440); a full queue rejects it with cause 1, counted (R430);
TXJOB sends Keeper's payload as a secured frame (R447); ABORT_HEAD and FLUSH discard what is not in transmission (R454), BUFABORT likewise per
buffer (R440). -/
def Obligations.canWrites : Prop :=
  ∀ (s : State) (acc : Accessor) (n : Fin 2) (dest : Fin 8) (job : Fin 64) (mask : Byte) (head : TxFrame) (rest : List TxFrame),
    let c := s.can n.val
    let f := staged s n.val acc
    (MayWrite s acc 2 (0x20 + n.val) → s.reservedId n.val f = false → c.bufs[dest.val]? = some none → s.bufOwner n.val dest.val = none →
      (f.fdf = true ∨ f.brs = false) → Gives (.txgoBuffer acc n dest) s (fun t =>
      t.b (F.CB_BUF_PENDING n.val dest.val) = true ∧ t.b (F.CB_BUF_OWNER n.val dest.val) = false ∧
      OnBus n.val s t { c with bufs := c.bufs.set dest.val (some f) })) ∧
    (MayWrite s acc 2 (0x20 + n.val) → s.reservedId n.val f = false → c.queue.length < 32 → (f.fdf = true ∨ f.brs = false) →
      Gives (.txgoQueue acc n) s (fun t =>
      t.g (F.CB_TXQ_STAT_LEVEL n.val) = c.queue.length + 1 ∧ t.b (F.CB_TXQ_STAT_EMPTY n.val) = false ∧
      OnBus n.val s t { c with queue := c.queue ++ [f] })) ∧
    (MayWrite s acc 2 (0x20 + n.val) → 32 ≤ c.queue.length → Gives (.txgoQueue acc n) s (fun t =>
      t.g (F.CB_TXQ_STAT_LAST_REJ n.val) = 1 ∧ t.g (hdrTrouble (0x20 + n.val) 3) = satTo 16 (s.g (hdrTrouble (0x20 + n.val) 3) + 1) ∧
      OnBus n.val s t c)) ∧
    (MayWrite s acc 7 (0x20 + n.val) → job.val < jobCount n.val → s.b (F.CB_JOB_CFG_EN n.val job.val) = true → s.g (F.CB_JOB_CFG_KIND n.val job.val) = 0 →
      s.jobKeyed n.val job.val = true → s.jobBuf n.val job.val = none → c.queue.length < 32 → Gives (.txjob acc n job) s (fun t =>
      let pl := leBytes 8 (c.stageData.headD 0).toNat
      t.g (F.CB_TXQ_STAT_LEVEL n.val) = c.queue.length + 1 ∧
      OnBus n.val s t { c with queue := c.queue ++ [s.jobFrame n.val job.val .job pl]
                               payloads := (job.val, pl) :: c.payloads.filter (fun p => p.1 != job.val) })) ∧
    (MayWrite s acc 2 (0x20 + n.val) → c.queue = head :: rest → head.tx = false → Gives (.abortHead acc n) s (fun t =>
      OnBus n.val s t { c with queue := rest })) ∧
    (MayWrite s acc 2 (0x20 + n.val) → c.queue = head :: rest → head.tx = true → Gives (.abortHead acc n) s (fun t =>
      OnBus n.val s t { c with queue := { head with abort := true } :: rest })) ∧
    (MayWrite s acc 2 (0x20 + n.val) → Gives (.flush acc n) s (fun t => OnBus n.val s t { c with queue := c.queue.filter (fun x => x.tx) })) ∧
    (MayWrite s acc 2 (0x20 + n.val) → Gives (.bufabort acc n mask) s (fun t =>
      (∀ b < 8, (t.can n.val).bufs.getD b none =
        if mask.toNat.testBit b && !((c.bufs.getD b none).map TxFrame.tx).getD true then none else c.bufs.getD b none) ∧
      OnBus n.val s t { c with bufs := (t.can n.val).bufs }))

/-- What happens on a bus: an attempt begins (R431); a queue frame is sent, or fails and stays with its attempts counted (R432, R433); a frame of no job
that a filter accepts reaches the FIFO (R427, R428); an error moves the receive counter (R435); a frame of a job without its key fails its checks
(R445); a pop takes the head (R428). -/
def Obligations.canFrames : Prop :=
  ∀ (s : State) (acc : Accessor) (n : Fin 2) (f : TxFrame) (place : TxPlace) (key : List Byte) (r : BusFrame) (i lec step j : Nat) (phase : Bool),
    let c := s.can n.val
    let page := 0x20 + n.val
    (s.canLive = true → c.inTx = none → bestFrame (c.candidates (s.g (F.CB_STAT_MODE n.val))) = some (place, f) → s.frameKey n.val f = some key →
      f.kind ≠ .reference → Gives (.canTransmitAttempt n .start) s (fun t =>
      (t.can n.val).onBus = some (f.id + 2 ^ 29 * b2n f.ide + 2 ^ 30 * b2n f.fdf + 2 ^ 31 * b2n f.brs, s.attemptData f key) ∧
      OnBus n.val s t { c.putAt place (some { f with tx := true }) with onBus := (t.can n.val).onBus })) ∧
    (s.canLive = true → c.inTx = some (.queue, f) → f.kind = .software → f.failed = 0 → s.g (F.CB_STAT_MODE n.val) = 0 →
      Gives (.canTransmitAttempt n .sent) s (fun t =>
      (t.can n.val).queue = c.queue.drop 1 ∧ t.g (F.CB_ERR_TEC n.val) = s.g (F.CB_ERR_TEC n.val) - 1 ∧
      t.g (F.CB_TXQ_STAT_SENT n.val) = satTo (F.CB_TXQ_STAT_SENT n.val).w (s.g (F.CB_TXQ_STAT_SENT n.val) + 1) ∧
      t.can (1 - n.val) = s.can (1 - n.val) ∧ Quiet (onPages [page]) { s with cb0 := t.cb0, cb1 := t.cb1 } t)) ∧
    (s.canLive = true → c.inTx = some (.queue, f) → f.abort = false → s.limited n.val f = false → s.g (F.CB_ERR_TEC n.val) + 8 < 256 → lec < 8 →
      Gives (.canTransmitAttempt n (.failed lec phase false)) s (fun t =>
      (t.can n.val).queue = { f with tx := false, failed := f.failed + 1 } :: c.queue.drop 1 ∧
      t.g (F.CB_ERR_TEC n.val) = s.g (F.CB_ERR_TEC n.val) + 8 ∧ t.g (F.CB_ERR_LEC n.val) = lec ∧ t.b (F.CB_ERR_DPHASE n.val) = phase ∧
      t.can (1 - n.val) = s.can (1 - n.val) ∧ Quiet (onPages [page]) { s with cb0 := t.cb0, cb1 := t.cb1 } t)) ∧
    (s.canLive = true → s.g (F.CB_STAT_MODE n.val) = 0 → s.b (F.CB_ERR_REC_P n.val) = false → s.lva.mail = [] → r.remote = false →
      s.jobOf n.val r = none → (n.val = 0 ∨ r.ide = true) → s.filterOf n.val r = some i → s.b (F.CB_FLT_ACTION n.val i) = false → c.fifo.length < 64 →
      Gives (.canFrameReceive n (.frame r)) s (fun t =>
      t.g (F.CB_RX_STAT_LEVEL n.val) = c.fifo.length + 1 ∧ t.g (F.CB_ERR_REC n.val) = s.g (F.CB_ERR_REC n.val) - 1 ∧
      OnBus n.val s t { c with fifo := c.fifo ++ [{ header := s.rxHeader r false i, data := r.data }] })) ∧
    (s.canLive = true → s.g (F.CB_STAT_MODE n.val) = 0 → s.lva.mail = [] → c.search = none → lec < 8 →
      Gives (.canFrameReceive n (.error lec phase step)) s (fun t =>
      t.g (F.CB_ERR_REC n.val) = min 255 (s.g (F.CB_ERR_REC n.val) + step) ∧ t.g (F.CB_ERR_LEC n.val) = lec ∧ OnBus n.val s t c)) ∧
    (s.canLive = true → s.g (F.CB_STAT_MODE n.val) = 0 → s.b (F.CB_ERR_REC_P n.val) = false → s.lva.mail = [] → r.remote = false →
      s.jobOf n.val r = some j → s.jobKeyed n.val j = false → Gives (.canFrameReceive n (.frame r)) s (fun t =>
      t.g (F.CB_JOB_CNT1_AUTHFAIL n.val j) = satTo 16 (s.g (F.CB_JOB_CNT1_AUTHFAIL n.val j) + 1) ∧
      t.g (hdrTrouble page 3) = satTo 16 (s.g (hdrTrouble page 3) + 1) ∧ t.b ((hdrEvt page).bit 5) = true ∧ OnBus n.val s t c)) ∧
    (s.clocked = true → (acc = .host ∨ acc = .keeper) → s.mayRead acc (readCol page 0xd0) page = true → Gives (.rxpop acc n) s (fun t =>
      t.readOut = BitVec.ofNat 64 (s.g (F.CB_RX_STAT_LEVEL n.val)) ∧ (t.can n.val).fifo = c.fifo.drop 1 ∧
      t.g (F.CB_RX_STAT_LEVEL n.val) = (c.fifo.length - 1) % 2 ^ (F.CB_RX_STAT_LEVEL n.val).w ∧ t.can (1 - n.val) = s.can (1 - n.val) ∧
      Quiet (onPages [page]) { s with cb0 := t.cb0, cb1 := t.cb1, readOut := t.readOut } t))

/-- Recovery, rate search, bit timing and the jobs' clocks: 128 sequences end Bus-off (R437); Keeper requests Normal (R438); a dwell of the rate search takes
the next candidate (R439); a bit timing stands at once where no frame is in progress, else it waits (R423); a heartbeat is sent on its job (R448); a job
that hears nothing is down, counted (R448); a wake pattern sets its event, but in reset is ignored (R177); a controller without its clock keeps its
state (R160). -/
def Obligations.canClocks : Prop :=
  ∀ (s : State) (n : Fin 2) (job : Fin 64) (value : Word) (row : RegRow) (x : RateSearch) (a b : Nat) (l : List Nat) (key : JobKey) (payload : List Byte),
    let c := s.can n.val
    let page := 0x20 + n.val
    (s.canLive = true → c.recovering = true → s.g (F.CB_ERR_STATE n.val) = 2 → Gives (.busOffRecovery n) s (fun t =>
      t.g (F.CB_ERR_TEC n.val) = 0 ∧ t.g (F.CB_ERR_REC n.val) = 0 ∧ t.g (F.CB_ERR_STATE n.val) = 0 ∧
      t.can n.val = { c with recovering := false } ∧ t.can (1 - n.val) = s.can (1 - n.val) ∧
      t.mod = { s.mod with calls := s.mod.calls ++ [⟨5 + n.val, 0, 0x0f, 7⟩] } ∧
      Quiet (fun k => k = (F.CB_ERR_TEC n.val).key) { s with cb0 := t.cb0, cb1 := t.cb1, mod := t.mod } t)) ∧
    (s.canLive = true → s.b (F.CB_CFG_KRECOVER n.val) = true → s.bus n.val = .busOff → Gives (.keeperRecoveryRequest n) s (fun t =>
      t.g (F.MOD_REQ_VALUE (5 + n.val)) = 0 ∧ t.g (F.MOD_REQ_STATE (5 + n.val)) = 0 ∧ (5 + n.val) ∈ t.mod.fresh ∧ (5 + n.val) ∉ t.mod.held ∧
      Quiet (onPages [0x08]) { s with mod := { s.mod with fresh := t.mod.fresh, held := t.mod.held, who := s.mod.who.set (5 + n.val) 5 } } t)) ∧
    (s.canLive = true → c.search = some x → x.found = false → x.dataStage = false → x.candidates = a :: b :: l → b < 4 →
      Gives (.rateSearchDwell n) s (fun t => t.g (F.CB_RSSTAT_NRATE n.val) = b ∧
      OnBus n.val s t { c with search := some { x with candidates := b :: l, good := 0, fdSeen := false } })) ∧
    (s.clocked = true → s.reaches .keeper page = true → c.inTx = none → rowAt page 0x88 = some row → Gives (.bitTimingWrite .keeper n false value) s (fun t =>
      t.word (F.CB_NBT_NBRP_M1 n.val).key = value &&& row.km ∧ (t.can n.val).nbtNext = none ∧ t.can (1 - n.val) = s.can (1 - n.val) ∧
      Quiet (onPages [page]) { s with cb0 := t.cb0, cb1 := t.cb1 } t)) ∧
    (s.clocked = true → s.reaches .keeper page = true → c.inTx.isSome = true → rowAt page 0x90 = some row → Gives (.bitTimingWrite .keeper n true value) s (fun t =>
      t.can n.val = { c with dbtNext := some (value &&& row.km) } ∧ t.can (1 - n.val) = s.can (1 - n.val) ∧
      Still { s with cb0 := t.cb0, cb1 := t.cb1 } t)) ∧
    (s.canLive = true → s.g (F.CB_STAT_MODE n.val) = 0 → s.b (F.CB_JOB_CFG_EN n.val job.val) = true → s.jobKey n.val job.val = some key →
      key.announcing = false → s.b (F.CB_JOB_CFG_HB_PERIOD n.val job.val) = true → s.b (F.CB_JOB_CFG_TX_HB n.val job.val) = true →
      s.parksOnly n.val job.val = false → (n.val = 0 → job.val = 0 → s.mayStage = true ∧ s.lift ≠ .inspection) →
      s.jobPayload n.val job.val = some payload → s.jobBuf n.val job.val = none → c.queue.length < 32 → Gives (.jobHeartbeat n job) s (fun t =>
      t.b (F.CB_JOB_STAT_PARK n.val job.val) = false ∧ OnBus n.val s t { c with queue := c.queue ++ [s.jobFrame n.val job.val .heartbeat payload] })) ∧
    (s.canLive = true → s.b (F.CB_JOB_CFG_HB_PERIOD n.val job.val) = true → s.b (F.CB_JOB_STAT_UP n.val job.val) = true → (n.val = 1 ∨ job.val ≠ 1 ∧ job.val ≠ 2) →
      Gives (.jobSupervisionTimeout n job) s (fun t =>
      t.b (F.CB_JOB_STAT_UP n.val job.val) = false ∧
      t.g (F.CB_JOB_CNT1_DOWNS n.val job.val) = satTo 16 (s.g (F.CB_JOB_CNT1_DOWNS n.val job.val) + 1) ∧
      t.g (hdrTrouble page 3) = satTo 16 (s.g (hdrTrouble page 3) + 1) ∧ t.b ((hdrEvt page).bit 16) = true ∧ Quiet (onPages [page]) s t)) ∧
    (s.wake.inReset = false → Gives (.cbWakePattern n) s (fun t => t.b ((hdrEvt page).bit 0) = true ∧ Quiet (fun k => k = regKey page 0x20) s t)) ∧
    (s.wake.inReset = true → Gives (.cbWakePattern n) s (Still s)) ∧
    (s.canLive = false → Gives (.busOffRecovery n) s (Still s) ∧ Gives (.keeperRecoveryRequest n) s (Still s) ∧
      Gives (.jobSupervisionTimeout n job) s (Still s))

/-! ## Time and the group (R455 to R491) -/

/-- A cycle boundary: COUNT advances, or takes a step that is due, which is counted, and PHASE starts at 0 (R457, R467); a station that leads sends a reference
on CB1 (R462); one still unsent LATE after its boundary is dropped and counted (R463). -/
def Obligations.cycleBoundaries : Prop :=
  ∀ (s : State) (bus : Fin 2) (step : Nat) (key : List Byte),
    let c := (s.g F.TSY_COUNT_COUNT + 1) % 2 ^ 32
    let after := fun (stepped : Bool) => { s.tsy with stepTo := none, stepped := stepped, hit := false
                                                      searchCycles := if s.b F.TSY_STAT_SEARCHING then s.tsy.searchCycles + 1 else 0 }
    (s.canLive = true → s.cb0.timeKey = none → s.leadsTime = false → s.tsy.stepTo = none → c < s.tsy.floorAt + 65536 → Gives .cycleBoundary s (fun t =>
      t.g F.TSY_COUNT_COUNT = c ∧ t.g F.TSY_COUNT_PHASE = 0 ∧ t.b F.TSY_STAT_WINDOWED = s.windowed ∧ t.tsy = after false ∧
      Quiet (onPages [0x22]) { s with tsy := t.tsy } t)) ∧
    (s.canLive = true → s.cb0.timeKey = none → s.leadsTime = false → s.tsy.stepTo = some step → above32 step c = true → step < 2 ^ 32 →
      step < s.tsy.floorAt + 65536 → Gives .cycleBoundary s (fun t =>
      t.g F.TSY_COUNT_COUNT = step ∧ t.g F.TSY_COUNT_PHASE = 0 ∧ t.g F.TSY_CNT_STEPS = satTo F.TSY_CNT_STEPS.w (s.g F.TSY_CNT_STEPS + 1) ∧
      t.b ((hdrEvt 0x22).bit 4) = true ∧ t.tsy = after true ∧ Quiet (onPages [0x22]) { s with tsy := t.tsy } t)) ∧
    (s.canLive = true → s.cb0.timeKey = none → s.leadsTime = true → s.cb1.timeKey = some key → s.cb1.refs = [] → s.tsy.stepTo = none →
      c < s.tsy.floorAt + 65536 → Gives .cycleBoundary s (fun t =>
      t.g F.TSY_COUNT_COUNT = c ∧ t.tsy = after false ∧
      t.cb1 = { s.cb1 with refs := [{ kind := .reference, id := s.g F.TSY_CFG_REFID + s.g F.GRP_CFG_STATION, ide := false, fdf := true, brs := false
                                      dlc := 10, job := 0, data := [], failed := 0, tx := false, abort := false }] } ∧
      Quiet (onPages [0x22]) { s with tsy := t.tsy, cb1 := t.cb1 } t)) ∧
    (s.canLive = true → (s.can bus.val).refs.any (fun f => !f.tx) = true → Gives (.referenceLateDrop bus) s (fun t =>
      t.can bus.val = { s.can bus.val with refs := (s.can bus.val).refs.filter (fun f => f.tx) } ∧ t.can (1 - bus.val) = s.can (1 - bus.val) ∧
      t.g (hdrTrouble 0x22 3) = satTo 16 (s.g (hdrTrouble 0x22 3) + 1) ∧ t.b ((hdrEvt 0x22).bit 5) = true ∧
      Quiet (onPages [0x22]) { s with cb0 := t.cb0, cb1 := t.cb1 } t))

/-- References: a Follower takes an accepted one, phase, offset, SYNC and the count of misses (R464, R465, R466, R469); an older count is stale and counted
(R464); the first miss is counted, the second clears SYNC (R469, R473); the search after a wake ends (R476); a fixture's pressed report is counted (R478). -/
def Obligations.references : Prop :=
  ∀ (s : State) (payload : List Byte) (fresh : Nat) (offset : Int) (key : List Byte) (last : Nat) (bus : Fin 2) (job : Fin 64),
    let c := (payload.getD 0 0).toNat * 2 ^ 24 + fresh % 2 ^ 24
    let b1 := (payload.getD 1 0).toNat
    let b4 := (payload.getD 4 0).toNat
    (s.canLive = true → s.timeRole = .follower → s.cb1.timeKey = some key → s.cb1.lastRef = none → s.b F.TSY_STAT_SEARCHING = false →
      offset.natAbs ≤ s.guardUs → offset.natAbs ≤ 1000 → above32 c (s.g F.TSY_COUNT_COUNT) = false →
      Gives (.referenceReceive true true payload fresh offset) s (fun t =>
      t.gs F.TSY_OFFSET_O = offset ∧ t.g F.TSY_OFFSET_RANK = b1 % 8 ∧ t.g F.TSY_OFFSET_STATION = b1 / 16 % 8 ∧ t.b F.TSY_OFFSET_BACKUP = b1.testBit 3 ∧
      t.b F.TSY_OFFSET_SPARSE = b4.testBit 7 ∧ t.g F.TSY_OFFSET_WAKE_EVERY = b4 % 128 ∧
      t.g F.TSY_COUNT_PHASE = ((s.g F.TSY_COUNT_PHASE : Int) - offset).toNat % 2 ^ F.TSY_COUNT_PHASE.w ∧ t.g F.TSY_COUNT_COUNT = s.g F.TSY_COUNT_COUNT ∧
      t.g F.TSY_STAT_MISSRUN = 0 ∧ t.b F.TSY_STAT_SYNC = true ∧ t.cb1 = { s.cb1 with lastRef := some c } ∧
      t.tsy = { s.tsy with accepted := true, bare := 0, hit := t.tsy.hit, wakeMisses := none } ∧
      Quiet (onPages [0x22]) { s with tsy := t.tsy, cb1 := t.cb1 } t)) ∧
    (s.canLive = true → s.timeRole ≠ .free → s.cb1.timeKey = some key → s.cb1.lastRef = some last → above32 c last = false →
      Gives (.referenceReceive true true payload fresh offset) s (fun t =>
      t.g (hdrTrouble 0x22 3) = satTo 16 (s.g (hdrTrouble 0x22 3) + 1) ∧ t.b ((hdrEvt 0x22).bit 5) = true ∧ Quiet (onPages [0x22]) s t)) ∧
    (s.canLive = true → s.expected = true → s.tsy.hit = false → s.g F.TSY_STAT_MISSRUN = 0 → s.tsy.wakeMisses = none → s.b F.TSY_STAT_SEARCHING = false →
      s.b F.TSY_CFG_MASTER_OK = false → s.tsy.timerWake = false → Gives .referenceMiss s (fun t =>
      t.g F.TSY_CNT_MISSES = satTo F.TSY_CNT_MISSES.w (s.g F.TSY_CNT_MISSES + 1) ∧ t.g F.TSY_STAT_MISSRUN = 1 ∧ t.b F.TSY_STAT_SYNC = s.b F.TSY_STAT_SYNC ∧
      t.tsy = { s.tsy with bare := s.tsy.bare + 1, hit := true } ∧ Quiet (onPages [0x22]) { s with tsy := t.tsy } t)) ∧
    (s.canLive = true → s.expected = true → s.tsy.hit = false → s.g F.TSY_STAT_MISSRUN = 1 → s.tsy.wakeMisses = none → s.b F.TSY_STAT_SEARCHING = false →
      s.b F.TSY_CFG_MASTER_OK = false → s.tsy.timerWake = false → Gives .referenceMiss s (fun t =>
      t.g F.TSY_STAT_MISSRUN = 2 ∧ t.b F.TSY_STAT_SYNC = false ∧ t.b ((hdrEvt 0x22).bit 2) = true ∧ Quiet (onPages [0x22]) { s with tsy := t.tsy } t)) ∧
    (s.b F.TSY_STAT_SEARCHING = true → 3 ≤ s.tsy.searchCycles → s.b F.TSY_CFG_MASTER_OK = false → Gives .wakeSearchEnd s (fun t =>
      t.b F.TSY_STAT_SEARCHING = false ∧ t.b F.TSY_STAT_SYNC = false ∧ t.mod = { s.mod with calls := s.mod.calls ++ [⟨6, 0, 0x0d, 0⟩] } ∧
      Quiet (onPages [0x22]) { s with mod := t.mod } t)) ∧
    ((payload.getD 1 0).toNat.testBit 0 = true → Gives (.fixtureStatusFrame bus job payload) s (fun t =>
      t.g F.TSY_FIX_COUNT = satTo F.TSY_FIX_COUNT.w (s.g F.TSY_FIX_COUNT + 1) ∧ t.g F.TSY_FIX_JOB = 256 * bus.val + job.val ∧
      t.b ((hdrEvt 0x22).bit 6) = true ∧ Quiet (onPages [0x22]) s t))

namespace Sys2Proof

/-- A group frame passes the checks of R480: GRP is enabled, the group key is held, the freshness is no more than two cycles old. -/
def GroupFresh (s : State) (fresh : Nat) : Prop :=
  s.b F.GRP_CFG_EN = true ∧ s.cb1.groupKey.isSome = true ∧ (s.freshNow + 2 ^ 24 - fresh % 2 ^ 24) % 2 ^ 24 ≤ 2

end Sys2Proof

/-- The group: an exchange sends the own digest and shows the majority set (R481, R483, R484); an accepted digest fills its peer's registers (R483, R486); a
MAC that fails is counted (R480); an absent station's bids are gone (R483, R488); a Member keeps a bid (R487) and takes the Leader's assignment
(R489). -/
def Obligations.groupFrames : Prop :=
  ∀ (s : State) (station : Fin 8) (fresh : Nat) (payload : List Byte) (rec e : Nat),
    (s.canLive = true → s.power = .run → s.b F.GRP_CFG_EN = true → s.cb1.groupKey.isSome = true → Gives .digestExchange s (fun t =>
      t.g F.GRP_STAT_AGREE = ofBits 8 (fun st => s.majoritySet.contains st) ∧ t.b F.GRP_STAT_MAJORITY = !s.majoritySet.isEmpty ∧
      t.mod.groupMajority = s.majoritySet.contains (s.g F.GRP_CFG_STATION) ∧
      t.cb1 = { s.cb1 with group := s.cb1.group ++ [
        { kind := .group, id := s.g F.GRP_CFG_IDBASE + s.g F.GRP_CFG_STATION, ide := false, fdf := true, brs := true, dlc := 15, job := 0
          data := s.ownDigest.take 56, failed := 0, tx := false, abort := false }] } ∧
      Quiet (onPages [0x08, 0x23]) { s with cb1 := t.cb1, grp := t.grp, mod := t.mod } t)) ∧
    (GroupFresh s fresh → s.leadsTime = false → Gives (.digestReceive station true fresh payload) s (fun t =>
      t.b (F.GRP_PEER_PRESENT station.val) = true ∧ t.g (F.GRP_PEER_ROLE station.val) = (payload.getD 1 0).toNat / 8 % 4 ∧
      t.g (F.GRP_PEER_LIFT station.val) = (payload.getD 3 0).toNat % 16 ∧ t.g (F.GRP_PEER_AGE station.val) = 0 ∧
      t.g (F.GRP_PCOUNT_COUNT station.val) = leAt payload 4 4 ∧
      t.grp = { s.grp with digests := s.grp.digests.set station.val (some (slice payload 0 56)) } ∧ Quiet (onPages [0x23]) { s with grp := t.grp } t)) ∧
    (GroupFresh s fresh → Gives (.digestReceive station false fresh payload) s (fun t =>
      t.g (hdrTrouble 0x23 3) = satTo 16 (s.g (hdrTrouble 0x23 3) + 1) ∧ t.b ((hdrEvt 0x23).bit 6) = true ∧ Quiet (onPages [0x23]) s t)) ∧
    (s.b (F.GRP_PEER_PRESENT station.val) = true → s.group ≠ .leader → Gives (.stationAbsent station) s (fun t =>
      t.b (F.GRP_PEER_PRESENT station.val) = false ∧ t.grp = { s.grp with bids := s.grp.bids.filter (fun b => b.station != station.val) } ∧
      Quiet (onPages [0x23]) { s with grp := t.grp } t)) ∧
    (GroupFresh s fresh → s.group = .member → payload.getD 1 0 = 1 → rec = leAt payload 2 4 → rec.testBit 14 = false →
      Gives (.bidFrame station true fresh payload) s (fun t =>
      t.bidOf e station.val = (if s.g (F.DSE_CALL0_KIND e) = rec % 4 ∧ s.g (F.DSE_CALL0_FROM e) = rec / 4 % 64 ∧ s.g (F.DSE_CALL0_TO e) = rec / 256 % 64
        then some (rec / 2 ^ 16 % 2 ^ 16) else s.bidOf e station.val) ∧
      Still { s with grp := { s.grp with bids := t.grp.bids } } t)) ∧
    (GroupFresh s fresh → s.group = .member → station.val = s.g F.GRP_STAT_LEADER → payload.getD 1 0 = 1 → rec = leAt payload 2 3 →
      s.findCall (rec % 4) (rec / 4 % 64) (rec / 256 % 64) = some e → 1 ≤ rec / 2 ^ 17 % 4 →
      Gives (.assignmentFrame station true fresh payload) s (fun t =>
      t.g (F.DSE_CALL0_CAR e) = rec / 2 ^ 14 % 8 ∧ t.g (F.DSE_CALL0_STATUS e) = rec / 2 ^ 17 % 4 ∧
      Quiet (fun k => k = (F.DSE_CALL0_CAR e).key ∨ onPages [0x23] k ∨ k = regKey 0x1b 0x20) { s with dse := t.dse } t)) ∧
    (GroupFresh s fresh → s.grouped = true → station.val ≠ s.g F.GRP_STAT_LEADER → Gives (.assignmentFrame station true fresh payload) s (fun t =>
      t.g (hdrTrouble 0x23 3) = satTo 16 (s.g (hdrTrouble 0x23 3) + 1) ∧ Quiet (onPages [0x23]) s t))

/-! ## Resets, boot and supplies (R151 to R191) -/

namespace Sys2Proof

/-- What a reset of the logic die and the Karpex die leaves in each of its kinds: the dies at their reset state, fuses and what waits outside untouched
(R42, R170). -/
def DiesReset (s t : State) : Prop :=
  t.fuse = s.fuse ∧ t.pending = s.pending ∧ t.core = CoreState.fresh ∧ t.lva = LvaState.fresh ∧ t.cb0 = CanState.fresh ∧ t.cb1 = CanState.fresh ∧
  t.tsy = TsyState.fresh ∧ t.grp = GrpState.fresh ∧ t.dse = DseState.fresh ∧ t.bar = Barrier.fresh ∧ t.holds = [] ∧ t.key.handles = [] ∧
  t.key.eph = List.replicate 32 none ∧ t.host = HostState.fresh ∧ t.dbg = DebugState.fresh ∧ t.b F.CLK_STAT_PLL_LOCK = false

/-- A warm reset from a source: what R170 lists is kept, the Carapace's outputs are off, the boot waits for the PLL, RST_CAUSE and the count tell of it
(R171, R188, R189); a gather that it aborts is counted (R131, R296); VFLD_OK reads 0 until a frame has come, and the supply monitors stand (R187). -/
def WarmReset (source : Nat) (s t : State) : Prop :=
  DiesReset s t ∧ t.g F.RST_CAUSE_TYPE = 3 ∧ t.g F.RST_CAUSE_SOURCE = source ∧ t.g F.RST_CAUSE_BTIME = s.g F.PWR_BTIME_S % 2 ^ 32 ∧
  t.g F.RST_COUNT_WARM = satTo 16 (s.g F.RST_COUNT_WARM + 1) ∧ t.nvm = s.nvm ∧
  t.cpc = (if s.cpc.on then { s.cpc with armed := false, slots := List.replicate 8 none, cmd := 0, applied := 0 } else s.cpc) ∧
  (∀ k, (heldKey k || warmKey k) = true → k ∉ [F.RST_COUNT_WARM.key, F.PWR_STAT_VFLD_OK.key, regKey 0x10 0x30] → k / 0x100000 ≠ 4 →
    t.word k = s.word k) ∧
  t.b F.PWR_STAT_VFLD_OK = false ∧ t.b F.PWR_STAT_VDDQ_OK = s.b F.PWR_STAT_VDDQ_OK ∧ t.b F.PWR_STAT_PCIE_OK = s.b F.PWR_STAT_PCIE_OK ∧
  t.g (hdrTrouble 0x10 3) = (if s.b F.FLD_GSTAT_RUNNING then satTo 16 (s.g (hdrTrouble 0x10 3) + 1) else s.g (hdrTrouble 0x10 3)) ∧
  (∀ a, 0x80000000 ≤ a → t.byte a = s.byte a) ∧
  t.wake.inReset = false ∧ t.wake.bootPending = true ∧ t.wake.pllStarted = true ∧ t.wake.watch = false

end Sys2Proof

/-- Power-on, battery and warm resets (R158, R159, R165, R168, R170 to R174, R188): a power-on reset turns the barrier's driver off, and a battery power-on
reset in force takes precedence (R173); and PLL failures, which reset the dies warm and are counted (R154). RST_CMD (R188, R190): sequence 1 or 2 with CMD 3 resets warm, with CMD 5 the Carapace, sequence 2 with CMD 4 as a Molt does; each records its
type and source. CMD 4 by sequence 1 is lost. -/
def Obligations.resets : Prop :=
  (∀ (s : State) (source : PorSource) (xmode : Bool),
      ((s.wake.inReset = false ∨ s.g F.RST_CAUSE_TYPE ≠ 2) → Gives (.powerOnReset source) s (fun t =>
        t.wake.inReset = true ∧ t.core = CoreState.fresh ∧ t.fuse = s.fuse ∧ t.pending = s.pending ∧
        t.cpc = { s.cpc.reset with driven := false } ∧ t.b F.CLK_STAT_PLL_LOCK = false ∧ t.g F.RST_CAUSE_TYPE = 1 ∧
        t.g F.RST_CAUSE_SOURCE = (match source with | .ramp => 1 | .porn => 2 | .brownOut => 3))) ∧
      ((s.wake.inReset = false ∨ s.g F.RST_CAUSE_TYPE ≠ 2) → Gives (.powerOnReset .porn) s (fun t =>
        DiesReset s t ∧ t.wake = Wake.held ∧ t.nvm = s.nvm ∧ t.bat = s.bat ∧ t.tick = s.tick ∧
        (∀ k, heldKey k = false → k / 0x100000 ∉ [0, 3, 5, 8, 0x34] → t.word k = resetWord k) ∧
        (∀ k, heldKey k = true → k / 0x100000 ≠ 2 → k / 0x100000 ≠ 3 → t.word k = s.word k))) ∧
      (s.wake.inReset = true → s.g F.RST_CAUSE_TYPE = 2 → Gives (.powerOnReset source) s (Still s)) ∧
      (s.wake.inReset = true → s.power ≠ .batteryHold → Gives (.powerOnResetEnd xmode) s (fun t =>
        t.b F.CLK_STAT_XMODE = xmode ∧ t.wake.pllStarted = true ∧
        Quiet (fun k => k = F.CLK_STAT_XMODE.key) { s with wake := { s.wake with inReset := false, pllStarted := true, bootPending := true } } t)) ∧
      Gives .batteryPowerOn s (fun t => DiesReset s t ∧ t.tick = 0 ∧ t.wake.inReset = true ∧ t.g F.RST_CAUSE_TYPE = 2 ∧ t.g F.PWR_BTIME_S = 0 ∧
        t.g F.RST_COUNT_WARM = 0 ∧ t.bat.opRoot = none ∧ t.bat.lastResort = 0 ∧ t.bat.lock = false ∧
        t.bat.zeroized = (s.fuse.life == .provisioned || s.fuse.life == .deployed) ∧ t.g F.TMP_LEVEL_LEVEL = s.fuse.tmpFloor % 2 ^ 22 ∧
        (∀ n < 64, t.b (F.KEY_POL_VALID n) = false)) ∧
      Gives .batteryHoldEntry s (fun t => DiesReset s t ∧ t.power = .batteryHold ∧ t.wake.inReset = true ∧ t.b F.PWR_STAT_VDDQ_OK = false ∧
        t.b F.PWR_STAT_PCIE_OK = false ∧ t.bat = s.bat ∧ t.nvm = s.nvm) ∧
      (s.wake.inReset = false → Gives .warmReset s (fun t => WarmReset 1 s t ∧ t.bat = s.bat)) ∧
      (s.wake.inReset = false → s.wake.pllStarted = true → s.b F.CLK_STAT_PLL_LOCK = false → Gives .pllLockTimeout s (WarmReset 4 s)) ∧
      (s.canLive = true → Gives .pllLockLost s (WarmReset 4 s))) ∧
  (∀ (s : State) (acc : Accessor),
      (SequenceAt s acc 1 3 1 [] → Gives (.rstCmdWarm acc) s (fun t => DiesReset s t ∧ t.g F.RST_CAUSE_TYPE = 3 ∧
        t.g F.RST_CAUSE_SOURCE = (if acc = .host ∨ acc = .hostCmd then 2 else 3) ∧ t.g F.RST_COUNT_WARM = satTo 16 (s.g F.RST_COUNT_WARM + 1) ∧
        t.wake.bootPending = true)) ∧
      (SequenceAt s acc 1 3 1 [] → Gives (.rstCmdCarapace acc) s (fun t =>
        t.g F.RST_CAUSE_TYPE = 5 ∧ t.g F.RST_CAUSE_SOURCE = (if acc = .host ∨ acc = .hostCmd then 1 else 2) ∧
        t.g F.RST_COUNT_CARAPACE = satTo 16 (s.g F.RST_COUNT_CARAPACE + 1) ∧ t.g F.RST_BOOT_FSTEP = 0 ∧ t.b F.SYS_STAT_BARRIER_UP = false ∧
        t.cpc = { s.cpc.reset with driven := s.cpc.driven } ∧ t.dbg.nonce = none ∧ (∀ k, configKey k = true → t.word k = resetWord k) ∧
        t.holds = [] ∧ t.mod.positionLost = true ∧ t.core = s.core ∧ t.wake.bootPending = s.wake.bootPending)) ∧
      (SequenceAt s acc 7 3 2 [] → Gives (.rstCmdMolt acc) s (fun t =>
        t.g F.RST_CAUSE_TYPE = 4 ∧ t.g F.RST_CAUSE_SOURCE = 2 ∧ t.g F.RST_COUNT_MOLT = satTo 16 (s.g F.RST_COUNT_MOLT + 1) ∧
        t.cb0.keys = [] ∧ t.cb1.keys = [] ∧ t.emc.key = none ∧ t.host.hbxKeys = none ∧ t.dse.valid0 = false ∧ t.dse.valid1 = false ∧
        t.key.eph = List.replicate 32 none ∧ t.g F.DSE_STAT_ENTRIES = 0 ∧ t.holds = [] ∧ t.bat.tenancy = s.bat.tenancy ∧ t.cpc = s.cpc)) ∧
      (SequenceAt s acc 1 3 1 [] → Gives (.rstCmdMolt acc) s (fun t => LockDone 3 t ∧
        t.g (hdrTrouble 3 3) = satTo 16 (s.g (hdrTrouble 3 3) + 1) ∧ Quiet (onPages [3]) { s with holds := t.holds, freeCount := t.freeCount } t)))

/-- PLL lock and the boot: without a boot or a wake that waits, lock lets the domains run (R154, R155); a Keeper image whose signature fails leaves the ROM in
recovery with failure 2, code 2 (R178, R182); one that passes boots as far as step 4, after which the Keeper branch is owed (R178); a wake ends Watch and is counted with its cause (R163, R248); the field branch brings the link up and
transfers the stored table, or fails at 0x12 with code 5 where there is none (R178, R180, R182). -/
def Obligations.boot : Prop :=
  ∀ (s : State) (env : BootEnv) (field : FieldEnv) (img : List Byte),
    let locks := s.wake.inReset = false ∧ s.wake.pllStarted = true ∧ s.b F.CLK_STAT_PLL_LOCK = false
    (locks → s.wake.bootPending = false → s.wake.waking = false → Gives (.pllLock env) s (fun t =>
      t.b F.CLK_STAT_PLL_LOCK = true ∧ t.b F.CLK_STAT_ANOMALY_ARMED = true ∧ Quiet (fun k => k = F.CLK_STAT_PLL_LOCK.key) s t)) ∧
    (locks → s.wake.bootPending = true → env.keeper.read = .first → env.keeper.signatureOk = false → s.g F.RST_BOOT_FAIL_AT = 0 →
      Gives (.pllLock env) s (fun t =>
      t.b F.CLK_STAT_PLL_LOCK = true ∧ t.b F.RST_BOOT_RECOVERY = true ∧ t.g F.RST_BOOT_STEP = 1 ∧ t.g F.RST_BOOT_FAIL_AT = 2 ∧ t.g F.RST_BOOT_FAIL_CODE = 2 ∧
      Quiet (onPages [1, 3]) { s with wake := { s.wake with bootPending := false } } t)) ∧
    (locks → s.wake.bootPending = true → env.keeper.read = .first → env.keeper.signatureOk = true → s.nvm.keeperValid = true →
      s.fuse.keeperFloor ≤ s.nvm.keeperVersion → Gives (.pllLock env) s (fun t =>
      t.b F.CLK_STAT_PLL_LOCK = true ∧ t.g F.RST_BOOT_STEP = 4 ∧ t.wake.applets = some env.appletsOk ∧ t.wake.bootPending = false ∧
      t.wake.rstoutN = s.wake.rstoutN)) ∧
    (locks → s.wake.bootPending = false → s.wake.waking = true → Gives (.pllLock env) s (fun t =>
      t.b F.CLK_STAT_PLL_LOCK = true ∧ t.wake.watch = false ∧ t.wake.waking = false ∧ t.wake.mgtUp = true ∧ t.b ((hdrEvt 6).bit 0) = true ∧
      t.g F.FFY_CAUSE_SRC = s.wake.starter.getD 0 % 2 ^ F.FFY_CAUSE_SRC.w ∧
      t.g F.FFY_CAUSE_WAKES = satTo F.FFY_CAUSE_WAKES.w (s.g F.FFY_CAUSE_WAKES + 1))) ∧
    (s.canLive = true → 4 ≤ s.g F.RST_BOOT_STEP → s.g F.RST_BOOT_FSTEP = 0 → field.linkUp = true → s.cpc.viso = true → s.fuse.life ≠ .blank →
      s.nvm.table = none → s.g F.RST_BOOT_FAIL_AT = 0 → Gives (.bootFieldBranch field) s (fun t =>
      t.g F.RST_BOOT_FSTEP = 1 ∧ t.b F.SYS_STAT_BARRIER_UP = true ∧ t.g F.RST_BOOT_FAIL_AT = 0x12 ∧ t.g F.RST_BOOT_FAIL_CODE = 5 ∧
      t.cpc = { s.cpc.reset with driven := true } ∧ (∀ u < 4, t.g (F.FCNT_VAL_VALUE u) = 0) ∧ (∀ k, configKey k = true → t.word k = resetWord k) ∧
      Quiet (onPages [0, 3, 0x10, 0x11, 0x12, 0x13, 0x14]) { s with cpc := t.cpc, bar := t.bar } t)) ∧
    (s.canLive = true → 4 ≤ s.g F.RST_BOOT_STEP → s.g F.RST_BOOT_FSTEP = 0 → field.linkUp = true → s.cpc.viso = true → s.fuse.life.dead = false →
      s.nvm.table = some img → field.table = ⟨.first, true⟩ → field.transferOk = true → s.slotValid 96 = true → Gives (.bootFieldBranch field) s (fun t =>
      t.g F.RST_BOOT_FSTEP = 3 ∧ t.b F.SYS_STAT_BARRIER_UP = true ∧ t.b ((hdrEvt 3).bit 1) = true ∧ t.cpc.table = some (img.take 10240) ∧
      t.cpc.tableOk = true ∧ t.cpc.config = bodyConfig (img.take 10240) ∧ t.digestRecord = Config.sha384 (img.take 10240) ∧
      t.bar.gateQ = digestWords (Config.sha384 (img.take 10240)) ++ [.arm ((s.g F.DSE_TAG_NEXT + 0xffff) % 0x10000)] ∧
      Quiet (onPages [0, 3, 0x10, 0x11, 0x12, 0x13, 0x14, 0x15, 0x35]) { s with cpc := t.cpc, bar := t.bar } t))

namespace Sys2Proof

/-- The output pads as R177 gives them during a reset of the logic die. -/
def PadsReset (t : State) : Prop :=
  (∀ n < 2, t.padCanTx n = .high ∧ t.padCanStb n = .high) ∧ t.padPcie = .idle ∧ t.padMgtRefclk = .low ∧ t.padPhyRstn = .low ∧ t.padRmii = .low ∧
  t.padDdrResetn = .low ∧ t.padDdrCke = .low ∧ t.padTdo = .highZ ∧ t.padRstoutn = .low ∧ (∀ c < 16, t.padFo c = .low)

end Sys2Proof

/-- The output pads take R177's reset states with a power-on reset, from the battery domain too, and with a warm reset; MGT_REFCLK gives its 50 MHz again once the PLL has locked outside
Watch, for a boot or after a wake (R157). -/
def Obligations.outputPads : Prop :=
  ∀ (s : State) (source : PorSource) (env : BootEnv),
    ((s.wake.inReset = false ∨ s.g F.RST_CAUSE_TYPE ≠ 2) → Gives (.powerOnReset source) s PadsReset) ∧
    Gives .batteryPowerOn s PadsReset ∧ Gives .batteryHoldEntry s PadsReset ∧
    (s.wake.inReset = false → Gives .warmReset s PadsReset) ∧
    (s.wake.inReset = false → s.wake.pllStarted = true → s.b F.CLK_STAT_PLL_LOCK = false → (s.wake.watch = false ∨ (s.wake.bootPending = false ∧ s.wake.waking = true)) →
      s.padMgtRefclk = .low ∧ Gives (.pllLock env) s (fun t => t.padMgtRefclk = .clock))

namespace Sys2Proof

/-- The lift mode that the causes of R99 call for, by rank, with the base mode `base` (R99, R100); Lock's rank ends once the job keys are delivered again. -/
def liftByRank (s : State) (base : LiftMode) : LiftMode :=
  let park := if s.mod.parked then LiftMode.outOfService else LiftMode.secureDegraded
  if s.fuse.life = .blank ∨ s.fuse.life = .returned then .outOfService
  else if s.bat.zeroized ∨ s.bat.lock ∨ (s.mod.lockKeys ∧ s.mod.keysAbsent) then park
  else if s.inputOn 5 then .rescue
  else if s.mod.positionLost then .positionLost
  else if s.inputOn 3 ∧ (s.lift = .recall2 ∨ s.recallParked) then .recall2
  else if s.inputOn 2 ∨ base = .recall1 then .recall1
  else if s.inputOn 0 ∨ s.inputOn 1 then .inspection
  else if s.inputOn 4 then .evacuation
  else if s.inputOn 7 ∨ base = .outOfService then .outOfService
  else if s.mod.keysAbsent then park
  else if s.inputOn 6 ∨ base = .independent then .independent
  else .normal

end Sys2Proof

/-- Requests and mode inputs: a MOD_REQn write makes a request that shows idle until it is decided (R80, R92), on an index without requests it is a violation
(R92); 0xFF cancels a deferred one (R81); an input is active once its level has stood (R57); Secure-degraded parked becomes Out of Service (R106). An evaluation enters the lift mode that the highest-ranked cause calls for, whatever else changes with it (R94, R99, R100); with no request on index 3
the base mode stands, and every hardware cause has been taken (R47). MOD_SEQ advances just when MOD_CUR has changed (R93). -/
def Obligations.modeRequests : Prop :=
  (∀ (s : State) (acc : Accessor) (index : Fin 11) (value arg : Byte) (input : Fin 8) (m : ModeInput),
      (MayWrite s acc 2 8 → index.val ∉ [1, 2, 8, 9] → value ≠ 0xff → Gives (.modReqnWrite acc index value arg) s (fun t =>
        t.g (F.MOD_REQ_VALUE index.val) = value.toNat ∧ t.g (F.MOD_REQ_ARG index.val) = arg.toNat ∧ t.g (F.MOD_REQ_STATE index.val) = 0 ∧
        index.val ∈ t.mod.fresh ∧ index.val ∉ t.mod.held ∧
        (index.val ∈ s.mod.held ∨ index.val ∈ s.mod.fresh → t.g (hdrTrouble 8 3) = satTo 16 (s.g (hdrTrouble 8 3) + 1)) ∧
        t.mod = { s.mod with fresh := t.mod.fresh, held := t.mod.held, who := s.mod.who.set index.val (whoOf acc) } ∧
        Quiet (onPages [8]) { s with mod := t.mod } t)) ∧
      (MayWrite s acc 2 8 → index.val ∈ [1, 2, 8, 9] → Gives (.modReqnWrite acc index value arg) s (fun t =>
        t.g (hdrTrouble 8 2) = satTo 16 (s.g (hdrTrouble 8 2) + 1) ∧ Quiet (fun k => k = regKey 8 0x30) s t)) ∧
      (MayWrite s acc 2 8 → index.val ∉ [1, 2, 8, 9] → index.val ∈ s.mod.held → Gives (.modReqCancel acc index) s (fun t =>
        t.g (F.MOD_REQ_STATE index.val) = 3 ∧ t.g (F.MOD_REQ_CAUSE index.val) = 7 ∧ index.val ∉ t.mod.held ∧ index.val ∉ t.mod.fresh ∧
        t.b ((hdrEvt 8).bit 1) = true ∧ Quiet (onPages [8]) { s with mod := { s.mod with held := t.mod.held, fresh := t.mod.fresh } } t)) ∧
      (s.mod.inputs[input.val]? = some m → max 1 (s.g F.MOD_CFG_IN_STABLE) ≤ m.frames → m.active ≠ m.level → Gives (.modeInputChange input) s (fun t =>
        Still { s with mod := { s.mod with inputs := s.mod.inputs.set input.val { m with active := m.level } } } t)) ∧
      (s.canLive = true → s.lift = .secureDegraded → s.rescueActive = false → s.inputOn 5 = false → s.mod.positionLost = false →
        3 ∉ s.mod.held → 3 ∉ s.mod.fresh → s.mod.keysAbsent = true → (s.bat.zeroized = true ∨ s.bat.lock = true) →
        Gives .secureDegradedParked s (fun t => t.lift = .outOfService ∧ t.mod.parked = true))) ∧
  (∀ (s : State), s.canLive = true → 3 ∉ s.mod.held → 3 ∉ s.mod.fresh → s.b F.DBG_STAT_PENDING = false →
      Gives .modEvaluation s (fun t =>
        t.lift = liftByRank s s.mod.base ∧ t.zeroized = s.bat.zeroized ∧ t.life = s.fuse.life ∧
        t.g F.MOD_SEQ_SEQ = (if t.word F.MOD_CUR_POWER.key = s.word F.MOD_CUR_POWER.key then s.g F.MOD_SEQ_SEQ
          else (s.g F.MOD_SEQ_SEQ + 1) % 2 ^ F.MOD_SEQ_SEQ.w)))

/-- Supplies and monitors: VDDQ, after whose return EMC trains and takes the tenant's key as in boot step 4 (R167, R598), VPCIE (R167, R643), VBAT (R187), the reference clock (R156), the power figures in their steps (R187). Firefly in Watch: a wake source that is watched is noticed and starts the PLL (R163, R245), a timer too (R249); what is not watched changes nothing. -/
def Obligations.supplies : Prop :=
  (∀ (s : State) (training : Training) (dev : BitVec 16) (a b root : Nat),
      (s.b F.PWR_STAT_VDDQ_OK = true → Gives .vddqLoss s (fun t =>
        t.b F.PWR_STAT_VDDQ_OK = false ∧ t.b F.EMC_STAT_TRAINED = false ∧ t.b F.EMC_STAT_STOPPED = true ∧ t.b F.EMC_SCRUB_RUNNING = false ∧
        t.emc = { s.emc with scrubOwed := s.b F.EMC_SCRUB_RUNNING || s.emc.scrubOwed } ∧ (s.wake.inReset = false → t.b ((hdrEvt 2).bit 2) = true) ∧
        Quiet (onPages [2, 0x2b]) { s with emc := t.emc } t)) ∧
      (s.b F.PWR_STAT_VDDQ_OK = false → s.b F.SYS_STAT_FENCE_UP = false → s.emc.scrubOwed = false → Gives (.vddqReturn training) s (fun t =>
        t.b F.PWR_STAT_VDDQ_OK = true ∧ (s.wake.inReset = false → t.b ((hdrEvt 2).bit 2) = true) ∧ Quiet (onPages [2]) s t)) ∧
      (s.b F.PWR_STAT_VDDQ_OK = false → s.b F.SYS_STAT_FENCE_UP = true → s.emc.scrubOwed = false → deviceMib training.density ≠ 0 → training.density < 8 →
        training.attempts = .first → (s.tenancy = .molting ∨ s.bat.opRoot = none) → Gives (.vddqReturn training) s (fun t =>
        t.b F.PWR_STAT_VDDQ_OK = true ∧ t.b F.EMC_STAT_TRAINED = true ∧ t.g F.EMC_TRAIN_STEP = 5 ∧ t.g F.EMC_TRAIN_FAIL = 0 ∧
        t.g F.EMC_CFG_DENSITY = training.density ∧ t.g F.EMC_SIZE_DATA_MIB = deviceMib training.density * 7 / 8 ∧ t.b ((hdrEvt 0x2b).bit 2) = true ∧
        Quiet (onPages [2, 0x2b]) { s with wake := { s.wake with ddrResetN := true }, emc := { s.emc with delivered := t.emc.delivered } } t)) ∧
      (s.b F.PWR_STAT_VDDQ_OK = false → s.b F.SYS_STAT_FENCE_UP = true → s.emc.scrubOwed = false → deviceMib training.density ≠ 0 →
        training.attempts = .first → s.tenancy ≠ .molting → s.bat.opRoot = some root → s.bat.rootFailing = [] → Gives (.vddqReturn training) s (fun t =>
        t.emc.key = some (s.tenantNo, s.ctr 5, s.ctr 6, root) ∧ t.b F.EMC_STAT_TRAINED = true ∧ t.b F.EMC_STAT_KEYED = true ∧ t.bat = s.bat)) ∧
      (s.b F.PWR_STAT_PCIE_OK = true → Gives .vpcieLoss s (fun t =>
        t.b F.PWR_STAT_PCIE_OK = false ∧ t.b F.PCI_LINK_UP = false ∧ (s.b F.PCI_LINK_UP = true → t.host.hbxKeys = none ∧ t.g F.PCI_SPDM_SESSION = 0 ∧ t.g F.PCI_LINK_SPEED = 0) ∧
        Quiet (onPages [2, 0x28, 0x29]) { s with host := t.host } t)) ∧
      (s.b F.PWR_STAT_PCIE_OK = false → Gives .vpcieReturn s (fun t =>
        t.b F.PWR_STAT_PCIE_OK = true ∧ (s.wake.inReset = false → t.b ((hdrEvt 2).bit 2) = true) ∧ Quiet (onPages [2]) s t)) ∧
      (s.b F.PWR_STAT_VBAT_LOW = false → Gives .vbatLow s (fun t =>
        t.b F.PWR_STAT_VBAT_LOW = true ∧ (s.wake.inReset = false → t.b ((hdrEvt 2).bit 1) = true) ∧ Quiet (onPages [2]) s t)) ∧
      (s.canLive = true → Gives (.xinMeasurement dev) s (fun t =>
        t.g F.CLK_XIN_DEV_DEV = dev.toNat ∧ t.g F.CLK_XIN_DEV_WINDOWS = satTo 32 (s.g F.CLK_XIN_DEV_WINDOWS + 1) ∧
        t.b F.CLK_STAT_XIN_WARN = decide (200 < dev.toInt ∨ dev.toInt < -200) ∧ Quiet (onPages [1]) s t)) ∧
      (s.canLive = true → a < 65536 → b < 65536 → Gives (.pwrMonUpdate a b) s (fun t =>
        t.g F.PWR_MON_LOGIC_MW = a / 250 * 250 ∧ t.g F.PWR_MON_FIELD_MW = b / 250 * 250 ∧ t.g F.PWR_MON_SEQ = satTo 32 (s.g F.PWR_MON_SEQ + 1) ∧
        Quiet (fun k => k = F.PWR_MON_SEQ.key) s t)) ∧
      (s.canLive = true → a < 65536 → b < 65536 → Gives (.pwrMonFineUpdate a b) s (fun t =>
        t.g F.PWR_MON_FINE_RAW = a + 2 ^ 16 * b + 2 ^ 32 * satTo 32 (s.g F.PWR_MON_FINE_RAW / 2 ^ 32 + 1) ∧
        Quiet (fun k => k = F.PWR_MON_FINE_RAW.key) s t)) ∧
      (s.canLive = true → a < 65536 → Gives (.pwrLevelUpdate a b) s (fun t =>
        t.g F.PWR_LEVEL_VBAT_MV = a / 10 * 10 ∧ t.g F.PWR_LEVEL_VFLD_MV = s.bar.vfldMv % 2 ^ F.PWR_LEVEL_VFLD_MV.w ∧
        t.b F.PWR_STAT_VBAT_OK = decide (2250 ≤ b) ∧ t.b F.PWR_STAT_VBAT_LOW = decide (b < 2400) ∧
        (s.b F.PWR_STAT_VBAT_LOW = false → b < 2400 → t.b ((hdrEvt 2).bit 1) = true) ∧ Quiet (onPages [2]) s t))) ∧
  (∀ (s : State) (n : Nat), s.wake.watch = true →
      (s.watched n = true → n ∉ s.wake.recorded → Gives (.fireflyWake n) s (fun t =>
        n ∈ t.wake.recorded ∧ (∀ m ∈ s.wake.recorded, m ∈ t.wake.recorded) ∧ t.wake.waking = true ∧ t.wake.pllStarted = true ∧ Still s t)) ∧
      (s.watched n = false → Gives (.fireflyWake n) s (fun t => Still s t)) ∧
      (s.wake.timerArmed = true → s.watched 3 = true → 3 ∉ s.wake.recorded → Gives .ffyTimerExpiry s (fun t =>
        3 ∈ t.wake.recorded ∧ t.wake.waking = true ∧ t.wake.pllStarted = true ∧ Still { s with wake := { s.wake with timerArmed := false } } t)))

/-! ## ICU, LOG, SYS (R149, R205 to R252) -/

namespace Sys2Proof

/-- A command of the ICU or of LOG with no doorbell under way changes the registers that `touched` names, the ICU's sets, and nothing else. -/
def OnlyIcu (touched : Nat → Prop) (s t : State) : Prop :=
  (∀ k, ¬ touched k → t.word k = s.word k) ∧ t = { s with regs := t.regs, icu := t.icu }

end Sys2Proof

/-- The intake queue delivers in order (R220): an assigned source becomes pending at every target that enables it (R222, R227); a group whose timer
runs out releases what it holds (R228); an unmask sends the message that waited if the line is still asserted, and while vector 0 is masked it waits (R241). -/
def Obligations.intakeAndGroups : Prop :=
  ∀ (s : State) (n : Nat) (rest : List Nat) (grp : Fin 16) (control : MsixControl), s.icu.arriving = [] →
    (s.wake.watch = false → s.icu.queue = n :: rest → sourceAssigned n = true → Gives .doorbellDrain s (fun t =>
      t.icu.queue = rest ∧ t.icu.pend0 = (if s.enabledAt false n then srcAdd s.icu.pend0 n else s.icu.pend0) ∧
      t.icu.pend1 = (if s.enabledAt true n then srcAdd s.icu.pend1 n else s.icu.pend1) ∧
      t.icu.insv0 = s.icu.insv0 ∧ t.icu.insv1 = s.icu.insv1 ∧
      OnlyIcu (fun k => k = (F.ICU_GSTAT_COUNT (s.groupOf false n)).key ∨ k = (F.ICU_GSTAT_COUNT (s.groupOf true n)).key) s t)) ∧
    (s.wake.watch = false → s.icu.queue = n :: rest → sourceAssigned n = false → Gives .doorbellDrain s (fun t =>
      t.icu.queue = rest ∧ t.icu.pend0 = s.icu.pend0 ∧ t.icu.pend1 = s.icu.pend1 ∧ OnlyIcu (fun _ => False) s t)) ∧
    (s.wake.watch = false → s.b (F.ICU_GSTAT_RUNNING grp.val) = true → s.groupTime grp.val ≤ s.g (F.ICU_GSTAT_ELAPSED grp.val) →
      Gives (.groupTimerExpiry grp) s (fun t =>
      (∀ m < 512, srcHas (t.icu.rel (decide (8 ≤ grp.val))) m = (srcHas (s.icu.rel (decide (8 ≤ grp.val))) m ||
        (srcHas (s.icu.pend (decide (8 ≤ grp.val))) m && s.groupOf (decide (8 ≤ grp.val)) m == grp.val))) ∧
      t.icu.pend0 = s.icu.pend0 ∧ t.icu.pend1 = s.icu.pend1 ∧ t.icu.insv0 = s.icu.insv0 ∧ t.icu.insv1 = s.icu.insv1 ∧
      t.g (F.ICU_GSTAT_COUNT grp.val) = 0 ∧ t.g (F.ICU_GSTAT_ELAPSED grp.val) = 0 ∧ t.b (F.ICU_GSTAT_RUNNING grp.val) = false ∧
      t.g (F.ICU_GSTAT_FIRES grp.val) = satTo 32 (s.g (F.ICU_GSTAT_FIRES grp.val) + 1) ∧
      OnlyIcu (fun k => k = (F.ICU_GSTAT_COUNT grp.val).key) s t)) ∧
    (s.icu.line1 = s.requestLine true → Gives (.msixUnmask control) s (fun t =>
      t.icu = { s.icu with msixMasked := control.masked, msixEnabled := control.enabled, msixPending := s.icu.msixPending && control.masked, msixSent := t.icu.msixSent } ∧
      t.icu.msixSent = s.icu.msixSent + (if s.icu.msixPending && !control.masked && s.requestLine true && control.enabled then 1 else 0) ∧
      OnlyIcu (fun _ => False) s t))

/-- Routing: a write of ICU_GCFGn sets the thresholds and fires the group if they are already met (R236); one of ICU_SRCCFGk sets the routing bytes of
its assigned sources, the T0 fields by Keeper alone (R226, R252), never enables a Karpex or a tamper source at T1 (R240), and clears the pending bit of a source that it disables
(R235). -/
def Obligations.routing : Prop :=
  ∀ (s : State) (acc : Accessor) (grp : Fin 16) (index : Fin 64) (v : Word), s.icu.arriving = [] →
    (MayWrite s acc (if grp.val < 8 then 7 else 2) 5 → Gives (.icuGcfgWrite acc grp v) s (fun t =>
      t.g (F.ICU_GCFG_COUNT grp.val) = v.toNat % 256 ∧ t.g (F.ICU_GCFG_TIME grp.val) = v.toNat / 256 % 65536 ∧
      (if max 1 (v.toNat % 256) ≤ s.g (F.ICU_GSTAT_COUNT grp.val) ∨ max 1 (v.toNat / 256 % 65536) ≤ s.g (F.ICU_GSTAT_ELAPSED grp.val) then
        t.g (F.ICU_GSTAT_COUNT grp.val) = 0 ∧ t.b (F.ICU_GSTAT_RUNNING grp.val) = false ∧
        t.g (F.ICU_GSTAT_FIRES grp.val) = satTo 32 (s.g (F.ICU_GSTAT_FIRES grp.val) + 1)
      else t.word (F.ICU_GSTAT_COUNT grp.val).key = s.word (F.ICU_GSTAT_COUNT grp.val).key ∧ t.icu.rel0 = s.icu.rel0 ∧ t.icu.rel1 = s.icu.rel1) ∧
      OnlyIcu (fun k => k = (F.ICU_GCFG_COUNT grp.val).key ∨ k = (F.ICU_GSTAT_COUNT grp.val).key) s t)) ∧
    (MayWrite s acc 2 5 → Gives (.icuSrccfgWrite acc index v) s (fun t =>
      (∀ j < 8, t.route (8 * index.val + j) =
        if sourceAssigned (8 * index.val + j) then
          16 * (if (384 ≤ 8 * index.val + j ∧ 8 * index.val + j ≤ 447) ∨ (496 ≤ 8 * index.val + j ∧ 8 * index.val + j ≤ 510) then
            v.toNat / 2 ^ (8 * j + 4) % 8 else v.toNat / 2 ^ (8 * j + 4) % 16) +
          (if acc = .keeper ∨ acc = .mgmt then v.toNat / 2 ^ (8 * j) % 16 else s.route (8 * index.val + j) % 16)
        else s.route (8 * index.val + j)) ∧
      (∀ m < 512, srcHas t.icu.pend0 m = (srcHas s.icu.pend0 m && (m / 8 != index.val || !sourceAssigned m || t.enabledAt false m)) ∧
        srcHas t.icu.pend1 m = (srcHas s.icu.pend1 m && (m / 8 != index.val || !sourceAssigned m || t.enabledAt true m))) ∧
      t.icu.insv0 = s.icu.insv0 ∧ t.icu.insv1 = s.icu.insv1 ∧ OnlyIcu (fun k => k = (F.ICU_SRCCFG_BYTES index.val).key) s t))

/-- Claims and completes: a claim returns the highest source that is pending, released, delivered and not in service at the target, clears its pending
bit and takes it into service (R230, R231); any other accessor's read is a peek (R232); a complete ends the service (R233), and a T1 complete that leaves the line asserted
sends another message (R241). -/
def Obligations.claimsAndCompletes : Prop :=
  ∀ (s : State) (acc : Accessor) (source : Nat), s.icu.arriving = [] → s.clocked = true →
    (s.mayRead .keeper 7 5 = true → Gives (.icuClaim .keeper .t0) s (fun t => ∃ n, t.readOut = BitVec.ofNat 64 n ∧
      (if s.claimable false = 0 then n = 0 ∧ t.icu.pend0 = s.icu.pend0 ∧ t.icu.insv0 = s.icu.insv0
      else srcHas (s.claimable false) n = true ∧ (∀ m, srcHas (s.claimable false) m = true → m ≤ n) ∧
        (n ≠ 0 → t.icu.pend0 = srcDel s.icu.pend0 n ∧ t.icu.insv0 = srcAdd s.icu.insv0 n)) ∧
      t.icu.pend1 = s.icu.pend1 ∧ t.icu.insv1 = s.icu.insv1 ∧ OnlyIcu (fun _ => False) { s with readOut := t.readOut } t)) ∧
    (s.mayRead .host 0 5 = true → Gives (.icuClaim .host .t1) s (fun t => ∃ n, t.readOut = BitVec.ofNat 64 n ∧
      (if s.claimable true = 0 then n = 0 ∧ t.icu.pend1 = s.icu.pend1 ∧ t.icu.insv1 = s.icu.insv1
      else srcHas (s.claimable true) n = true ∧ (∀ m, srcHas (s.claimable true) m = true → m ≤ n) ∧
        (n ≠ 0 → t.icu.pend1 = srcDel s.icu.pend1 n ∧ t.icu.insv1 = srcAdd s.icu.insv1 n)) ∧
      t.icu.pend0 = s.icu.pend0 ∧ t.icu.insv0 = s.icu.insv0 ∧ OnlyIcu (fun _ => False) { s with readOut := t.readOut } t)) ∧
    (s.mayRead acc 0 5 = true → acc ≠ .host → Gives (.icuClaim acc .t1) s (fun t =>
      t.readOut = BitVec.ofNat 64 (s.claimPeek true) ∧ t.icu.pend1 = s.icu.pend1 ∧ t.icu.insv1 = s.icu.insv1 ∧
      OnlyIcu (fun _ => False) { s with readOut := t.readOut } t)) ∧
    (MayWrite s acc 7 5 → source < 512 → Gives (.icuComplete acc .t0 source) s (fun t =>
      t.icu.insv0 = srcDel s.icu.insv0 source ∧ t.icu.insv1 = s.icu.insv1 ∧ t.icu.pend0 = s.icu.pend0 ∧ t.icu.pend1 = s.icu.pend1 ∧
      OnlyIcu (fun _ => False) s t)) ∧
    (MayWrite s acc 2 5 → source < 512 → Gives (.icuComplete acc .t1 source) s (fun t =>
      t.icu.insv1 = srcDel s.icu.insv1 source ∧ t.icu.insv0 = s.icu.insv0 ∧ t.icu.pend0 = s.icu.pend0 ∧ t.icu.pend1 = s.icu.pend1 ∧
      (srcHas s.icu.insv1 source = true → s.icu.line1 = true → t.requestLine true = true → s.icu.msixEnabled = true → s.icu.msixMasked = false →
        t.icu.msixSent = s.icu.msixSent + 1) ∧ OnlyIcu (fun _ => False) s t))

/-- The LOG clears: each class that is not marked bad returns to 0 with its saturation mark (R208, R211, R217); a class whose entry fails its parity check twice is marked bad
instead (R210, R211); LOG_CLR_SELF clears the self-failure count (R217). SYS sequence 1 sets the asset label (R149). -/
def Obligations.logClearsAndLabel : Prop :=
  ∀ (s : State) (acc : Accessor) (classes bits v0 v1 : Word) (c : Nat),
    (MayWrite s acc 5 4 → s.icu.arriving = [] → s.logUpsets = [] → Gives (.logClrClass acc classes []) s (fun t =>
      (∀ i < 64, t.g (F.LOG_CLASS_COUNT i) = (if classes.toNat.testBit i && !s.isBadClass i then 0 else s.g (F.LOG_CLASS_COUNT i)) ∧
        t.b ⟨F.LOG_SAT_SAT.key, i, 1⟩ = (if classes.toNat.testBit i && !s.isBadClass i then false else s.b ⟨F.LOG_SAT_SAT.key, i, 1⟩) ∧
        t.isBadClass i = s.isBadClass i) ∧
      OnlyIcu (fun k => k = F.LOG_SAT_SAT.key ∨ k / 0x100000 = 4 ∧ 0x100 ≤ k % 0x100000 ∧ k % 0x100000 < 0x300) s t)) ∧
    (MayWrite s acc 5 4 → s.icu.arriving = [] → s.logUpsets = [] → c < 64 → c ≠ 45 → s.isBadClass c = false →
      Gives (.logClrClass acc (BitVec.ofNat 64 (2 ^ c)) [(c, true)]) s (fun t =>
        t.isBadClass c = true ∧ t.g (F.LOG_CLASS_COUNT c) = 0xffffffff ∧ t.b F.LOG_STAT_SELF_FAIL = true ∧ Still s t)) ∧
    (MayWrite s acc 5 4 → s.icu.arriving = [] → Gives (.logClrSelf acc bits) s (fun t =>
      t.g F.LOG_SELF_COUNT = (if bits.toNat.testBit 0 then 0 else s.g F.LOG_SELF_COUNT) ∧
      t.b F.LOG_STAT_SELF_FAIL = (if bits.toNat.testBit 0 then false else s.b F.LOG_STAT_SELF_FAIL) ∧
      OnlyIcu (fun k => k = F.LOG_SELF_COUNT.key ∨ k = F.LOG_STAT_SELF_FAIL.key) s t)) ∧
    (SequenceAt s acc 1 0 1 [(0x90, v0)] → Gives (.sysAssetSet acc v1) s (fun t =>
      LockDone 0 t ∧ t.word (regKey 0 0x90) = v0 ∧ t.word (regKey 0 0x98) = v1 ∧
      Quiet (fun k => k = regKey 0 0x90 ∨ k = regKey 0 0x98 ∨ k = regKey 0 0x40) { s with holds := t.holds, freeCount := t.freeCount } t))

/-! ## Keys, tamper, counters, secure NVM (R23, R501, R537, R545 to R575) -/

namespace Sys2Proof

/-- Every delivered key is gone, HBX's and a running package load's too, and the door engines have parked (R23, R367, R408, R628). -/
def KeysGone (t : State) : Prop :=
  t.mod.keysAbsent = true ∧ t.cb0.keys = [] ∧ t.cb1.keys = [] ∧ t.cb0.timeKey = none ∧ t.cb1.timeKey = none ∧ t.cb1.groupKey = none ∧
  (∀ j < 16, t.b (F.CB_JOB_STAT_KEYED 0 j) = false) ∧ (∀ j < 64, t.b (F.CB_JOB_STAT_KEYED 1 j) = false) ∧
  t.host.hbxKeys = none ∧ t.dse.pkgKey = none ∧ t.b F.PKG_STAT_LOADING = false ∧
  (∀ n < 2, t.b (F.DOR_CFG_EN n) = true → t.g (F.DOR_STATE_STATE n) = 10)

/-- The state after keys are cleared, but for what keys reach (R23). -/
def keyParts (s t : State) : State :=
  { s with mod := { s.mod with keysAbsent := t.mod.keysAbsent, parked := t.mod.parked }, cb0 := t.cb0, cb1 := t.cb1, host := t.host, mgt := t.mgt, dse := t.dse
           dor0 := { s.dor0 with confirming := t.dor0.confirming, ask := t.dor0.ask, dwellRunning := t.dor0.dwellRunning, heldDue := t.dor0.heldDue }
           dor1 := { s.dor1 with confirming := t.dor1.confirming, ask := t.dor1.ask, dwellRunning := t.dor1.dwellRunning, heldDue := t.dor1.heldDue } }

/-- The sensors that newly show their condition (R564, R566). -/
def newAnomalies (s : State) (sensors : BitVec 11) : Nat := sensors.toNat &&& s.tmpArmed &&& (0x7ff ^^^ s.g F.TMP_STAT_ACTIVE)

end Sys2Proof

/-- Anomalies by level (R566): Alarm latches, counts and posts; Lock takes every key and the ephemeral registers (R568); Zeroize erases the root, the BBRAM slots, the
non-public NVM slots and the delivered keys (R570, R571). In the battery domain a Zeroize erases BBRAM alone (R570). The fence link: a revoke clears every delivered key, and so does a frame that fails authentication (R23), which is an anomaly of sensor 9 too
(R24): it is latched, and counted at Alarm level (R566). -/
def Obligations.tamperAnomalies : Prop :=
  (∀ (s : State) (sensors : BitVec 11),
      (newAnomalies s sensors ≠ 0 → s.wake.inReset = false → (∀ i < 11, (newAnomalies s sensors).testBit i → s.tmpLevel i = 0) →
        Gives (.tamperAnomaly sensors) s (fun t =>
          t.g F.TMP_LATCH_SEEN = s.g F.TMP_LATCH_SEEN ||| newAnomalies s sensors ∧ t.b F.TMP_LATCH_VALID = true ∧
          (s.b F.TMP_LATCH_VALID = false → (newAnomalies s sensors).testBit (t.g F.TMP_LATCH_FIRST) = true ∧
            ∀ i < 11, (newAnomalies s sensors).testBit i → i ≤ t.g F.TMP_LATCH_FIRST) ∧
          (∀ i < 11, t.g (F.TMP_CNT_ALARM i) = (if (newAnomalies s sensors).testBit i then satTo (F.TMP_CNT_ALARM i).w (s.g (F.TMP_CNT_ALARM i) + 1)
            else s.g (F.TMP_CNT_ALARM i)) ∧ ((newAnomalies s sensors).testBit i → t.b ((hdrEvt 0x33).bit i) = true)) ∧
          Quiet (onPages [0x33]) s t)) ∧
      (newAnomalies s sensors = 0 → Gives (.tamperAnomaly sensors) s (fun t =>
        t.g F.TMP_STAT_ACTIVE = sensors.toNat &&& s.tmpArmed &&& tmpStanding ∧ Quiet (fun k => k = F.TMP_STAT_ACTIVE.key) s t)) ∧
      (s.wake.inReset = false → s.bat.lock = false → (∃ i < 11, (newAnomalies s sensors).testBit i ∧ s.tmpLevel i = 1) →
        (∀ i < 11, (newAnomalies s sensors).testBit i → s.tmpLevel i < 2) → Gives (.tamperAnomaly sensors) s (fun t =>
          t.bat.lock = true ∧ KeysGone t ∧ t.key.eph = List.replicate 32 none ∧ t.b ((hdrEvt 0x33).bit 18) = true ∧
          t.g F.ATT_STAT_MSEQ = (s.g F.ATT_STAT_MSEQ + 1) % 2 ^ F.ATT_STAT_MSEQ.w ∧
          Quiet (onPages [0x19, 0x1a, 0x1c, 0x20, 0x21, 0x28, 0x2a, 0x31, 0x33, 0x34, 0x35])
            { keyParts s t with bat := { s.bat with lock := true }, mod := t.mod, key := { s.key with eph := t.key.eph } } t)) ∧
      (s.wake.inReset = false → s.wake.watch = false → (∃ i < 11, (newAnomalies s sensors).testBit i ∧ s.tmpLevel i = 2) →
        Gives (.tamperAnomaly sensors) s (fun t =>
          t.bat.zeroized = true ∧ t.bat.lock = true ∧ t.bat.opRoot = none ∧ t.b F.KEY_ROOT_PRESENT = false ∧ t.emc.key = none ∧
          t.key.handles = [] ∧ t.key.eph = List.replicate 32 none ∧ t.b ((hdrEvt 0x33).bit 19) = true ∧ KeysGone t ∧
          (∀ n < 64, t.b (F.KEY_POL_VALID n) = false) ∧
          (∀ n < 256, 64 ≤ n → t.b (F.KEY_POL_VALID n) = (s.b (F.KEY_POL_VALID n) && s.g (F.KEY_POL_TYPE n) == 2)) ∧
          Quiet (onPages [0x19, 0x1a, 0x1b, 0x1c, 0x20, 0x21, 0x28, 0x2a, 0x2b, 0x31, 0x33, 0x34, 0x35])
            { keyParts s t with bat := t.bat, mod := t.mod, key := t.key, emc := t.emc } t)) ∧
      (s.wake.inReset = true → (∃ i < 11, (newAnomalies s sensors).testBit i ∧ s.tmpLevel i = 2) → Gives (.tamperAnomaly sensors) s (fun t =>
          t.bat.zeroized = true ∧ t.bat.opRoot = none ∧ (∀ n < 64, t.b (F.KEY_POL_VALID n) = false) ∧
          (∀ n < 256, 64 ≤ n → t.b (F.KEY_POL_VALID n) = s.b (F.KEY_POL_VALID n)) ∧
          Quiet (onPages [0x31, 0x33]) { s with bat := t.bat, key := t.key } t))) ∧
  (∀ (s : State), s.b F.SYS_STAT_FENCE_UP = true →
      Gives .fenceRevoke s (fun t => KeysGone t ∧ t.b ((hdrEvt 0x31).bit 3) = true ∧
        Quiet (onPages [0x19, 0x1a, 0x1c, 0x20, 0x21, 0x28, 0x2a, 0x31]) (keyParts s t) t) ∧
      Gives .fenceAuthFail s (fun t => KeysGone t ∧ (t.g F.TMP_LATCH_SEEN).testBit 9 = true ∧ t.b F.TMP_LATCH_VALID = true) ∧
      (s.wake.inReset = false → s.tmpLevel 9 = 0 → Gives .fenceAuthFail s (fun t =>
        t.g (F.TMP_CNT_ALARM 9) = satTo (F.TMP_CNT_ALARM 9).w (s.g (F.TMP_CNT_ALARM 9) + 1) ∧ t.b ((hdrEvt 0x33).bit 9) = true ∧
        Quiet (onPages [0x19, 0x1a, 0x1c, 0x20, 0x21, 0x28, 0x2a, 0x31, 0x33]) (keyParts s t) t)) ∧
      (s.wake.inReset = false → s.tmpLevel 9 = 1 → s.bat.lock = false → Gives .fenceAuthFail s (fun t =>
        t.bat.lock = true ∧ t.key.eph = List.replicate 32 none ∧ t.b ((hdrEvt 0x33).bit 18) = true ∧ t.bat.zeroized = s.bat.zeroized)))

/-- The registers of TMP and the consent clock: no level falls below its floor (R565); the latch and the counts clear (R575); Lock is lifted unless a
sensor at Lock level or above still shows its condition, which is LOST (R569), and keys are delivered then at the next epoch (R561); counter 3 counts hours
and ends a debug consent (R559, R664). -/
def Obligations.tamperRegisters : Prop :=
  ∀ (s : State) (acc : Accessor) (v : Word),
    (MayWrite s acc 9 0x33 → Gives (.tmpLevelWrite acc v) s (fun t =>
      (∀ i < 11, t.g F.TMP_LEVEL_LEVEL / 4 ^ i % 4 = max (v.toNat / 4 ^ i % 4) (s.fuse.tmpFloor / 4 ^ i % 4)) ∧
      Quiet (fun k => k = F.TMP_LEVEL_LEVEL.key) s t)) ∧
    (MayWrite s acc 9 0x33 → Gives (.tmpClrLatch acc) s (fun t =>
      t.word F.TMP_LATCH_VALID.key = 0 ∧ Quiet (fun k => k = F.TMP_LATCH_VALID.key) s t)) ∧
    (MayWrite s acc 9 0x33 → Gives (.tmpClrCounts acc) s (fun t =>
      (∀ i < 11, t.word (F.TMP_CNT_ALARM i).key = 0) ∧ Quiet (fun k => k ∈ (List.range 11).map (fun i => (F.TMP_CNT_ALARM i).key)) s t)) ∧
    (MayWrite s acc 9 0x33 → s.bat.lock = true → s.lockStands = true → Gives (.lockLift acc) s (fun t =>
      t.bat.lock = true ∧ t.g (hdrTrouble 0x33 3) = satTo 16 (s.g (hdrTrouble 0x33 3) + 1) ∧ Quiet (fun k => k = regKey 0x33 0x30) s t)) ∧
    (MayWrite s acc 9 0x33 → s.bat.lock = true → s.lockStands = false → s.bat.molting = false → (s.bat.zeroized = true ∨ s.tenancy = .molting) →
      Gives (.lockLift acc) s (fun t =>
        t.b ((hdrEvt 0x33).bit 16) = true ∧ t.g F.ATT_STAT_MSEQ = (s.g F.ATT_STAT_MSEQ + 1) % 2 ^ F.ATT_STAT_MSEQ.w ∧
        Quiet (onPages [0x33, 0x35]) { s with bat := { s.bat with lock := false } } t)) ∧
    (MayWrite s acc 9 0x33 → s.bat.lock = true → s.lockStands = false → s.bat.zeroized = false → s.tenancy ≠ .molting → s.bat.opRoot ≠ none →
      s.bat.rootFailing = [] → Gives (.lockLift acc) s (fun t =>
        t.bat.lock = false ∧ t.b ((hdrEvt 0x33).bit 16) = true ∧ t.b ((hdrEvt 0x31).bit 2) = true ∧ t.ctr 7 = min 0xffffffff (s.ctr 7 + 1) ∧
        t.mod.keysAbsent = t.someUnkeyed)) ∧
    (s.wake.inReset = false → Gives .consentClockTick s (fun t =>
      t.ctr 3 = min 0xffffffff (s.ctr 3 + 1) ∧
      t.mod = (if s.debug ≠ .closed ∧ s.g F.DBG_CONSENT_EXPIRY ≤ t.ctr 3 then { s.mod with calls := s.mod.calls ++ [⟨9, 0, 0x13, 0⟩] } else s.mod) ∧
      Quiet (fun k => k = (F.CTR_VAL_VALUE 3).key ∨ k = (hdrEvt 0x32).key) { s with mod := t.mod } t))

/-- Karpex's own registers: ROMOFF closes the ROM and seals the first measurements (R501, R600); a secure NVM command takes its address and data, one at a time, and ends by programming a
word or erasing a sector (R537); a counter advances by one or rises to a value, never falls, and stops at all ones (R559, R560). -/
def Obligations.karpexRegisters : Prop :=
  ∀ (s : State) (acc : Accessor) (i : Fin 32) (v : BitVec 32) (a cell : Nat) (w : Word) (ok : Bool),
    (MayWrite s acc 9 0x30 → Gives (.romoff acc) s (fun t =>
      t.b F.KPX_CTL_ROMOFF = true ∧ t.b F.ATT_STAT_SEALED = true ∧ Quiet (fun k => k = F.KPX_CTL_ROMOFF.key ∨ k = F.ATT_STAT_SEALED.key) s t)) ∧
    (MayWrite s acc 9 0x30 → s.core.nvm = none → Gives (.nvmProgram acc) s (fun t =>
      t.core = { s.core with nvm := some (1, s.g F.KPX_NVMADDR_ADDR * 8, s.word F.KPX_NVMDATA_DATA.key) } ∧ t.b F.KPX_NVMSTAT_BUSY = true ∧
      Quiet (fun k => k = F.KPX_NVMSTAT_BUSY.key) { s with core := t.core } t)) ∧
    (MayWrite s acc 9 0x30 → s.core.nvm = none → Gives (.nvmErase acc) s (fun t =>
      t.core = { s.core with nvm := some (2, s.g F.KPX_NVMADDR_ADDR * 8, s.word F.KPX_NVMDATA_DATA.key) } ∧ t.b F.KPX_NVMSTAT_BUSY = true ∧
      Quiet (fun k => k = F.KPX_NVMSTAT_BUSY.key) { s with core := t.core } t)) ∧
    (s.core.nvm = some (1, a, w) → Gives (.nvmDone true) s (fun t =>
      t.loadLe (0x28000000 + a) 8 = w.toNat ∧ (∀ a', ¬(0x28000000 + a ≤ a' ∧ a' < 0x28000008 + a) → t.byte a' = s.byte a') ∧
      t.b F.KPX_NVMSTAT_BUSY = false ∧ t.b F.KPX_NVMSTAT_FAIL = false ∧ t.b ((hdrEvt 0x30).bit 0) = true ∧
      Quiet (onPages [0x30]) { s with mem := t.mem, core := { s.core with nvm := none }, nvm := { s.nvm with badWords := t.nvm.badWords } } t)) ∧
    (s.core.nvm = some (2, a, w) → Gives (.nvmDone ok) s (fun t =>
      (∀ j < 4096, t.byte (0x28000000 + a / 4096 * 4096 + j) = Config.nvmErasedByte s.freeCount (a / 4096 * 4096 + j)) ∧
      (cell < 0x28000000 + a / 4096 * 4096 ∨ 0x28001000 + a / 4096 * 4096 ≤ cell → t.byte cell = s.byte cell) ∧
      t.b F.KPX_NVMSTAT_BUSY = false ∧ t.b F.KPX_NVMSTAT_FAIL = !ok ∧ t.b ((hdrEvt 0x30).bit 0) = true ∧
      Quiet (onPages [0x30]) { s with mem := t.mem, core := { s.core with nvm := none }, freeCount := s.freeCount + 1, nvm := { s.nvm with badWords := t.nvm.badWords } } t)) ∧
    (MayWrite s acc 9 0x32 → s.ctr i.val < 0xffffffff → Gives (.incCounter acc i true) s (fun t =>
      t.ctr i.val = s.ctr i.val + 1 ∧ t.g F.CTR_CMDSTAT_STATE = 2 ∧ t.g F.CTR_CMDSTAT_CAUSE = 0 ∧ t.b ((hdrEvt 0x32).bit 0) = true ∧
      (∀ j < 32, j ≠ i.val → t.ctr j = s.ctr j) ∧ Quiet (onPages [0x32]) { s with mod := { s.mod with calls := t.mod.calls } } t)) ∧
    (MayWrite s acc 9 0x32 → s.ctr i.val = 0xffffffff → Gives (.incCounter acc i ok) s (fun t =>
      t.ctr i.val = 0xffffffff ∧ t.g F.CTR_CMDSTAT_STATE = 3 ∧ t.g F.CTR_CMDSTAT_CAUSE = 2 ∧
      t.g (hdrTrouble 0x32 3) = satTo 16 (s.g (hdrTrouble 0x32 3) + 1) ∧ Quiet (onPages [0x32]) s t)) ∧
    (MayWrite s acc 9 0x32 → s.ctr i.val < v.toNat → Gives (.raiseCounter acc i v true) s (fun t =>
      t.ctr i.val = v.toNat ∧ t.g F.CTR_CMDSTAT_STATE = 2 ∧ t.b ((hdrEvt 0x32).bit 0) = true ∧
      (∀ j < 32, j ≠ i.val → t.ctr j = s.ctr j) ∧ Quiet (onPages [0x32]) { s with mod := { s.mod with calls := t.mod.calls } } t)) ∧
    (MayWrite s acc 9 0x32 → v.toNat ≤ s.ctr i.val → Gives (.raiseCounter acc i v ok) s (fun t =>
      t.ctr i.val = s.ctr i.val ∧ t.g F.CTR_CMDSTAT_STATE = 3 ∧ t.g F.CTR_CMDSTAT_CAUSE = 1 ∧
      t.g (hdrTrouble 0x32 3) = satTo 16 (s.g (hdrTrouble 0x32 3) + 1) ∧ Quiet (onPages [0x32]) s t))

/-! ## KEY commands (R541 to R574) -/

namespace Sys2Proof

/-- KEY sequence 1 is at its final write, with KEY_SRC and KEY_POLICY written (R572). -/
def KeySequence (s : State) (acc : Accessor) (src pol : Word) : Prop := SequenceAt s acc 9 0x31 1 [(0x88, src), (0x90, pol)]

/-- A KEY command has ended: 2 done, 3 failed with a cause, with its event (R575). -/
def KeyEnded (t : State) (slot state cause : Nat) : Prop :=
  LockDone 0x31 t ∧ t.g F.KEY_CMDSTAT_STATE = state ∧ t.g F.KEY_CMDSTAT_CAUSE = cause ∧ t.g F.KEY_CMDSTAT_SLOT = slot ∧ t.b ((hdrEvt 0x31).bit 1) = true

/-- What a slot shows and holds, with no handle open on it (R527, R546, R547). -/
def SlotHolds (t : State) (n typ uses : Nat) (applet : Bool) (content : List Byte) : Prop :=
  t.b (F.KEY_POL_VALID n) = true ∧ t.g (F.KEY_POL_TYPE n) = typ ∧ t.g (F.KEY_POL_USES n) = uses ∧ t.b (F.KEY_POL_APPLET n) = applet ∧
  t.slotOf n = ⟨content, []⟩ ∧ ∀ h ∈ t.key.handles, h.key ≠ .slot n

/-- Every other slot is as it was. -/
def OtherSlots (s t : State) (n : Nat) : Prop :=
  ∀ m < 256, m ≠ n → t.word (F.KEY_POL_VALID m).key = s.word (F.KEY_POL_VALID m).key

end Sys2Proof

/-- GENERATE draws a key into a device-class slot under KEY_POLICY, DELETE empties a slot, CHECK checks one (R551, R552, R572). -/
def Obligations.slotCommands : Prop :=
  ∀ (s : State) (acc : Accessor) (slot : Byte) (arg : BitVec 16) (check : KeyCheck) (src pol : Word) (k : KeySlot) (rest : List Bool),
    KeySequence s acc src pol →
    (slotClass slot.toNat = 0 → usesOk (pol.toNat / 64 % 4) (pol.toNat / 65536 % 1024) = true →
      (pol.toNat / 64 % 4 = 2 ∨ s.b F.KEY_ROOT_PRESENT = true) → s.b (F.KEY_POL_BAD slot.toNat) = false → (slot.toNat < 64 ∨ check.programOk = true) →
      Gives (.generateSlot acc slot arg check) s (fun t =>
        KeyEnded t slot.toNat 2 0 ∧ OtherSlots s t slot.toNat ∧
        SlotHolds t slot.toNat (pol.toNat / 64 % 4) (pol.toNat / 65536 % 1024) (pol.getLsbD 5)
          ((List.range (contentLen (pol.toNat / 64 % 4))).map (Config.drbgByte s.freeCount)) ∧
        Quiet (onPages [0x31]) { s with key := t.key, holds := t.holds, freeCount := s.freeCount + 1 } t)) ∧
    ((slotClass slot.toNat ≠ 0 ∨ usesOk (pol.toNat / 64 % 4) (pol.toNat / 65536 % 1024) = false) →
      Gives (.generateSlot acc slot arg check) s (fun t =>
        KeyEnded t slot.toNat 3 1 ∧ t.g (hdrTrouble 0x31 3) = satTo 16 (s.g (hdrTrouble 0x31 3) + 1) ∧
        Quiet (onPages [0x31]) { s with holds := t.holds } t)) ∧
    ((slot.toNat < 64 ∨ check.programOk = true) → Gives (.deleteSlot acc slot arg check) s (fun t =>
        KeyEnded t slot.toNat 2 0 ∧ OtherSlots s t slot.toNat ∧ t.b (F.KEY_POL_VALID slot.toNat) = false ∧
        t.b (F.KEY_POL_BAD slot.toNat) = s.b (F.KEY_POL_BAD slot.toNat) ∧ t.slotOf slot.toNat = ⟨[], []⟩ ∧
        (∀ h ∈ t.key.handles, h.key ≠ .slot slot.toNat) ∧ Quiet (onPages [0x31]) { s with key := t.key, holds := t.holds } t)) ∧
    (s.slotValid slot.toNat = true → s.slotOf slot.toNat = { k with failing := [] } → Gives (.checkSlot acc slot arg) s (fun t =>
        KeyEnded t slot.toNat 2 0 ∧ t.g (F.KEY_INFO_CHECKS slot.toNat) = satTo 16 (s.g (F.KEY_INFO_CHECKS slot.toNat) + 1) ∧
        Quiet (onPages [0x31]) { s with holds := t.holds, freeCount := t.freeCount } t)) ∧
    (s.slotValid slot.toNat = true → s.slotOf slot.toNat = { k with failing := true :: true :: rest } → Gives (.checkSlot acc slot arg) s (fun t =>
        KeyEnded t slot.toNat 3 5 ∧ t.b (F.KEY_POL_BAD slot.toNat) = true ∧ t.b (F.KEY_BAD_BAD (slot.toNat / 64)) = true ∧ t.b ((hdrEvt 0x31).bit 0) = true ∧
        t.g (hdrTrouble 0x31 1) = satTo 16 (s.g (hdrTrouble 0x31 1) + 1) ∧
        Quiet (onPages [0x31]) { s with key := t.key, holds := t.holds, freeCount := t.freeCount } t))

/-- IMPORT: a blob that passes every check fills or empties its slot and raises the counter of its class to its sequence number (R554 to R556); the checks fail with
their causes, in order (R556, R568). -/
def Obligations.imports : Prop :=
  ∀ (s : State) (acc : Accessor) (slot : Byte) (arg : BitVec 16) (check : KeyCheck) (src pol : Word) (au : Nat × Nat),
    KeySequence s acc src pol →
    let blob := s.bytes (src.toNat % 2 ^ 32) 352
    (impAuthority (impSlot blob) = some au → s.slotValid au.1 = true → (s.slotOf au.1).failing = [] → s.bat.rootFailing = [] → s.bat.opRoot.isSome = true →
      s.impCause blob check true = none → Gives (.importSlot acc slot arg check) s (fun t =>
        KeyEnded t slot.toNat 2 0 ∧ s.ctr au.2 < impSeq blob ∧ t.ctr au.2 = impSeq blob ∧
        (if impType blob = 0xff then t.b (F.KEY_POL_VALID (impSlot blob)) = false
          else SlotHolds t (impSlot blob) (impType blob) (impUses blob) (leAt blob 8 1 == 1) (s.impContent blob)) ∧
        (∀ m < 256, m ≠ impSlot blob → t.word (F.KEY_POL_VALID m).key = s.word (F.KEY_POL_VALID m).key) ∧
        Quiet (onPages [0x31, 0x32]) { s with key := t.key, holds := t.holds } t)) ∧
    (s.bat.lock = true → Gives (.importSlot acc slot arg check) s (fun t =>
        KeyEnded t slot.toNat 3 9 ∧ Quiet (onPages [0x31]) { s with holds := t.holds } t)) ∧
    (s.bat.lock = false → impFieldsOk blob = false → Gives (.importSlot acc slot arg check) s (fun t =>
        KeyEnded t slot.toNat 3 1 ∧ Quiet (onPages [0x31]) { s with holds := t.holds } t)) ∧
    (s.bat.lock = false → impFieldsOk blob = true → (impType blob = 2 ∨ impType blob = 0xff) → impAuthority (impSlot blob) = some au →
      s.slotValid au.1 = true → (s.slotOf au.1).failing = [] → (check.signatureOk = false ∨ impSeq blob ≤ s.ctr au.2) →
      Gives (.importSlot acc slot arg check) s (fun t =>
        KeyEnded t slot.toNat 3 (if check.signatureOk then 8 else 3) ∧ Quiet (onPages [0x31]) { s with holds := t.holds } t))

/-- DELIVER gives one job its key at the epoch of counter 7 (R561, R572), refused under Lock (R568) and while Molting (R55); NEWROOT makes an Operational Root where a blank or zeroized module has
none, and counts it (R541); COMMIT ends a zeroization outside a Molt once the tenant's keys are there (R574). -/
def Obligations.rootsAndDelivery : Prop :=
  ∀ (s : State) (acc : Accessor) (slot : Byte) (arg : BitVec 16) (check : KeyCheck) (src pol : Word),
    KeySequence s acc src pol →
    (s.bat.lock = true → Gives (.deliver acc slot arg) s (fun t =>
        KeyEnded t slot.toNat 3 9 ∧ Quiet (onPages [0x31]) { s with holds := t.holds, freeCount := t.freeCount } t)) ∧
    (s.bat.lock = false → s.tenancy = .molting → Gives (.deliver acc slot arg) s (fun t =>
        LockDone 0x31 t ∧ t.g F.KEY_CMDSTAT_STATE = 3 ∧ t.g F.KEY_CMDSTAT_SLOT = slot.toNat ∧ t.b ((hdrEvt 0x31).bit 1) = true ∧
        Quiet (onPages [0x31]) { s with holds := t.holds, freeCount := t.freeCount } t)) ∧
    (s.bat.lock = false → s.tenancy ≠ .molting → s.bat.zeroized = false → s.slotValid slot.toNat = true → (s.g (F.KEY_POL_USES slot.toNat)).testBit 5 = true →
      (s.slotOf slot.toNat).failing = [] → jobNumberOk arg.toNat = true → s.bat.rootFailing = [] → s.bat.opRoot.isSome = true →
      Gives (.deliver acc slot arg) s (fun t =>
        KeyEnded t slot.toNat 2 0 ∧
        (t.can (arg.toNat / 256)).keys = jobKeyOf (s.slotOf slot.toNat).bytes (arg.toNat / 256) (arg.toNat % 256) (s.ctr 7) ::
          (s.can (arg.toNat / 256)).keys.filter (fun k => k.job != arg.toNat % 256) ∧
        t.b (F.CB_JOB_STAT_KEYED (arg.toNat / 256) (arg.toNat % 256)) = true ∧ t.mod.keysAbsent = t.someUnkeyed ∧
        Quiet (onPages [0x19, 0x1a, 0x20 + arg.toNat / 256, 0x31])
          { s with cb0 := t.cb0, cb1 := t.cb1, mod := { s.mod with keysAbsent := t.mod.keysAbsent }, holds := t.holds, freeCount := t.freeCount } t)) ∧
    ((s.fuse.life = .blank ∨ s.bat.zeroized = true) → s.b F.KEY_ROOT_PRESENT = false → check.programOk = true → Gives (.newroot acc slot arg check) s (fun t =>
        KeyEnded t slot.toNat 2 0 ∧ t.bat.opRoot = some s.freeCount ∧ t.b F.KEY_ROOT_PRESENT = true ∧ t.ctr 6 = min 0xffffffff (s.ctr 6 + 1) ∧
        t.g F.KEY_ROOT_EPOCH = t.ctr 6 ∧
        Quiet (onPages [0x31, 0x32]) { s with bat := { s.bat with opRoot := t.bat.opRoot, rootFailing := [] }, holds := t.holds, freeCount := s.freeCount + 1 } t)) ∧
    (s.bat.zeroized = true → s.b F.KEY_ROOT_PRESENT = true → s.commitReady = true → s.bat.molting = false → s.bat.rootFailing = [] → s.bat.opRoot.isSome = true →
      Gives (.commitRoot acc slot arg) s (fun t =>
        KeyEnded t slot.toNat 2 0 ∧ t.bat.zeroized = false ∧ t.mod.base = .outOfService ∧ t.mod.parked = false ∧
        t.emc.key = s.bat.opRoot.map (fun r => (s.tenantNo, s.ctr 5, s.ctr 6, r)) ∧
        (s.bat.lock = false → t.ctr 7 = min 0xffffffff (s.ctr 7 + 1) ∧ t.b ((hdrEvt 0x31).bit 2) = true))) ∧
    (s.bat.zeroized = true → s.b F.KEY_ROOT_PRESENT = true → s.commitReady = false → Gives (.commitRoot acc slot arg) s (fun t =>
        KeyEnded t slot.toNat 3 0xb ∧ Quiet (onPages [0x31]) { s with holds := t.holds, freeCount := t.freeCount } t))

/-- The fuses: LIFECYCLE blows the fuse of its target and MOD_REQ1 shows it accepted, a move to Returned erases every slot of a tenant or of management first and disarms the
command gate, since CMG then refuses every commit (R52, R573); a target that is not ready is refused there and blows nothing; after a failed read-back the fuse is blown or not, and the command fails with cause 7 (R572). KEEPER_FLOOR
and TMP_FLOOR rise to their argument, and no outcome lowers one (R544, R565). -/
def Obligations.fuseCommands : Prop :=
  ∀ (s : State) (acc : Accessor) (slot : Byte) (arg : BitVec 16) (check : KeyCheck) (src pol : Word),
    KeySequence s acc src pol →
    let sensor := arg.toNat % 16
    let level := arg.toNat / 16 % 4
    (arg.toNat < 3 → s.lifeReady arg.toNat check = true → check.programOk = true → Gives (.lifecycle acc slot arg check) s (fun t =>
        KeyEnded t slot.toNat 2 0 ∧ t.fuse = { s.fuse with fuseP := s.fuse.fuseP || arg.toNat == 1, fuseD := s.fuse.fuseD || arg.toNat == 2 } ∧
        t.g (F.MOD_REQ_STATE 1) = 2 ∧ t.g (F.MOD_REQ_VALUE 1) = arg.toNat ∧ t.b ((hdrEvt 8).bit 1) = true ∧
        Quiet (onPages [8, 0x31]) { s with fuse := t.fuse, mod := t.mod, holds := t.holds } t)) ∧
    (arg.toNat = 3 → s.fuse.life ≠ .returned → check.programOk = true → Gives (.lifecycle acc slot arg check) s (fun t =>
        KeyEnded t slot.toNat 2 0 ∧ t.fuse = { s.fuse with fuseRt := true } ∧ t.g (F.MOD_REQ_STATE 1) = 2 ∧ t.g (F.MOD_REQ_VALUE 1) = 3 ∧
        t.b ((hdrEvt 8).bit 1) = true ∧ t.nvm = { s.nvm with site := [] } ∧ t.bat.opRoot = none ∧
        (∀ n < 256, (n < 64 ∨ slotClass n ≠ 0) → t.b (F.KEY_POL_VALID n) = false) ∧
        t.bar = { s.bar with gateQ := s.bar.gateQ ++ [.disarm], disarming := true } ∧
        Quiet (onPages [8, 0x31]) { s with fuse := t.fuse, mod := t.mod, nvm := t.nvm, bat := t.bat, bar := t.bar, key := t.key, holds := t.holds } t)) ∧
    (s.lifeReady arg.toNat check = false → Gives (.lifecycle acc slot arg check) s (fun t =>
        LockDone 0x31 t ∧ t.g F.KEY_CMDSTAT_STATE = 3 ∧ t.g (F.MOD_REQ_STATE 1) = 3 ∧ 1 ≤ t.g (F.MOD_REQ_CAUSE 1) ∧ t.g (F.MOD_REQ_CAUSE 1) ≤ 12 ∧
        t.b ((hdrEvt 8).bit 1) = true ∧ Quiet (onPages [8, 0x31]) { s with mod := t.mod, holds := t.holds, freeCount := t.freeCount } t)) ∧
    (s.lifeReady arg.toNat check = true → check.programOk = false → Gives (.lifecycle acc slot arg check) s (fun t =>
        KeyEnded t slot.toNat 3 7 ∧ t.g (F.MOD_REQ_STATE 1) = 3 ∧ (t.fuse = s.fuse ∨ t.fuse = s.fuse.blow arg.toNat))) ∧
    (s.fuse.keeperFloor < arg.toNat → arg.toNat ≤ 1024 → check.programOk = true → Gives (.keeperFloor acc slot arg check) s (fun t =>
        KeyEnded t slot.toNat 2 0 ∧ t.fuse = { s.fuse with keeperFloor := arg.toNat } ∧
        Quiet (onPages [0x31]) { s with fuse := t.fuse, holds := t.holds } t)) ∧
    ((arg.toNat ≤ s.fuse.keeperFloor ∨ 1024 < arg.toNat) → Gives (.keeperFloor acc slot arg check) s (fun t =>
        LockDone 0x31 t ∧ t.g F.KEY_CMDSTAT_STATE = 3 ∧ Quiet (onPages [0x31]) { s with holds := t.holds, freeCount := t.freeCount } t)) ∧
    (s.fuse.keeperFloor < arg.toNat → arg.toNat ≤ 1024 → check.programOk = false → Gives (.keeperFloor acc slot arg check) s (fun t =>
        KeyEnded t slot.toNat 3 7 ∧ s.fuse.keeperFloor ≤ t.fuse.keeperFloor ∧ t.fuse.keeperFloor ≤ arg.toNat ∧
        Quiet (onPages [0x31]) { s with fuse := { s.fuse with keeperFloor := t.fuse.keeperFloor }, holds := t.holds, freeCount := t.freeCount } t)) ∧
    (sensor ≤ 10 → s.fuse.tmpFloor / 4 ^ sensor % 4 < level → level ≤ 2 → s.fuse.tmpFloor < 4 ^ 11 → check.programOk = true →
      Gives (.tmpFloor acc slot arg check) s (fun t =>
        KeyEnded t slot.toNat 2 0 ∧ (∀ i < 11, t.fuse.tmpFloor / 4 ^ i % 4 = (if i = sensor then level else s.fuse.tmpFloor / 4 ^ i % 4) ∧
          t.fuse.tmpFloor / 4 ^ i % 4 ≤ t.g F.TMP_LEVEL_LEVEL / 4 ^ i % 4) ∧
        Quiet (fun k => k / 0x100000 = 0x31 ∨ k = F.TMP_LEVEL_LEVEL.key) { s with fuse := { s.fuse with tmpFloor := t.fuse.tmpFloor }, holds := t.holds } t)) ∧
    ((10 < sensor ∨ 2 < level ∨ level ≤ s.fuse.tmpFloor / 4 ^ sensor % 4) → Gives (.tmpFloor acc slot arg check) s (fun t =>
        LockDone 0x31 t ∧ t.g F.KEY_CMDSTAT_STATE = 3 ∧ Quiet (onPages [0x31]) { s with holds := t.holds, freeCount := t.freeCount } t)) ∧
    (sensor ≤ 10 → s.fuse.tmpFloor / 4 ^ sensor % 4 < level → level ≤ 2 → s.fuse.tmpFloor < 4 ^ 11 → check.programOk = false →
      Gives (.tmpFloor acc slot arg check) s (fun t =>
        KeyEnded t slot.toNat 3 7 ∧ ∀ i < 11, s.fuse.tmpFloor / 4 ^ i % 4 ≤ t.fuse.tmpFloor / 4 ^ i % 4))

/-! ## Tenancy (R577 to R584) -/

namespace Sys2Proof

/-- An order is accepted: step 1 of R583, with MOD_REQ2 accepted and tenancy Molting called for in its requester's name (R93, R581). -/
def OrderTaken (s t : State) (o : List Byte) (who : Nat) : Prop :=
  t.bat = { s.bat with moltTarget := ordTarget o, molting := true, lastResort := t.bat.lastResort } ∧ t.nvm.moltOrder = o ∧ t.ten.deferred = none ∧
  t.g F.TEN_STAT_STEP = 2 ∧ t.g F.TEN_STAT_TARGET = ordTarget o % 2 ∧ t.b ((hdrEvt 0x34).bit 0) = true ∧
  t.g (F.MOD_REQ_STATE 2) = 2 ∧ t.g (F.MOD_REQ_VALUE 2) = ordTarget o ∧ t.mod.calls = s.mod.calls ++ [⟨2, 2, 0x14, who⟩]

end Sys2Proof

/-- The Molt: steps 3 to 5 raise counter 5, close what the outgoing tenant held, reset RST's Molt scope, load the incoming tenant's EMC key and start the scrub (R583); under
Lock step 5 waits (R584). The scrub ends with the data region reading as zero (R597), and the Molt goes on to step 7. -/
def Obligations.moltSteps : Prop :=
  ∀ (s : State),
    (s.bat.molting = true → s.tenancy = .molting → s.g F.TEN_STAT_STEP = 3 → s.bat.zeroized = false → Gives .moltPrepare s (fun t =>
      t.ctr 5 = min 0xffffffff (s.ctr 5 + 1) ∧ t.key.handles = [] ∧ t.key.eph = List.replicate 32 none ∧ (∀ m < 4, (t.mgtOf m).staging = []) ∧
      t.dse.pkgKey = none ∧ t.b F.PKG_STAT_VALID = false ∧ t.b F.DSE_STAT_NOPKG = true ∧ t.g F.DSE_STAT_ENTRIES = 0 ∧ t.dse.intake = [] ∧
      t.cb0.keys = [] ∧ t.cb1.keys = [] ∧ t.host.hbxKeys = none ∧ t.lva.queue = [] ∧ t.lva.running = none ∧ (∀ i < 8, t.resident i = false) ∧
      t.g F.RST_COUNT_MOLT = satTo F.RST_COUNT_MOLT.w (s.g F.RST_COUNT_MOLT + 1) ∧ t.g F.RST_CAUSE_TYPE = 4 ∧ t.holds = [] ∧ t.nvm = s.nvm ∧ t.fuse = s.fuse)) ∧
    (s.bat.molting = true → s.tenancy = .molting → s.g F.TEN_STAT_STEP = 3 → s.bat.zeroized = false → s.bat.lock = false → s.b F.EMC_STAT_TRAINED = true →
      s.bat.rootFailing = [] → s.bat.opRoot.isSome = true → Gives .moltPrepare s (fun t =>
      t.g F.TEN_STAT_STEP = 5 ∧ t.b F.TEN_STAT_PAUSED = false ∧ t.b F.EMC_SCRUB_RUNNING = true ∧ t.b F.EMC_STAT_STOPPED = true ∧
      t.emc.key = s.bat.opRoot.map (fun r => (s.bat.moltTarget, min 0xffffffff (s.ctr 5 + 1), s.ctr 6, r)))) ∧
    (s.bat.molting = true → s.tenancy = .molting → s.g F.TEN_STAT_STEP = 3 → s.bat.lock = true → Gives .moltPrepare s (fun t =>
      t.g F.TEN_STAT_STEP = 5 ∧ t.b F.TEN_STAT_PAUSED = true ∧ t.emc.key = none)) ∧
    (s.b F.EMC_SCRUB_RUNNING = true → Gives .scrubDone s (fun t =>
      t.b F.EMC_SCRUB_RUNNING = false ∧ t.g F.EMC_SCRUB_DONE_MIB = s.g F.EMC_SIZE_DATA_MIB % 2 ^ F.EMC_SCRUB_DONE_MIB.w ∧ t.b ((hdrEvt 0x2b).bit 1) = true ∧
      (∀ a, 0x80000000 ≤ a → t.byte a = 0) ∧ (∀ a, ¬ 0x80000000 ≤ a → t.byte a = s.byte a) ∧
      (s.bat.molting = false → Quiet (onPages [0x2b]) { s with mem := t.mem, memFill := 0, emc := { s.emc with written := s.emc.key } } t) ∧
      (s.moltRuns = true → s.g F.TEN_STAT_STEP = 5 → s.moltHeld = false → t.g F.TEN_STAT_STEP = 7 ∧ t.ten.applied = ((s.tenantConfig s.bat.moltTarget).or s.ten.applied) ∧
        t.mod.calls = s.mod.calls ++ [⟨2, s.bat.moltTarget, 0x15, 5⟩])))

/-- Molt orders: one that passes every check of R581 is accepted, or deferred while a sequence or a load runs (R582); one that fails is refused with the causes
of the first check (R581). Step 8 issues the Molt report and ends the Molt (R583, R608). Tenant configurations (R578): one that passes every check is stored, raises its tenant's floor to its version, and is applied at once in Out of Service where it is the
current tenant's; a failed check leaves the stored image and records its cause. -/
def Obligations.moltOrders : Prop :=
  (∀ (s : State) (acc : Accessor) (addr : Word) (signatureOk : Bool) (c : Nat × Nat) (o : List Byte),
      (SequenceAt s acc 9 0x34 1 [(0x80, addr)] → o = s.bytes (addr.toNat % 2 ^ 32) 160 → s.ten.deferred = none → s.orderCause o signatureOk = none →
        [0x31, 0x14, 0x36].all (fun p => !s.b (lockArmed p)) = true → s.bar.load = none → s.b F.PKG_STAT_LOADING = false →
        Gives (.tenMolt acc signatureOk) s (fun t =>
          LockDone 0x34 t ∧ OrderTaken s t o 5 ∧
          Quiet (onPages [8, 0x34])
            { s with bat := t.bat, nvm := { s.nvm with moltOrder := o }, mod := t.mod, ten := { s.ten with orderWho := 5 }, holds := t.holds } t)) ∧
      (SequenceAt s acc 9 0x34 1 [(0x80, addr)] → o = s.bytes (addr.toNat % 2 ^ 32) 160 → s.ten.deferred = none → s.orderCause o signatureOk = none →
        s.b F.PKG_STAT_LOADING = true → Gives (.tenMolt acc signatureOk) s (fun t =>
          LockDone 0x34 t ∧ t.ten = { s.ten with deferred := some o, orderWho := 5 } ∧ t.g (F.MOD_REQ_STATE 2) = 1 ∧ t.g (F.MOD_REQ_CAUSE 2) = 5 ∧ t.bat.molting = s.bat.molting ∧
          Quiet (onPages [8, 0x34]) { s with ten := t.ten, mod := t.mod, holds := t.holds } t)) ∧
      (SequenceAt s acc 9 0x34 1 [(0x80, addr)] → o = s.bytes (addr.toNat % 2 ^ 32) 160 → s.ten.deferred = none → s.host.waiting = [] →
        s.orderCause o signatureOk = some c → Gives (.tenMolt acc signatureOk) s (fun t =>
          LockDone 0x34 t ∧ t.g F.TEN_STAT_CAUSE = c.1 % 256 ∧ t.g (F.MOD_REQ_STATE 2) = 3 ∧ t.g (F.MOD_REQ_CAUSE 2) = c.2 % 2 ^ (F.MOD_REQ_CAUSE 2).w ∧
          t.b ((hdrEvt 0x34).bit 2) = true ∧ t.g (hdrTrouble 0x34 3) = satTo 16 (s.g (hdrTrouble 0x34 3) + 1) ∧
          Quiet (onPages [8, 0x34]) { s with mod := t.mod, ten := { s.ten with orderWho := 5 }, holds := t.holds } t)) ∧
      (s.ten.deferred = some o → s.orderBlocked = false → s.orderCause o signatureOk = none → Gives (.moltOrderRecheck signatureOk) s (fun t =>
          OrderTaken s t o s.ten.orderWho)) ∧
      (s.ten.deferred = some o → s.orderBlocked = false → s.orderCause o signatureOk = some c → Gives (.moltOrderRecheck signatureOk) s (fun t =>
          t.ten.deferred = none ∧ t.g F.TEN_STAT_CAUSE = c.1 % 256 ∧ t.g (F.MOD_REQ_STATE 2) = 3 ∧ t.bat.molting = s.bat.molting)) ∧
      (s.ten.deferred = some o → s.orderBlocked = true → Gives (.moltOrderRecheck signatureOk) s (fun t => Still s t)) ∧
      (s.bat.molting = true → s.tenancy ≠ .molting → s.g F.TEN_STAT_STEP = 8 → s.keeperServes = true → s.nvm.applets = [] → s.host.waiting = [] →
        Gives (.moltFinish []) s (fun t =>
          t.bat.molting = false ∧ t.nvm = { s.nvm with moltOrder := [] } ∧ t.g F.TEN_STAT_STEP = 0 ∧ t.ctr 4 = min 0xffffffff (s.ctr 4 + 1) ∧
          t.g F.TEN_LAST_MOLTS = s.ctr 5 ∧ t.b ((hdrEvt 0x34).bit 1) = true ∧ t.b ((hdrEvt 0x35).bit 0) = true ∧ t.ten.moltReport = t.ten.issued ∧
          Quiet (onPages [0x32, 0x34, 0x35]) { s with bat := { s.bat with molting := false }, nvm := t.nvm, ten := t.ten, freeCount := s.freeCount + 1 } t))) ∧
  (∀ (s : State) (acc : Accessor) (addr : Word) (signatureOk : Bool) (c : Nat),
      SequenceAt s acc 9 0x34 2 [(0x90, addr)] →
      let img := s.bytes (addr.toNat % 2 ^ 32) 2272
      let tenant := leAt img 6 1
      (s.configCause img signatureOk = none → Gives (.tenCfgload acc signatureOk) s (fun t =>
        t.g F.TEN_CFGSTAT_STATE = 2 ∧ t.g F.TEN_CFGSTAT_CAUSE = 0 ∧ t.b ((hdrEvt 0x34).bit 3) = true ∧ t.tenantConfig tenant = some (img.take 2176) ∧
        t.tenantConfig (1 - tenant) = s.tenantConfig (1 - tenant) ∧ t.ctr (11 + tenant) = max (s.ctr (11 + tenant)) (leAt img 8 4))) ∧
      (s.configCause img signatureOk = none → (s.tenancy = .molting ∨ tenant ≠ s.tenantNo ∨ s.lift ≠ .outOfService) → Gives (.tenCfgload acc signatureOk) s (fun t =>
        LockDone 0x34 t ∧ Quiet (onPages [0x32, 0x34]) { s with nvm := { s.nvm with config0 := t.nvm.config0, config1 := t.nvm.config1 }, holds := t.holds } t)) ∧
      (s.configCause img signatureOk = none → s.tenancy ≠ .molting → tenant = s.tenantNo → s.lift = .outOfService → Gives (.tenCfgload acc signatureOk) s (fun t =>
        t.ten.applied = some (img.take 2176) ∧ t.b F.MOD_CFG_PLAIN_ALLOWED = bitAt (leAt img 7 1) 0 ∧ t.g (F.ATT_INFO_VERSION 5) = leAt img 8 4 ∧
        t.b (F.ATT_INFO_PRESENT 5) = true ∧ t.g (F.ATT_DIG0_DIGEST 5) = (Config.sha384 (img.take 2176)).toNat % 2 ^ 64)) ∧
      (s.configCause img signatureOk = some c → Gives (.tenCfgload acc signatureOk) s (fun t =>
        LockDone 0x34 t ∧ t.g F.TEN_CFGSTAT_STATE = 3 ∧ t.g F.TEN_CFGSTAT_CAUSE = c % 256 ∧ t.b ((hdrEvt 0x34).bit 3) = true ∧
        t.g (hdrTrouble 0x34 3) = satTo 16 (s.g (hdrTrouble 0x34 3) + 1) ∧ Quiet (onPages [0x34]) { s with holds := t.holds } t)))

/-! ## Measurements and external memory (R589 to R615) -/

namespace Sys2Proof

/-- A measurement entry shows a digest and a version (R599). -/
def Measured (s t : State) (m : Nat) (d : BitVec 384) (version : Nat) : Prop :=
  t.b (F.ATT_INFO_PRESENT m) = true ∧ t.g (F.ATT_INFO_VERSION m) = version ∧
  t.g (F.ATT_DIG0_DIGEST m) + 2 ^ 64 * t.g (F.ATT_DIG1_DIGEST m) + 2 ^ 128 * t.g (F.ATT_DIG2_DIGEST m) + 2 ^ 192 * t.g (F.ATT_DIG3_DIGEST m) +
    2 ^ 256 * t.g (F.ATT_DIG4_DIGEST m) + 2 ^ 320 * t.g (F.ATT_DIG5_DIGEST m) = d.toNat ∧
  t.g F.ATT_STAT_MSEQ = (s.g F.ATT_STAT_MSEQ + 1) % 2 ^ F.ATT_STAT_MSEQ.w

end Sys2Proof

/-- The measurement entries (R600, R614): MODE 0 hashes a range, MODE 1 copies the command gate's digest into entry 3, MODE 2 the package's into entry 4, MODE 3 clears; a sealed entry, or one
that its mode does not write, is LOST. EMC's key control loads the delivered key, clears it and starts a scrub (R597, R615); a refresh is counted (R589). -/
def Obligations.measurementsAndEmc : Prop :=
  ∀ (s : State) (acc : Accessor) (entry : BitVec 4) (version : BitVec 32) (src len : Word) (k : Nat × Nat × Nat × Nat),
    let open_ := entry.toNat ≤ 13 ∧ (entry.toNat < 2 → s.b F.KPX_CTL_ROMOFF = false)
    (SequenceAt s acc 9 0x35 1 [(0x80, src), (0x88, len)] → open_ → entry.toNat ≠ 3 → entry.toNat ≠ 4 → Gives (.attMeasHash acc entry version) s (fun t =>
      LockDone 0x35 t ∧ Measured s t entry.toNat (Config.sha384 (s.bytes src.toNat (len.toNat % 2 ^ 32))) version.toNat ∧
      Quiet (onPages [0x35]) { s with holds := t.holds, freeCount := t.freeCount } t)) ∧
    (SequenceAt s acc 9 0x35 1 [(0x80, src), (0x88, len)] → (¬ open_ ∨ entry.toNat = 3 ∨ entry.toNat = 4) → Gives (.attMeasHash acc entry version) s (fun t =>
      LockDone 0x35 t ∧ t.g (hdrTrouble 0x35 3) = satTo 16 (s.g (hdrTrouble 0x35 3) + 1) ∧ t.g F.ATT_STAT_MSEQ = s.g F.ATT_STAT_MSEQ ∧
      Quiet (onPages [0x35]) { s with holds := t.holds, freeCount := t.freeCount } t)) ∧
    (SequenceAt s acc 9 0x35 2 [] → entry.toNat = 3 → Gives (.attMeasCopyCmg acc entry version) s (fun t =>
      LockDone 0x35 t ∧ Measured s t 3 s.digestRecord version.toNat ∧ Quiet (onPages [0x35]) { s with holds := t.holds, freeCount := t.freeCount } t)) ∧
    (SequenceAt s acc 9 0x35 2 [] → entry.toNat = 4 → Gives (.attMeasCopyPkg acc entry version) s (fun t =>
      LockDone 0x35 t ∧ Measured s t 4 s.dse.pkgDigest version.toNat ∧ Quiet (onPages [0x35]) { s with holds := t.holds, freeCount := t.freeCount } t)) ∧
    (SequenceAt s acc 9 0x35 2 [] → open_ → s.b (F.ATT_INFO_PRESENT entry.toNat) = true → Gives (.attMeasClear acc entry version) s (fun t =>
      LockDone 0x35 t ∧ t.b (F.ATT_INFO_PRESENT entry.toNat) = false ∧ t.g (F.ATT_DIG0_DIGEST entry.toNat) = 0 ∧ t.g (F.ATT_DIG5_DIGEST entry.toNat) = 0 ∧
      t.g F.ATT_STAT_MSEQ = (s.g F.ATT_STAT_MSEQ + 1) % 2 ^ F.ATT_STAT_MSEQ.w ∧ Quiet (onPages [0x35]) { s with holds := t.holds, freeCount := t.freeCount } t)) ∧
    (s.clocked = true → s.reaches acc 0x2b = true → isKeeper acc = true → s.emc.delivered = some k → Gives (.emcKeyLoad acc) s (fun t =>
      t.emc = { s.emc with key := some k, written := some k } ∧ t.b F.EMC_STAT_KEYED = true ∧ t.b F.EMC_STAT_STOPPED = t.emcStops ∧
      (s.emc.written = some k → Quiet (onPages [0x2b]) { s with emc := t.emc } t) ∧
      Quiet (onPages [0x2b]) { s with emc := t.emc, mem := t.mem, memFill := t.memFill, freeCount := t.freeCount } t ∧
      (∀ a, ¬ 0x80000000 ≤ a → t.byte a = s.byte a))) ∧
    (s.clocked = true → s.reaches acc 0x2b = true → isKeeper acc = true → Gives (.emcKeyClear acc) s (fun t =>
      t.emc = { s.emc with key := none } ∧ t.b F.EMC_STAT_KEYED = false ∧ t.b F.EMC_STAT_STOPPED = true ∧ t.b F.EMC_SCRUB_RUNNING = false ∧
      Quiet (onPages [0x2b]) { s with emc := t.emc } t)) ∧
    (s.clocked = true → s.reaches acc 0x2b = true → isKeeper acc = true → s.emc.key.isSome = true → s.b F.EMC_STAT_TRAINED = true → Gives (.emcScrubStart acc) s (fun t =>
      t.b F.EMC_SCRUB_RUNNING = true ∧ t.g F.EMC_SCRUB_DONE_MIB = 0 ∧ t.b F.EMC_STAT_STOPPED = true ∧
      Quiet (onPages [0x2b]) { s with emc := { s.emc with scrubOwed := false } } t)) ∧
    (s.b F.EMC_STAT_TRAINED = true → s.b F.EMC_STAT_SELFREF = false → Gives .emcRefresh s (fun t =>
      Still { s with emc := { s.emc with refreshes := s.emc.refreshes + 1 } } t))

/-! ## The host attachment (R618 to R634) -/

/-- The link and its resets (R175, R618, R620, R643): down, the SPDM session and HBX end with it. Before boot step 7 the endpoint answers configuration requests with
Request Retry Status, so a write of the Bus Master Enable bit or of the power state does nothing (R178). -/
def Obligations.hostLink : Prop :=
  ∀ (s : State) (speed : BitVec 2) (on : Bool),
    (s.pcieLive = true → s.b F.PCI_LINK_UP = false → Gives (.pcieLinkUp speed) s (fun t =>
      t.b F.PCI_LINK_UP = true ∧ t.g F.PCI_LINK_SPEED = min (max 1 speed.toNat) (max 1 (s.g F.PCI_CFG_MAXSPEED)) % 2 ^ F.PCI_LINK_SPEED.w ∧
      t.g F.PCI_LINK_DSTATE = 0 ∧ t.b ((hdrEvt 0x29).bit 0) = true ∧ Quiet (onPages [0x29]) s t)) ∧
    (s.pcieUp = true → Gives .pcieLinkDown s (fun t =>
      t.b F.PCI_LINK_UP = false ∧ t.g F.PCI_LINK_SPEED = 0 ∧ t.b ((hdrEvt 0x29).bit 0) = true ∧ t.g F.PCI_SPDM_SESSION = 0 ∧ t.host.hbxKeys = none ∧
      t.g F.HBX_STATE_STATE = 0 ∧ t.host.outbox = [] ∧ Quiet (onPages [0x28, 0x29]) { s with host := t.host } t)) ∧
    (s.pcieReady = true → Gives (.busMasterEnable on) s (fun t => t.b F.PCI_LINK_BME = on ∧ Quiet (fun k => k = F.PCI_LINK_BME.key) s t)) ∧
    (s.pcieReady = false → Gives (.busMasterEnable on) s (Still s) ∧ Gives (.pciReset true) s (Still s)) ∧
    (s.wake.inReset = false → Gives .perstn s (fun t =>
      t.b F.PCI_LINK_UP = false ∧ t.b F.PCI_LINK_BME = false ∧ t.g F.PCI_LINK_DSTATE = 0 ∧ t.g F.PCI_SPDM_SESSION = 0 ∧ t.host.hbxKeys = none ∧
      t.host.doeError = false ∧ t.host.reply = .none ∧ t.icu.msixEnabled = false ∧ t.b ((hdrEvt 0x29).bit 1) = true ∧
      Quiet (onPages [0x28, 0x29]) { s with host := t.host } t)) ∧
    (s.pcieUp = true → (on = true → s.pcieReady = true) → Gives (.pciReset on) s (fun t =>
      t.b F.PCI_LINK_UP = false ∧ t.b F.PCI_LINK_BME = false ∧ t.g F.PCI_LINK_DSTATE = (if on then 3 else 0) ∧ t.g F.PCI_SPDM_SESSION = 0 ∧
      t.host.hbxKeys = none ∧ t.host.doeError = false ∧ t.icu.msixEnabled = false ∧ t.b ((hdrEvt 0x29).bit 1) = true ∧
      Quiet (onPages [0x28, 0x29]) { s with host := t.host } t))

namespace Sys2Proof

/-- An object that DOE delivers and Keeper answers (R621, R623, R670). -/
def SpdmAt (s : State) : Prop :=
  s.b F.RST_BOOT_RECOVERY = false ∧ s.keeperServes = true ∧ s.pcieReady = true ∧ s.host.doeError = false

/-- The answer to an object, which is counted (R621); beside the page of PCI and what `u` gives nothing has changed. -/
def Answers (r : DoeReply) (u t : State) : Prop :=
  t.b ((hdrEvt 0x29).bit 2) = true ∧ t.host = { u.host with reply := r } ∧ Quiet (onPages [0x29]) { u with host := t.host } t

end Sys2Proof

/-- DOE and SPDM (R621 to R625): discovery, the abort, a mailbox that fails; measurements, certificates, the challenge, the session and its end; a set-up of Confidential Host is accepted with
its rings, keys and routes (R626, R627), or refused with its cause; in recovery the ROM alone answers (R625). -/
def Obligations.dataObjects : Prop :=
  ∀ (s : State) (index block : Byte) (nonce payload data : List Byte) (id : BitVec 16) (off flags : BitVec 32) (check : ImageCheck) (version c : Nat),
    (s.pcieReady = true → s.host.doeError = false → index.toNat < 3 → Gives (.doeDiscovery .first index) s
      (Answers (.discovery 1 index.toNat (index.toNat + 1)) s)) ∧
    (s.pcieReady = true → s.host.doeError = false → Gives (.doeDiscovery .lasting index) s (fun t =>
      t.host = { s.host with doeError := true, reply := .error } ∧ t.b ((hdrEvt 0x29).bit 3) = true ∧
      t.g (hdrTrouble 0x29 1) = satTo 16 (s.g (hdrTrouble 0x29 1) + 1) ∧ Quiet (onPages [0x29]) { s with host := t.host } t)) ∧
    (s.pcieReady = true → s.host.doeError = false → s.b F.RST_BOOT_RECOVERY = true → check.read = .lasting →
      Gives (.recoveryObject off flags data check version) s (fun t =>
      t.host = { s.host with doeError := true, reply := .error } ∧ t.g (hdrTrouble 0x29 1) = satTo 16 (s.g (hdrTrouble 0x29 1) + 1) ∧
      Quiet (onPages [0x29]) { s with host := t.host } t)) ∧
    (s.pcieReady = true → Gives .doeAbort s (fun t => Still { s with host := { s.host with doeError := false, reply := .none } } t)) ∧
    (SpdmAt s → 1 ≤ block.toNat → block.toNat ≤ 14 → s.b (F.ATT_INFO_PRESENT (block.toNat - 1)) = true → Gives (.getMeasurements .first block nonce) s
      (Answers (.measurements [(block.toNat, (([F.ATT_DIG0_DIGEST, F.ATT_DIG1_DIGEST, F.ATT_DIG2_DIGEST, F.ATT_DIG3_DIGEST, F.ATT_DIG4_DIGEST, F.ATT_DIG5_DIGEST].map
        (fun f => leBytes 8 (s.g (f (block.toNat - 1))))).flatten ++ leBytes 4 (s.g (F.ATT_INFO_VERSION (block.toNat - 1)))))] nonce) s)) ∧
    (SpdmAt s → s.life ≠ .returned → Gives (.getMeasurements .first 15 nonce) s (fun t =>
      t.ctr 4 = min 0xffffffff (s.ctr 4 + 1) ∧ t.b ((hdrEvt 0x35).bit 0) = true ∧ t.host = { s.host with reply := .measurements [(15, t.ten.issued)] nonce } ∧
      Quiet (onPages [0x29, 0x32, 0x35]) { s with host := t.host, ten := t.ten, freeCount := s.freeCount + 1 } t)) ∧
    (SpdmAt s → Gives (.getCertificate .first 0) s (Answers (.certificate [certificate 2, certificate 1, certificate 0]) s)) ∧
    (SpdmAt s → Gives (.challenge .first 0 nonce) s
      (Answers (.challenge ((List.range 96).map (Config.ecdsaSignByte identityKey nonce s.freeCount))) { s with freeCount := s.freeCount + 1 })) ∧
    (SpdmAt s → s.g F.PCI_SPDM_SESSION = 0 → s.life ≠ .returned → Gives (.keyExchange .first id true) s (fun t =>
      t.g F.PCI_SPDM_SESSION = 2 ∧ t.g F.PCI_SPDM_ID = id.toNat ∧ t.b ((hdrEvt 0x29).bit 4) = true ∧
      Answers (.keyExchange id.toNat) { s with freeCount := s.freeCount + 1, host := { s.host with session := s.freeCount } } t)) ∧
    (SpdmAt s → s.g F.PCI_SPDM_SESSION = 2 → Gives (.keyUpdate .first) s (Answers .keyUpdate s)) ∧
    (SpdmAt s → s.g F.PCI_SPDM_SESSION = 2 → Gives (.spdmEndSession .first) s (fun t =>
      t.g F.PCI_SPDM_SESSION = 0 ∧ t.host.hbxKeys = none ∧ t.g F.HBX_STATE_STATE = 0 ∧ t.host.reply = .endSession ∧ t.b ((hdrEvt 0x29).bit 4) = true ∧
      Quiet (onPages [0x28, 0x29]) { s with host := t.host } t)) ∧
    (SpdmAt s → s.g F.PCI_SPDM_SESSION = 2 → s.setUpCause payload = none → Gives (.vendorDefinedRequest .first payload) s (fun t =>
      t.host.reply = .vendor 0 0 ∧ t.host.hbxKeys = some (hbxDerive s.host.session) ∧ t.host.setUp = true ∧ t.host.expect = 0 ∧ t.host.next = 0 ∧
      t.g F.HBX_STATE_STATE = 1 ∧ t.word (hdrEvten 0x28).key = 0xf ∧ t.g F.HBX_H2D_TAIL_INDEX = 0 ∧ t.g F.HBX_D2H_TAIL_INDEX = 0 ∧
      t.g F.HBX_RINGCFG_H2D_LOG2 = leAt payload 1 1 ∧ t.g F.HBX_RINGCFG_D2H_LOG2 = leAt payload 2 1 ∧ t.g (F.MOD_REQ_STATE 8) = 2 ∧ t.g (F.MOD_REQ_VALUE 8) = 2 ∧
      (∀ n < 4, t.route (320 + n) / 16 = 15) ∧ Quiet (onPages [8, 0x28, 0x29]) { s with host := t.host, mod := t.mod } t)) ∧
    (SpdmAt s → s.g F.PCI_SPDM_SESSION = 2 → s.setUpCause payload = some c → Gives (.vendorDefinedRequest .first payload) s (fun t =>
      t.host = { s.host with reply := .vendor 1 c } ∧ t.g (F.MOD_REQ_STATE 8) = 3 ∧ t.g (F.MOD_REQ_CAUSE 8) = c % 2 ^ (F.MOD_REQ_CAUSE 8).w ∧
      t.b ((hdrEvt 8).bit 1) = true ∧ Quiet (onPages [8, 0x29]) { s with host := t.host, mod := t.mod } t)) ∧
    (s.pcieReady = true → s.host.doeError = false → s.b F.RST_BOOT_RECOVERY = true → check.read = .first → data.length ≤ 4080 → off.toNat + data.length ≤ 0x40000 → flags.getLsbD 0 = false →
      Gives (.recoveryObject off flags data check version) s
        (Answers (.recovery 0 0) { s.putBytes (0x20000000 + off.toNat) data with host := { s.host with image := placeChunk s.host.image off.toNat data } })) ∧
    (s.pcieReady = true → s.host.doeError = false → s.b F.RST_BOOT_RECOVERY = true → check.read = .first → data.length ≤ 4080 → off.toNat + data.length ≤ 0x40000 → flags.getLsbD 0 = true →
      check.signatureOk = true → s.fuse.keeperFloor ≤ version → Gives (.recoveryObject off flags data check version) s (fun t =>
        t.nvm.keeperImage = some (placeChunk s.host.image off.toNat data) ∧ t.nvm.keeperVersion = version ∧ t.host.reply = .recovery 1 0 ∧ t.g F.RST_CAUSE_TYPE = 3))

/-- The rings of HBX (R629 to R634): a TAIL write that would overfill a ring is LOST; an H2D entry that passes the checks hands its command to Keeper, one that fails is rejected with a note to
the host, and the head moves either way; the oldest message that waits fills a D2H buffer under the next sequence number; the claim and complete mirrors act on T1's sources 320 to 335 (R231, R233, R653). -/
def Obligations.hbxRings : Prop :=
  ∀ (s : State) (acc : Accessor) (index : BitVec 16) (e : H2dEntry) (m : Message) (rest : List Message) (buffer : Word) (capacity : BitVec 32)
    (source : BitVec 9) (c : Nat),
    (MayWrite s acc 2 0x28 → (s.g F.HBX_STATE_STATE = 0 ∨ (index.toNat + 65536 - s.g F.HBX_H2D_HEAD_INDEX) % 65536 ≤ 2 ^ s.g F.HBX_RINGCFG_H2D_LOG2) →
      Gives (.hbxH2dTailWrite acc index) s (fun t => t.g F.HBX_H2D_TAIL_INDEX = index.toNat ∧ Quiet (fun k => k = F.HBX_H2D_TAIL_INDEX.key) s t)) ∧
    (MayWrite s acc 2 0x28 → s.g F.HBX_STATE_STATE ≠ 0 → 2 ^ s.g F.HBX_RINGCFG_H2D_LOG2 < (index.toNat + 65536 - s.g F.HBX_H2D_HEAD_INDEX) % 65536 →
      Gives (.hbxH2dTailWrite acc index) s (fun t =>
        t.g F.HBX_H2D_TAIL_INDEX = s.g F.HBX_H2D_TAIL_INDEX ∧ t.g (hdrTrouble 0x28 3) = satTo 16 (s.g (hdrTrouble 0x28 3) + 1) ∧ t.b ((hdrEvt 0x28).bit 3) = true ∧
        Quiet (fun k => k = regKey 0x28 0x30 ∨ k = regKey 0x28 0x20) s t)) ∧
    (MayWrite s acc 2 0x28 → (s.g F.HBX_STATE_STATE = 0 ∨ (index.toNat + 65536 - s.g F.HBX_D2H_HEAD_INDEX) % 65536 ≤ 2 ^ s.g F.HBX_RINGCFG_D2H_LOG2) →
      Gives (.hbxD2hTailWrite acc index) s (fun t => t.g F.HBX_D2H_TAIL_INDEX = index.toNat ∧ Quiet (fun k => k = F.HBX_D2H_TAIL_INDEX.key) s t)) ∧
    (s.hbxRuns = true → s.g F.HBX_H2D_TAIL_INDEX ≠ s.g F.HBX_H2D_HEAD_INDEX → h2dCause e s.host.expect = none → s.host.expect < 2 ^ 64 - 1 →
      16 ≤ e.message.length → zeroAt e.message 2 2 = true → zeroAt e.message 0xc 4 = true → leAt e.message 8 4 + 16 = e.message.length →
      commandKnown (leAt e.message 0 2) = true → s.host.inbox.length < 8 → Gives (.h2dMessage e) s (fun t =>
        t.host = { s.host with expect := s.host.expect + 1, inbox := s.host.inbox ++ [(leAt e.message 0 2, ⟨1, BitVec.ofNat 32 (leAt e.message 4 4), e.message.drop 16⟩)] } ∧
        t.g F.HBX_CNT_ACCEPTED = satTo F.HBX_CNT_ACCEPTED.w (s.g F.HBX_CNT_ACCEPTED + 1) ∧ t.g F.HBX_H2D_HEAD_INDEX = (s.g F.HBX_H2D_HEAD_INDEX + 1) % 65536 ∧
        t.b ((hdrEvt 0x28).bit 1) = true ∧ Quiet (onPages [0x28]) { s with host := t.host } t)) ∧
    (s.hbxRuns = true → s.g F.HBX_H2D_TAIL_INDEX ≠ s.g F.HBX_H2D_HEAD_INDEX → h2dCause e s.host.expect = some c → s.host.expect < 2 ^ 64 - 1 →
      Gives (.h2dMessage e) s (fun t =>
        t.g F.HBX_CNT_REJECTED = satTo F.HBX_CNT_REJECTED.w (s.g F.HBX_CNT_REJECTED + 1) ∧ t.g (hdrTrouble 0x28 3) = satTo 16 (s.g (hdrTrouble 0x28 3) + 1) ∧
        t.g F.HBX_H2D_HEAD_INDEX = (s.g F.HBX_H2D_HEAD_INDEX + 1) % 65536 ∧ t.host.inbox = s.host.inbox ∧
        t.host.expect = (if e.seq = s.host.expect then s.host.expect + 1 else s.host.expect) ∧
        t.host.outbox.map (fun x => (x.cmd, x.body.take 9)) = s.host.outbox.map (fun x => (x.cmd, x.body.take 9)) ++ [(0xc003, leBytes 8 e.seq ++ leBytes 1 c)] ∧
        Quiet (onPages [0x28]) { s with host := t.host } t)) ∧
    (s.hbxRuns = true → s.g F.HBX_D2H_TAIL_INDEX ≠ s.g F.HBX_D2H_HEAD_INDEX → s.host.outbox = m :: rest → s.host.next < 2 ^ 64 - 1 →
      Gives (.d2hMessage buffer capacity) s (fun t =>
        let key := (s.host.hbxKeys.getD []).getD 2 []
        let iv := hbxIv ((s.host.hbxKeys.getD []).getD 3 []) s.host.next
        let aad := leBytes 8 s.host.next ++ leBytes 4 m.bytes.length ++ leBytes 4 1 ++ leBytes 8 buffer.toNat ++ leBytes 4 capacity.toNat ++ leBytes 4 0
        t.host = { s.host with
          outbox := rest, next := s.host.next + 1
          wrote := some (buffer, aad ++ leBytes 16 (Config.gcmTag key iv aad m.bytes).toNat ++ leBytes 16 0, (List.range m.bytes.length).map (Config.gcmSealByte key iv aad m.bytes)) } ∧
        t.g F.HBX_D2H_HEAD_INDEX = (s.g F.HBX_D2H_HEAD_INDEX + 1) % 65536 ∧ t.b ((hdrEvt 0x28).bit 0) = true ∧ Quiet (onPages [0x28]) { s with host := t.host } t)) ∧
    (s.clocked = true → s.icu.arriving = [] → s.mayRead acc 0 0x28 = true → (acc = .host ∨ acc = .keeper ∨ acc = .mgmt) → Gives (.hbxClaim acc) s (fun t =>
        t.readOut = BitVec.ofNat 64 s.hbxPeek ∧ (s.hbxPeek = 0 ∨ 320 ≤ s.hbxPeek ∧ s.hbxPeek ≤ 335) ∧
        (s.hbxPeek ≠ 0 → t.icu.pend1 = srcDel s.icu.pend1 s.hbxPeek ∧ t.icu.insv1 = srcAdd s.icu.insv1 s.hbxPeek) ∧
        t.icu.pend0 = s.icu.pend0 ∧ t.icu.insv0 = s.icu.insv0 ∧ OnlyIcu (fun _ => False) { s with readOut := t.readOut } t)) ∧
    (MayWrite s acc 2 0x28 → s.icu.arriving = [] → 320 ≤ source.toNat → source.toNat ≤ 335 → Gives (.hbxComplete acc source) s (fun t =>
        t.icu.insv1 = srcDel s.icu.insv1 source.toNat ∧ t.icu.insv0 = s.icu.insv0 ∧ t.icu.pend1 = s.icu.pend1 ∧ OnlyIcu (fun _ => False) s t))

/-! ## Commands of the channels (R635 to R652) -/

namespace Sys2Proof

/-- A command that Keeper serves now (R517, R640, R650): the oldest on the host channel, or one that arrives in a record of an open session, whose TAG is new. -/
def Serves (s : State) (num : Nat) (c : Cmd) : Prop :=
  s.keeperServes = true ∧
  ((c.channel = 1 ∧ s.host.inbox.head? = some (num, c) ∧ s.channelUp 1 = true) ∨
   (0x10 ≤ c.channel.toNat ∧ c.channel.toNat < 0x14 ∧ s.sessionUp (c.channel.toNat - 0x10) = true ∧ c.body.length ≤ 1184 ∧
     (∀ m ∈ (s.mgtOf (c.channel.toNat - 0x10)).last, m.tag ≠ c.tag.toNat) ∧ s.host.waiting.any (Waiting.isFor c.channel.toNat c.tag.toNat) = false))

/-- The response reaches the channel that the command came from, with its TAG (R635, R638). -/
def Answered (num : Nat) (c : Cmd) (status detail : Nat) (body : List Byte) (s t : State) : Prop :=
  let m : Message := { channel := c.channel.toNat, cmd := 0x8000 + num, status := status, detail := detail, tag := c.tag.toNat, body := body }
  (c.channel = 1 → t.host.inbox = s.host.inbox.drop 1 ∧ t.host.outbox = s.host.outbox ++ [m]) ∧
  (c.channel ≠ 1 → (t.mgtOf (c.channel.toNat - 0x10)).last = some m)

/-- Beside the channels, only registers of the listed pages have changed of `u`. -/
def ServedFrame (pages : List Nat) (u t : State) : Prop :=
  Quiet (onPages (0x2a :: pages)) { u with host := { u.host with inbox := t.host.inbox, outbox := t.host.outbox }, mgt := t.mgt } t

/-- A served command with the answer of R638 and its frame. -/
def Replies (num : Nat) (c : Cmd) (status detail : Nat) (body : List Byte) (pages : List Nat) (s u t : State) : Prop :=
  Answered num c status detail body s t ∧ ServedFrame pages u t

end Sys2Proof

/-- Commands that any session may use or that management alone may (R636 to R639, R649, R652): the host channel is denied what is management's, and reads model memory as zero with a violation counted (R43). -/
def Obligations.channelCommands : Prop :=
  ∀ (s : State) (c : Cmd) (page off i : Nat) (row : RegRow),
    let ch := c.channel.toNat
    (Serves s 0x01 c → c.body = [] → Gives (.status c) s (Replies 0x01 c 0 0 s.statusBlock [] s s)) ∧
    (Serves s 0x01 c → c.body ≠ [] → Gives (.status c) s (Replies 0x01 c 1 0 [] [] s s)) ∧
    (Serves s 0x02 c → 32 ≤ c.body.length → c.body.length ≤ 64 → s.life ≠ .returned → Gives (.attestFull c) s (fun t =>
      t.ctr 4 = min 0xffffffff (s.ctr 4 + 1) ∧ t.b ((hdrEvt 0x35).bit 0) = true ∧
      Replies 0x02 c 0 0 t.ten.issued [0x32, 0x35] s { s with ten := t.ten, freeCount := s.freeCount + 1 } t)) ∧
    (Serves s 0x03 c → c.channel ≠ 1 → 8 ≤ c.body.length → c.body.length ≤ 64 → Gives (.attestCert c) s (fun t =>
      t.ctr 4 = min 0xffffffff (s.ctr 4 + 1) ∧ t.b ((hdrEvt 0x35).bit 0) = true ∧
      Replies 0x03 c 0 0 t.ten.issued [0x32, 0x35] s { s with ten := t.ten, freeCount := s.freeCount + 1 } t)) ∧
    (Serves s 0x03 c → c.channel = 1 → Gives (.attestCert c) s (Replies 0x03 c 2 0 [] [] s s)) ∧
    (Serves s 0x04 c → c.body = [] → s.life ≠ .returned → s.ten.moltReport ≠ [] → Gives (.moltReport c) s (Replies 0x04 c 0 0 s.ten.moltReport [] s s)) ∧
    (Serves s 0x10 c → c.body.length = 3 → i = leAt c.body 0 1 → i ≤ 10 → i ∉ [1, 2, 8, 9] → leAt c.body 1 1 ≠ 0xff → Gives (.modRequest c) s (fun t =>
      t.g (F.MOD_REQ_VALUE i) = leAt c.body 1 1 ∧ t.g (F.MOD_REQ_ARG i) = leAt c.body 2 1 ∧ t.g (F.MOD_REQ_STATE i) = 0 ∧ i ∈ t.mod.fresh ∧
      t.host.waiting = s.host.waiting ++ [.modReq ch c.tag.toNat i] ∧
      ServedFrame [8] { s with mod := t.mod, host := { s.host with waiting := t.host.waiting } } t)) ∧
    (Serves s 0x11 c → leAt c.body 0 8 = 0x10000000 + 0x1000 * page + off → c.body.length = 8 → off < 0x1000 → off % 8 = 0 → pageAssigned page = true →
      page ≤ 0x2b → page ∉ [4, 5, 0x20, 0x21, 0x28, 0x2a] → s.mayRead (cmdAccessor c) (readCol page (s.absOff (cmdAccessor c) page off)) page = true →
      Gives (.regRead c) s (Replies 0x11 c 0 0 (leBytes 8 (s.readAs (cmdAccessor c) page off).1.toNat) [] s s)) ∧
    (Serves s 0x11 c → c.channel = 1 → c.body.length = 8 → 0x800000 ≤ leAt c.body 0 8 → leAt c.body 0 8 < 0x880000 → leAt c.body 0 8 % 8 = 0 →
      Gives (.regRead c) s (fun t =>
        t.g (hdrTrouble 0x1c 2) = satTo 16 (s.g (hdrTrouble 0x1c 2) + 1) ∧ Replies 0x11 c 0 0 (leBytes 8 0) [0x1c] s s t)) ∧
    (Serves s 0x12 c → leAt c.body 0 8 = 0x10000000 + 0x1000 * page + off → c.body.length = 16 → setting page off = true → page ≠ 0x2a →
      rowAt page off = some row → row.wcol < 8 → row.wcol ≠ 4 → row.wcol ≠ 7 → MayWrite s (cmdAccessor c) row.wcol page → Gives (.regWrite c) s (fun t =>
        t.word (regKey page off) = underMask (s.word (regKey page off)) (BitVec.ofNat 64 (leAt c.body 8 8)) row.rw ∧ Answered 0x12 c 0 0 [] s t ∧
        Quiet (fun k => k = regKey page off ∨ k / 0x100000 = 0x2a)
          { s with nvm := { s.nvm with site := t.nvm.site }, host := { s.host with inbox := t.host.inbox, outbox := t.host.outbox }, mgt := t.mgt } t)) ∧
    (Serves s 0x41 c → c.channel ≠ 1 → c.body = [1, 0, 0, 0, 0, 0, 0, 0] ++ leBytes 8 i ++ List.replicate 32 0 → Gives (.tamper c) s (fun t =>
      (∀ k < 11, t.g F.TMP_LEVEL_LEVEL / 4 ^ k % 4 = max (i / 4 ^ k % 4) (s.fuse.tmpFloor / 4 ^ k % 4)) ∧ Replies 0x41 c 0 0 [] [0x33] s s t)) ∧
    (Serves s 0x42 c → c.channel ≠ 1 → c.body = [] → s.icu.arriving = [] → Gives (.lastresortClear c) s (fun t =>
      t.bat.lastResort = 0 ∧ Replies 0x42 c 0 0 [] [] s s t)) ∧
    (Serves s 0x43 c → c.channel ≠ 1 → c.body.length = 2 → page = leAt c.body 0 1 → pageAssigned page = true → page ∉ [4, 5] → leAt c.body 1 1 < 16 →
      s.mayRead .mgmt 0 page = true → Gives (.troubleClear c) s (fun t =>
      (∀ k < 4, t.g (hdrTrouble page k) = if (leAt c.body 1 1).testBit k then 0 else s.g (hdrTrouble page k)) ∧ Replies 0x43 c 0 0 [] [page] s s t)) ∧
    (Serves s 0x45 c → c.channel ≠ 1 → c.body = [3] → s.b (lockArmed 3) = false → Gives (.reset c) s (fun t =>
      t.g F.RST_CAUSE_TYPE = 3 ∧ t.g F.RST_CAUSE_SOURCE = 3 ∧ t.g F.RST_COUNT_WARM = satTo F.RST_COUNT_WARM.w (s.g F.RST_COUNT_WARM + 1))) ∧
    (Serves s 0x45 c → c.channel = 1 → Gives (.reset c) s (Replies 0x45 c 2 0 [] [] s s)) ∧
    (Serves s 0x46 c → c.channel ≠ 1 → c.body.length = 41 → Gives (.mgtConfig c) s (fun t =>
      t.nvm = { s.nvm with mgtConfig := c.body } ∧ t.b F.EMC_CFG_LP4X = bitAt (leAt c.body 40 1) 0 ∧
      Replies 0x46 c 0 0 [] [0x2b] s { s with nvm := t.nvm } t)) ∧
    (Serves s 0xf0 c → c.channel ≠ 1 → 4 ≤ c.body.length → leAt c.body 0 4 + (c.body.length - 4) ≤ 266240 → Gives (.upload c) s (fun t =>
      (t.mgtOf (ch - 0x10)).staging = placeChunk (s.mgtOf (ch - 0x10)).staging (leAt c.body 0 4) (c.body.drop 4) ∧ Replies 0xf0 c 0 0 [] [] s s t))

namespace Sys2Proof

/-- The body that a command gives: its own, or on a management channel the staging area's (R636, R652). -/
def givenBody (s : State) (c : Cmd) : Option (List Byte) := (s.takeBody c).1

end Sys2Proof

/-- Commands over applets, tenants, tables, packages and keys (R636, R640, R641): each answers with the operation's own cause, or its end answers. -/
def Obligations.operationCommands : Prop :=
  ∀ (s : State) (c : Cmd) (slot : Nat) (img data : List Byte) (load : LoadCheck) (check : TableCheck) (key : KeyCheck) (ok tag : Bool) (cause addr : Nat),
    let ch := c.channel.toNat
    (Serves s 0x20 c → slotBody c.body = some (slot, data) → s.appletImage slot = some img → data.length ≤ imgInCap img → s.resident slot = true →
      s.slotFaulted slot = false → imgEntry img 1 ≠ 0xffff → s.lva.queue.length < 32 → Gives (.appletMsg c) s (fun t =>
        t.lva = { s.lva with queue := s.lva.queue ++ [{ slot := slot, kind := 1, channel := ch, tag := c.tag.toNat, data := data }] } ∧
        ServedFrame [0x36] { s with lva := t.lva } t)) ∧
    (Serves s 0x20 c → slotBody c.body = some (slot, data) → s.appletImage slot = none → Gives (.appletMsg c) s (fun t =>
        t.g (hdrTrouble 0x36 3) = satTo 16 (s.g (hdrTrouble 0x36 3) + 1) ∧ Replies 0x20 c 3 0 [] [0x36] s s t)) ∧
    (Serves s 0x21 c → s.b (lockArmed 0x36) = false → (givenBody s c).bind slotBody = some (slot, img) → s.appletCause slot img load = none →
      Gives (.appletLoad c load) s (fun t =>
        t.resident slot = true ∧ t.appletImage slot = some img ∧ t.g F.LVA_LOADSTAT_STATE = 3 ∧ t.b (F.ATT_INFO_PRESENT (6 + slot)) = true ∧
        (s.lva.running = none → Answered 0x21 c 0 0 [] s t))) ∧
    (Serves s 0x21 c → s.b (lockArmed 0x36) = false → (givenBody s c).bind slotBody = some (slot, img) → s.appletCause slot img load = some cause → cause < 256 →
      Gives (.appletLoad c load) s (fun t => t.g F.LVA_LOADSTAT_STATE = 4 ∧ Replies 0x21 c 3 cause [] [0x36] s { s with freeCount := s.freeCount + 1 } t)) ∧
    (Serves s 0x22 c → c.channel ≠ 1 → c.body = [BitVec.ofNat 8 slot] → slot < 8 → s.lva.running = none → s.lva.queue.all (fun v => v.slot != slot) = true →
      Gives (.appletStop c) s (fun t =>
        t.slotFaulted slot = true ∧ t.g (F.LVA_SLOT_STATE slot) = 4 ∧ t.g (F.LVA_FAULT_CAUSE slot) = 0x1f ∧ t.b ((hdrEvt 0x36).bit 1) = true ∧
        Replies 0x22 c 0 0 [] [0x36] s s t)) ∧
    (Serves s 0x44 c → s.tenancy = .owner → c.body.length = 8 → s.mayRead .keeper 0 0x36 = true → Gives (.appletResv c) s (fun t =>
        t.g F.LVA_RESV_SLOTS = leAt c.body 0 1 ∧ Replies 0x44 c 0 0 [] [0x36] s s t)) ∧
    (Serves s 0x44 c → s.tenancy ≠ .owner → Gives (.appletResv c) s (Replies 0x44 c 2 0 [] [] s s)) ∧
    (Serves s 0x30 c → s.b (lockArmed 0x34) = false → givenBody s c = some img → img.length = 2272 → s.configCause img ok = none →
      (s.tenancy = .molting ∨ leAt img 6 1 ≠ s.tenantNo ∨ s.lift ≠ .outOfService) → Gives (.tenantConfig c ok) s (fun t =>
        t.tenantConfig (leAt img 6 1) = some (img.take 2176) ∧ t.g F.TEN_CFGSTAT_STATE = 2 ∧
        Replies 0x30 c 0 0 [] [0x32, 0x34] s { s with nvm := { s.nvm with config0 := t.nvm.config0, config1 := t.nvm.config1 }, freeCount := s.freeCount + 1 } t)) ∧
    (Serves s 0x30 c → s.b (lockArmed 0x34) = false → givenBody s c = some img → img.length = 2272 → s.configCause img ok = some cause →
      Gives (.tenantConfig c ok) s (Replies 0x30 c 3 cause [] [0x34] s { s with freeCount := s.freeCount + 1 })) ∧
    (Serves s 0x31 c → s.b (lockArmed 0x34) = false → c.body.length = 160 → s.bat.molting = false → s.ten.deferred = none → s.orderCause c.body ok = none →
      s.orderBlocked = false → Gives (.moltOrder c ok) s (fun t =>
        OrderTaken s t c.body (whoOf (cmdAccessor c)) ∧ t.host.waiting = s.host.waiting ++ [.molt ch c.tag.toNat] ∧
        ServedFrame [8, 0x34] { s with bat := t.bat, nvm := { s.nvm with moltOrder := c.body }, mod := t.mod, ten := { s.ten with orderWho := whoOf (cmdAccessor c) }, freeCount := s.freeCount + 1, host := { s.host with waiting := t.host.waiting } } t)) ∧
    (Serves s 0x31 c → s.b (lockArmed 0x34) = false → c.body.length = 160 → s.bat.molting = false → s.ten.deferred = none → s.host.waiting = [] →
      s.orderCause c.body ok = some (cause, addr) → cause < 256 → Gives (.moltOrder c ok) s (fun t =>
        t.g F.TEN_STAT_CAUSE = cause ∧ t.g (F.MOD_REQ_STATE 2) = 3 ∧ Replies 0x31 c 3 cause [] [8, 0x34] s { s with mod := t.mod, ten := { s.ten with orderWho := whoOf (cmdAccessor c) }, freeCount := s.freeCount + 1 } t)) ∧
    (Serves s 0x32 c → s.b (lockArmed 0x14) = false → s.bar.load = none → givenBody s c = some (1 :: List.replicate 7 0 ++ img) → img.length = 10336 →
      s.mayWrite .keeper 7 0x14 = true → s.tableCause img check = none → check.writeOk = true → s.host.waiting = [] → Gives (.table c check) s (fun t =>
        t.nvm = { s.nvm with table := some img } ∧ t.ctr 0 = max (s.ctr 0) (bodyVersion img) ∧ t.g F.ITE_LOADSTAT_STATE = 5 ∧
        Replies 0x32 c 0 0 [] [0x14, 0x32] s { s with nvm := t.nvm, freeCount := s.freeCount + 1 } t)) ∧
    (Serves s 0x32 c → s.b (lockArmed 0x14) = false → s.bar.load = none → givenBody s c = some (1 :: List.replicate 7 0 ++ img) → img.length = 10336 →
      s.mayWrite .keeper 7 0x14 = true → s.tableCause img check = some cause → cause < 256 → s.host.waiting = [] → Gives (.table c check) s (fun t =>
        t.g F.ITE_LOADSTAT_STATE = 6 ∧ Replies 0x32 c 3 cause [] [0x14] s { s with freeCount := s.freeCount + 1 } t)) ∧
    (Serves s 0x33 c → c.body.length = 352 → s.releaseCause c.body ok tag = none → (s.slotOf (slotPackage (leAt c.body 6 1))).failing = [] →
      Gives (.pkgRelease c ok tag) s (fun t =>
        t.dse = { s.dse with pkgKey := t.dse.pkgKey } ∧ t.dse.pkgKey.isSome = true ∧ t.g F.ATT_RELSTAT_STATE = 2 ∧ t.b ((hdrEvt 0x35).bit 1) = true ∧
        Replies 0x33 c 0 0 [] [0x31, 0x35] s { s with dse := t.dse } t)) ∧
    (Serves s 0x33 c → c.body.length = 352 → s.releaseCause c.body ok tag = some cause → cause < 256 → Gives (.pkgRelease c ok tag) s (fun t =>
        t.g F.ATT_RELSTAT_STATE = 3 ∧ t.g F.ATT_RELSTAT_CAUSE = cause ∧ t.b ((hdrEvt 0x35).bit 2) = true ∧ t.g (hdrTrouble 0x35 3) = satTo 16 (s.g (hdrTrouble 0x35 3) + 1) ∧ Replies 0x33 c 3 cause [] [0x35] s s t)) ∧
    (Serves s 0x34 c → s.b (lockArmed 0x1c) = false → s.b F.PKG_STAT_LOADING = false → givenBody s c = some img → s.mayWrite .keeper 7 0x1c = true →
      s.pkgPlace img.length = some addr → addr < 2 ^ 32 → img.length < 2 ^ 32 → s.emcRefuses addr .keeperStore = none → Gives (.pkgImage c) s (fun t =>
        t.b F.PKG_STAT_LOADING = true ∧ t.g F.PKG_SRC_ADDR = addr ∧ t.g F.PKG_LEN_LEN = img.length % 2 ^ F.PKG_LEN_LEN.w ∧ t.mem = (s.putBytes addr img).mem ∧
        t.host.waiting = s.host.waiting ++ [.package ch c.tag.toNat] ∧
        ServedFrame [0x1c] { s with mem := t.mem, host := { s.host with waiting := t.host.waiting } } t)) ∧
    (Serves s 0x34 c → s.b (lockArmed 0x1c) = false → s.b F.PKG_STAT_LOADING = false → givenBody s c = some img → s.mayWrite .keeper 7 0x1c = true →
      s.pkgPlace img.length = none → Gives (.pkgImage c) s (fun t =>
        t.g F.PKG_STAT_CAUSE = 8 ∧ t.b ((hdrEvt 0x1c).bit 1) = true ∧ Replies 0x34 c 3 8 [] [0x1c] s s t)) ∧
    (Serves s 0x40 c → c.channel ≠ 1 → s.b (lockArmed 0x31) = false → c.body = [4, BitVec.ofNat 8 slot, 0, 0] → slot < 256 → s.slotValid slot = true →
      (s.slotOf slot).failing = [] → Gives (.keyCommand c key) s (fun t =>
        t.g F.KEY_CMDSTAT_STATE = 2 ∧ t.g F.KEY_CMDSTAT_SLOT = slot ∧ t.g (F.KEY_INFO_CHECKS slot) = satTo 16 (s.g (F.KEY_INFO_CHECKS slot) + 1) ∧
        Replies 0x40 c 0 0 [] [0x31] s { s with freeCount := s.freeCount + 1 } t)) ∧
    (Serves s 0x40 c → c.channel ≠ 1 → s.b (lockArmed 0x31) = false → c.body = [3, BitVec.ofNat 8 slot, 0, 0] →
      Gives (.keyCommand c key) s (Replies 0x40 c 2 0 [] [] s s))

/-! ## The management port (R645 to R652) -/

namespace Sys2Proof

/-- A management session as it starts: nothing staged or answered, traffic keys of its own (R648, R650, R652). -/
def SessionMade (s t : State) (n slot : Nat) (psk : Bool) : Prop :=
  t.g (F.MGT_SESS_STATE n) = 2 ∧ t.b (F.MGT_SESS_PSK n) = psk ∧ t.g (F.MGT_SESS_SLOT n) = slot ∧ t.g (F.MGT_SESS_IDLE n) = 0 ∧
  (t.mgtOf n).staging = [] ∧ (t.mgtOf n).last = none ∧ (t.mgtOf n).keyNo = s.freeCount ∧ (∀ m < 4, m ≠ n → t.mgtOf m = s.mgtOf m) ∧
  (s.g F.MGT_STAT_SESSIONS < 7 → t.g F.MGT_STAT_SESSIONS = s.g F.MGT_STAT_SESSIONS + 1) ∧ t.b ((hdrEvt 0x2a).bit 1) = true ∧
  Quiet (onPages [0x2a, 0x31]) { s with mgt := t.mgt, freeCount := s.freeCount + 1 } t

/-- A session ends: its page register reads 0, its staging area is written with zeros (R650, R652). -/
def SessionGone (s t : State) (n : Nat) : Prop :=
  t.word (F.MGT_SESS_STATE n).key = 0 ∧ t.mgt = s.mgt.put n { s.mgtOf n with staging := [], last := none, unasked := none } ∧
  t.g F.MGT_STAT_SESSIONS = s.g F.MGT_STAT_SESSIONS - 1 ∧ t.b ((hdrEvt 0x2a).bit 1) = true ∧ Quiet (onPages [0x2a]) { s with mgt := t.mgt } t

/-- A handshake that is refused (R648, R649). -/
def HandshakeRefused (s t : State) : Prop :=
  t.mgtReply = .alert ∧ t.g F.MGT_CNT_REFUSED = satTo F.MGT_CNT_REFUSED.w (s.g F.MGT_CNT_REFUSED + 1) ∧ t.b ((hdrEvt 0x2a).bit 2) = true ∧
  Quiet (onPages [0x2a, 0x31]) { s with mgtReply := .alert } t

end Sys2Proof

/-- Link, packets and sessions of the management port: what it answers and drops, the handshakes it takes and refuses, the end of a session. -/
def Obligations.managementPort : Prop :=
  ∀ (s : State) (up target ok : Bool) (data identity : List Byte) (n : Fin 4) (slot : Nat),
    (s.mgtLive = true → s.b F.MGT_STAT_LINK ≠ up → Gives (.mgtLinkChange up) s (fun t =>
      t.b F.MGT_STAT_LINK = up ∧ t.b ((hdrEvt 0x2a).bit 0) = true ∧ Quiet (onPages [0x2a]) s t)) ∧
    (s.mgtLink = true → Gives .mgtPacketDrop s (fun t =>
      t.g F.MGT_CNT_DROPPED = satTo F.MGT_CNT_DROPPED.w (s.g F.MGT_CNT_DROPPED + 1) ∧ Quiet (fun k => k = F.MGT_CNT_DROPPED.key) s t)) ∧
    (s.mgtLink = true → target = true → Gives (.neighbourSolicitation target) s (fun t =>
      t.mgtReply = .advertisement ∧ Still { s with mgtReply := .advertisement } t)) ∧
    (s.mgtLink = true → target = false → Gives (.neighbourSolicitation target) s (fun t =>
      t.g F.MGT_CNT_DROPPED = satTo F.MGT_CNT_DROPPED.w (s.g F.MGT_CNT_DROPPED + 1) ∧ Quiet (fun k => k = F.MGT_CNT_DROPPED.key) s t)) ∧
    (s.mgtLink = true → data.length + 48 ≤ 1280 → Gives (.echoRequest data) s (fun t =>
      t.mgtReply = .echo data ∧ Still { s with mgtReply := .echo data } t)) ∧
    (s.mgtLink = true → s.keeperServes = true → (List.range 4).all s.sessionUp = false → Gives (.clientHello .noCookie) s (fun t =>
      t.mgtReply = .cookie ∧ Still { s with mgtReply := .cookie } t)) ∧
    (s.mgtLink = true → s.keeperServes = true → (∀ m < n.val, s.g (F.MGT_SESS_STATE m) ≠ 0) → s.g (F.MGT_SESS_STATE n) = 0 →
      s.slotValid 80 = true → (s.slotOf 80).failing = [] → Gives (.clientHello (.certificate true)) s (fun t => SessionMade s t n 80 false)) ∧
    (s.mgtLink = true → s.keeperServes = true → (∀ m < n.val, s.g (F.MGT_SESS_STATE m) ≠ 0) → s.g (F.MGT_SESS_STATE n) = 0 →
      identity = [0x51, 0x50, 0x53, 0x4b, BitVec.ofNat 8 slot] → ((8 ≤ slot ∧ slot < 16) ∨ (80 ≤ slot ∧ slot < 96)) → (s.g (F.KEY_POL_USES slot)).testBit 7 = true →
      s.slotValid slot = true → (s.slotOf slot).failing = [] → Gives (.clientHello (.psk identity true)) s (fun t => SessionMade s t n slot true)) ∧
    (s.mgtLink = true → s.keeperServes = true → s.slotValid 80 = true → (s.slotOf 80).failing = [] → Gives (.clientHello (.certificate false)) s (HandshakeRefused s)) ∧
    (s.mgtLink = true → s.keeperServes = true → (∀ m < 4, s.g (F.MGT_SESS_STATE m) = 2) → Gives (.clientHello (.certificate ok)) s (HandshakeRefused s)) ∧
    (s.mgtLink = true → s.keeperServes = true → s.sessionUp n = true → Gives (.dtlsKeyUpdate n) s (fun t =>
      t.mgt = s.mgt.put n { s.mgtOf n with keyNo := s.freeCount } ∧ t.g (F.MGT_SESS_IDLE n) = 0 ∧
      Quiet (fun k => k = (F.MGT_SESS_IDLE n).key) { s with mgt := t.mgt, freeCount := s.freeCount + 1 } t)) ∧
    (s.mgtLive = true → s.sessionUp n = true → Gives (.closeNotify n) s (fun t => SessionGone s t n)) ∧
    (s.mgtLive = true → s.sessionUp n = true → Gives (.sessionIdleTimeout n) s (fun t => SessionGone s t n))

/-! ## The debug port (R654 to R677) -/

namespace Sys2Proof

/-- DPACC is selected, and its operations have an effect (R658, R660). -/
def DpAt (s : State) : Prop := s.dpSelected = true ∧ s.dpLive = true

end Sys2Proof

/-- Reads and writes through DPACC (R659, R665, R671): the status, the registers of the core while it is halted under Halt-permitted, pages under their columns or withheld and
counted; the token and the breakpoints. The TAP's instructions (R654 to R656): each selects itself; where boundary scan or the debug protocol is not available, BYPASS. -/
def Obligations.dpaccAccesses : Prop :=
  (∀ (s : State) (addr : BitVec 32) (data : Word) (page off k : Nat) (row : RegRow) (ok : Bool),
      let result := fun (v : Word) (t : State) => t.dbg = { s.dbg with result := v } ∧ Still { s with dbg := t.dbg } t
      let gives := fun (v : Word) => Gives (.dpaccRead addr) s (result v)
      let withheld := fun (t : State) => t.dbg = { s.dbg with result := 0 } ∧ t.g (hdrTrouble page 2) = satTo 16 (s.g (hdrTrouble page 2) + 1) ∧
        Quiet (fun k => k = regKey page 0x30) { s with dbg := t.dbg } t
      (s.dpSelected = true → (s.wake.watch = true ∨ s.canLive = false ∨ s.g F.RST_BOOT_STEP < 3) → gives 0 ∧ Gives (.dpaccWrite addr data) s (result 0) ∧
        Gives .newnonce s (Still s) ∧ Gives (.submit ok) s (Still s) ∧ Gives .haltCore s (Still s) ∧ Gives .resumeCore s (Still s) ∧ Gives (.stepCore .ok) s (Still s) ∧
        Gives .cancelHalt s (Still s) ∧ Gives .endConsent s (Still s) ∧ Gives (.dpWin 0x18 (BitVec.ofNat 10 k)) s (Still s)) ∧
      (DpAt s → addr.toNat = 0xf0000048 → gives (BitVec.ofNat 64 (s.dbg.cstate + s.dbg.cause * 2 ^ 8 + s.g F.MOD_CUR_DEBUG * 2 ^ 16 +
        (if s.b F.KPX_STAT_HALTED then 2 ^ 19 else 0) + s.g F.DBG_STAT_PENDING * 2 ^ 20))) ∧
      (DpAt s → k < 16 → addr.toNat = 0xf0000200 + 8 * k → gives (if s.debug = .haltPermitted ∧ s.b F.KPX_STAT_HALTED = true then s.xr k else 0)) ∧
      (DpAt s → addr.toNat = 0x10000000 + 0x1000 * page + off → off < 0x1000 → off % 8 = 0 → pageAssigned page = true → page ≤ 0x2b → page ∉ [4, 5, 0x20, 0x21, 0x28] →
        s.mayRead .debug (readCol page (s.absOff .debug page off)) page = true → gives (s.readAs .debug page off).1) ∧
      (DpAt s → addr.toNat = 0x10000000 + 0x1000 * page + off → off < 0x1000 → off % 8 = 0 → (page = 0x30 ∨ page = 0x36) → s.scopeFine = false → Gives (.dpaccRead addr) s withheld) ∧
      (DpAt s → k < 20 → addr.toNat = 0xf0000100 + 8 * k → Gives (.dpaccWrite addr data) s (fun t =>
        t.dbg = { s.dbg with token := s.dbg.token.set k data, result := t.dbg.result } ∧ Still { s with dbg := t.dbg, freeCount := s.freeCount + 1 } t)) ∧
      (DpAt s → k < 4 → addr.toNat = 0xf0000300 + 8 * k → s.debug = .haltPermitted → Gives (.dpaccWrite addr data) s (fun t =>
        t.dbg = { s.dbg with bps := s.dbg.bps.set k (data &&& 0x8000000000077ffc), result := t.dbg.result } ∧ Still { s with dbg := t.dbg, freeCount := s.freeCount + 1 } t)) ∧
      (DpAt s → addr.toNat = 0x10000000 + 0x1000 * page + off → setting page off = true → rowAt page off = some row → row.wcol < 8 → row.km = 0 → Gives (.dpaccWrite addr data) s withheld) ∧
      (DpAt s → s.debug ≠ .closed → Gives (.dpWin 0x18 (BitVec.ofNat 10 k)) s (fun t =>
        t.carWin = { s.carWin with debug := k % 64 } ∧ Still { s with carWin := t.carWin } t)) ∧
      (DpAt s → s.debug ≠ .closed → Gives (.dpWin 0x1b (BitVec.ofNat 10 k)) s (fun t =>
        t.callWin = { s.callWin with debug := k % 1024 } ∧ Still { s with callWin := t.callWin } t)) ∧
      (DpAt s → s.debug ≠ .closed → Gives (.dpWin 0x21 (BitVec.ofNat 10 k)) s (fun t =>
        t.jobWin = { s.jobWin with debug := k % 64 } ∧ Still { s with jobWin := t.jobWin } t)) ∧
      (DpAt s → s.debug ≠ .closed → Gives (.dpWin 0x31 (BitVec.ofNat 10 k)) s (fun t =>
        t.keyWin = { s.keyWin with debug := k % 256 } ∧ Still { s with keyWin := t.keyWin } t))) ∧
  (∀ (s : State), s.wake.inReset = false →
      let takes := fun (c : Instr) (ir : Nat) => Gives c s (fun t => t.dbg = { s.dbg with ir := ir } ∧ Still { s with dbg := t.dbg } t)
      takes .tapReset 1 ∧
      takes .extest (if s.extestOpen then 0 else 0x1f) ∧
      takes .samplePreload (if s.fuse.bscan then 2 else 0x1f) ∧
      takes .clamp (if s.extestOpen then 3 else 0x1f) ∧
      takes .highz (if s.extestOpen then 4 else 0x1f) ∧
      takes .dpacc (if s.fuse.dproto then 0x10 else 0x1f) ∧
      takes .bypass 0x1f ∧
      Gives .idcode s (fun t => t.dbg = { s.dbg with ir := 1 } ∧ t.readOut = BitVec.ofNat 64 (0x641 * 2 ^ 12 + Config.manufacturer.toNat * 2 + 1) ∧
        Still { s with dbg := t.dbg, readOut := t.readOut } t))

namespace Sys2Proof

/-- A DP_CMD command that is refused with a cause (R662, R668, R672). -/
def DpRefused (cause : Nat) (u t : State) : Prop :=
  t.dbg = { u.dbg with cstate := 3, cause := cause } ∧ t.g F.DBG_LAST_CAUSE = cause % 256 ∧ t.g F.DBG_COUNT_REFUSED = satTo F.DBG_COUNT_REFUSED.w (u.g F.DBG_COUNT_REFUSED + 1) ∧
  t.b ((hdrEvt 7).bit 3) = true ∧ Quiet (onPages [7]) { u with dbg := t.dbg } t

/-- The core halts with a cause (R669). -/
def Halted (cause : Nat) (s t : State) : Prop :=
  t.b F.KPX_STAT_HALTED = true ∧ t.b F.DBG_STAT_HALTED = true ∧ t.b F.DBG_STAT_PENDING = false ∧ t.g F.DBG_COUNT_HALTS = satTo F.DBG_COUNT_HALTS.w (s.g F.DBG_COUNT_HALTS + 1) ∧
  t.b ((hdrEvt 7).bit 2) = true ∧ t.core = { s.core with held := false, passed := true } ∧ t.mod = { s.mod with calls := s.mod.calls ++ [⟨0, 4, cause, 8⟩] } ∧
  t.dbg = { s.dbg with cstate := 2 } ∧ Quiet (fun k => k / 0x100000 = 7 ∨ k = F.KPX_STAT_HALTED.key) { s with core := t.core, mod := t.mod, dbg := t.dbg } t

end Sys2Proof

/-- Consent and halting (R661 to R664, R668 to R674): a nonce, a token that is accepted or refused and consumes the nonce, the end of consent, each with what MOD_REQ9 reports (R73, R92); a halt
that is accepted, deferred or refused, what becomes of a deferred one, its withdrawal, the step of one instruction, the resumption. Outside its scope a command does nothing (R665). -/
def Obligations.debugCommands : Prop :=
  ∀ (s : State) (ok : Bool) (cause w : Nat) (rd rs1 rs2 : Fin 16),
    let done := fun (u t : State) => t.dbg = { u.dbg with cstate := 2 } ∧ Quiet (onPages [7]) { u with dbg := t.dbg } t
    let scope := leAt s.dpToken 7 1
    (DpAt s → Gives .newnonce s (fun t =>
      t.b F.DBG_STAT_NONCE = true ∧ done { s with dbg := { s.dbg with nonce := some ((List.range 16).map (Config.drbgByte s.freeCount)) }, freeCount := s.freeCount + 1 } t)) ∧
    (DpAt s → s.tokenCause s.dpToken ok = none → Gives (.submit ok) s (fun t =>
      t.b F.DBG_STAT_NONCE = false ∧ t.g F.DBG_CONSENT_EXPIRY = leAt s.dpToken 0x20 4 ∧ t.g F.DBG_CONSENT_SCOPE = scope ∧
      t.g F.DBG_CONSENT_TENANT = leAt s.dpToken 6 1 ∧ (∀ i < 6, t.g (F.DBG_TDIGEST_DIGEST i) = (Config.sha384 s.dpToken).toNat / 2 ^ (64 * i) % 2 ^ 64) ∧
      t.g F.DBG_COUNT_ACCEPTED = satTo F.DBG_COUNT_ACCEPTED.w (s.g F.DBG_COUNT_ACCEPTED + 1) ∧ t.b ((hdrEvt 7).bit 0) = true ∧
      t.g (F.MOD_REQ_VALUE 9) = scope ∧ t.g (F.MOD_REQ_STATE 9) = 0 ∧ t.dbg = { s.dbg with nonce := none, cstate := 2 } ∧
      Quiet (onPages [7, 8]) { s with dbg := t.dbg, mod := { s.mod with calls := s.mod.calls ++ [⟨9, scope, 0x12, 8⟩] } } t)) ∧
    (DpAt s → s.tokenCause s.dpToken ok = some cause → Gives (.submit ok) s (fun t =>
      t.b F.DBG_STAT_NONCE = false ∧ t.dbg = { s.dbg with nonce := none, cstate := 3, cause := cause } ∧ t.g F.DBG_LAST_CAUSE = cause % 256 ∧
      t.g F.DBG_COUNT_REFUSED = satTo F.DBG_COUNT_REFUSED.w (s.g F.DBG_COUNT_REFUSED + 1) ∧ t.b ((hdrEvt 7).bit 3) = true ∧ t.b ((hdrEvt 8).bit 1) = true ∧
      t.g (F.MOD_REQ_VALUE 9) = scope ∧ t.g (F.MOD_REQ_STATE 9) = 3 ∧ 1 ≤ t.g (F.MOD_REQ_CAUSE 9) ∧ t.g (F.MOD_REQ_CAUSE 9) ≤ 12 ∧
      Quiet (onPages [7, 8]) { s with dbg := t.dbg, mod := { s.mod with held := s.mod.held.filter (· != 9), fresh := s.mod.fresh.filter (· != 9) }, freeCount := s.freeCount + 1 } t)) ∧
    (DpAt s → s.haltRefusal = none → s.haltBlocked = false → Gives .haltCore s (Halted 1 s)) ∧
    (DpAt s → s.haltRefusal = none → s.haltBlocked = true → Gives .haltCore s (fun t =>
      t.b F.DBG_STAT_PENDING = true ∧ t.dbg = { s.dbg with cstate := 1 } ∧ Quiet (fun k => k = F.DBG_STAT_PENDING.key) { s with dbg := t.dbg } t)) ∧
    (DpAt s → s.haltRefusal = some cause → Gives .haltCore s (DpRefused cause s)) ∧
    (s.canLive = true → s.b F.DBG_STAT_PENDING = true → s.haltRefusal = none → s.haltBlocked = false → Gives .deferredHaltTakesEffect s (Halted 2 s)) ∧
    (s.canLive = true → s.b F.DBG_STAT_PENDING = true → s.haltRefusal = some cause → Gives .deferredHaltTakesEffect s (fun t =>
      t.b F.DBG_STAT_PENDING = false ∧ DpRefused cause s t)) ∧
    ((s.b F.DBG_STAT_PENDING = false ∨ (s.haltRefusal = none ∧ s.haltBlocked = true)) → Gives .deferredHaltTakesEffect s (Still s)) ∧
    (DpAt s → s.debug = .haltPermitted → s.b F.DBG_STAT_PENDING = true → Gives .cancelHalt s (fun t =>
      t.b F.DBG_STAT_PENDING = false ∧ t.g F.DBG_LAST_CAUSE = 0x15 ∧ done { s with dbg := { s.dbg with cause := 0x15 } } t)) ∧
    (DpAt s → s.debug = .haltPermitted → s.b F.DBG_STAT_PENDING = false → Gives .cancelHalt s (done s)) ∧
    (DpAt s → s.debug = .haltPermitted → s.b F.KPX_STAT_HALTED = true → Gives .resumeCore s
      (done { s with mod := { s.mod with calls := s.mod.calls ++ [⟨0, 3, 1, 8⟩] } })) ∧
    (DpAt s → s.debug = .haltPermitted → s.b F.KPX_STAT_HALTED = false → Gives .resumeCore s (done s)) ∧
    (DpAt s → s.debug ≠ .haltPermitted → Gives .cancelHalt s (Still s) ∧ Gives .resumeCore s (Still s)) ∧
    (DpAt s → s.b F.KPX_STAT_HALTED = true → s.b F.DBG_STAT_HALTED = true → s.atApplet = true → s.power = .halt → s.fetch .ok = .value w →
      decodeLarva (BitVec.ofNat 32 w) = some (.a 0 rd rs1 rs2) → Gives (.stepCore .ok) s (fun t =>
        t.core = { s.core with x := WithReg s rd (s.xr rs1 + s.xr rs2), pc := s.core.pc + 4, passed := true, held := false } ∧
        t.g F.KPX_INSTRET_COUNT = (s.g F.KPX_INSTRET_COUNT + 1) % 2 ^ 64 ∧ t.b F.KPX_STAT_HALTED = true ∧ t.dbg = { s.dbg with cstate := 2 } ∧
        Quiet (fun k => k = F.KPX_INSTRET_COUNT.key) { s with core := t.core, dbg := t.dbg, freeCount := s.freeCount + 1 } t)) ∧
    (DpAt s → (s.b F.KPX_STAT_HALTED = false ∨ s.atApplet = false) → Gives (.stepCore .ok) s (DpRefused 0x14 s)) ∧
    (DpAt s → s.debug ≠ .closed → Gives .endConsent s (fun t =>
      t.g (F.MOD_REQ_VALUE 9) = 0 ∧ t.g (F.MOD_REQ_STATE 9) = 0 ∧ t.dbg = { s.dbg with cstate := 2 } ∧
      Quiet (onPages [8]) { s with dbg := t.dbg, mod := { s.mod with calls := s.mod.calls ++ [⟨9, 0, 1, 8⟩] } } t)) ∧
    (DpAt s → s.debug = .closed → Gives .endConsent s (Still s))

/-! ## The block as a machine -/

/-- A step takes the command at the front of the queue and does to the rest of the machine what that command does (first in, first out). -/
def Obligations.stepRunsTheFront : Prop :=
  ∀ (s : State) (c : Instr) (rest : List Instr), s.pending = c :: rest → step s = exec c { s with pending := rest }

/-- On an empty queue a microsecond passes (log entry 1, a choice of the model): the registers that show time advance, as R186, R187, R228 and R537 say what they count;
every register of another page, and the rest of the machine, is as it was. While Keeper's branch of the boot runs, it takes its next step then (log entry 94, a choice of the model): from step 7, step 8, with Keeper
up (R178). -/
def Obligations.idleStep : Prop :=
  (∀ (s : State) (oks : List Bool), s.pending = [] → s.canLive = true → s.wake.applets = some oks → s.g F.RST_BOOT_STEP = 7 → ∃ t, step s = .next t ∧
    t.wake.applets = none ∧ t.wake.rstoutN = true ∧ t.g F.RST_BOOT_STEP = 8 ∧ t.b F.SYS_STAT_KEEPER_UP = true ∧ t.b ((hdrEvt 3).bit 0) = true) ∧
  ∀ (s : State), s.pending = [] → (s.wake.applets = none ∨ s.canLive = false) → ∃ t, step s = .next t ∧
    t = { s with regs := t.regs, tick := (s.tick + 1) % 1000000 } ∧
    (s.wake.inReset = false → t.g F.CLK_UPTIME_US = (s.g F.CLK_UPTIME_US + 1) % 2 ^ F.CLK_UPTIME_US.w) ∧
    (s.wake.inReset = true → t.g F.CLK_UPTIME_US = s.g F.CLK_UPTIME_US) ∧
    (s.tick % 1000000 = 999999 → t.g F.PWR_BTIME_S = (s.g F.PWR_BTIME_S + 1) % 2 ^ F.PWR_BTIME_S.w) ∧
    (s.tick < 999999 → t.g F.PWR_BTIME_S = s.g F.PWR_BTIME_S) ∧
    (s.canLive = true → t.g F.KPX_CYCLE_COUNT = (s.g F.KPX_CYCLE_COUNT + 400) % 2 ^ F.KPX_CYCLE_COUNT.w) ∧
    (s.canLive = false → ∀ k, k ≠ F.CLK_UPTIME_US.key → k ≠ F.PWR_BTIME_S.key → t.word k = s.word k) ∧
    (∀ g < 16, s.canLive = true → s.b (F.ICU_GSTAT_RUNNING g) = true → t.g (F.ICU_GSTAT_ELAPSED g) = min (s.groupTime g) (s.g (F.ICU_GSTAT_ELAPSED g) + 1)) ∧
    (∀ k, k / 0x100000 ∉ [0x00, 0x01, 0x02, 0x03, 0x05, 0x12, 0x14, 0x15, 0x1c, 0x20, 0x21, 0x22, 0x23, 0x2a, 0x30, 0x31, 0x34, 0x35, 0x36] → t.word k = s.word k)

/-- What State.reset holds: no command waits, no byte of memory is listed, the module is in its power-on reset, every register reads its Reset value but RST_CAUSE and TMP_LEVEL. -/
def Obligations.resetValues : Prop :=
  State.reset.pending = [] ∧ State.reset.mem = [] ∧ State.reset.icu.arriving = [] ∧ State.reset.icu.queue = [] ∧ canonical State.reset = true ∧
  State.reset.wake.inReset = true ∧ State.reset.g F.RST_CAUSE_TYPE = 1 ∧ State.reset.g F.RST_CAUSE_SOURCE = 1 ∧
  State.reset.g F.TMP_LEVEL_LEVEL = State.reset.fuse.tmpFloor ∧
  (∀ k, k ≠ F.RST_CAUSE_TYPE.key → k ≠ F.TMP_LEVEL_LEVEL.key → State.reset.word k = resetWord k)

/-- Every command completes in every state: the block stops on none. -/
def Obligations.everyCommandCompletes : Prop :=
  ∀ (c : Instr) (s : State), ∃ t, exec c s = .next t

/-- Between steps no doorbell is on its way: those of a command have reached the ICU when the next one starts (R219, R220). -/
def Obligations.doorbellsDelivered : Prop :=
  ∀ (s t : State), s.icu.arriving = [] → step s = .next t → t.icu.arriving = []

/-- Every step keeps the canonical form of the register file and of memory. -/
def Obligations.canonicalKept : Prop :=
  ∀ (s t : State), canonical s = true → step s = .next t → canonical t = true

namespace Sys2Proof

/-- The fields that a Larva word admits (R506, R507). -/
def Encodable : LarvaOp → Prop
  | .a fn _ _ rs2 => fn ≤ 0x14 ∧ (0x13 ≤ fn → rs2 = 0)
  | .i op _ rs1 imm => 1 ≤ op ∧ op ≤ 0x0d ∧ (5 ≤ op → op ≤ 7 → imm.toNat < 64) ∧ (0x0a ≤ op → op ≤ 0x0c → rs1 = 0)
  | .m op _ _ _ => (0x10 ≤ op ∧ op ≤ 0x16) ∨ (0x18 ≤ op ∧ op ≤ 0x1b)
  | .b op _ _ _ => 0x20 ≤ op ∧ op ≤ 0x25
  | .s sub code => sub ≤ 3 ∧ (sub = 3 → code = 0)

end Sys2Proof

/-- Encoding and decoding of the Larva set agree (R506, R507): the word of an instruction decodes to it, with every field at every value that the encoding admits, and a word that
decodes is the word of what it decodes to. -/
def Obligations.larvaEncoding : Prop :=
  (∀ op : LarvaOp, Encodable op → decodeLarva op.word = some op) ∧
  (∀ (w : BitVec 32) (op : LarvaOp), decodeLarva w = some op → Encodable op ∧ op.word = w)

/-! ## Services and applets (R518 to R534) -/

namespace Sys2Proof

/-- An applet calls a service that its header grants (R513, R523, R525). -/
def CallAt (s : State) (code : Nat) : Prop :=
  CoreAt s ∧ s.atApplet = true ∧ s.b F.KPX_STATUS_INTRAP = false ∧ s.granted code = true

/-- The service returns to the applet (R513, R523): the general registers are `x`, the pc is that of the next instruction, the privilege is Applet's again; beside the
trap registers and KPX_INSTRET only what `touched` names has changed of `u`. -/
def Returns (touched : Nat → Prop) (x : List Word) (s u t : State) : Prop :=
  t.core = { s.core with x := x, pc := s.core.pc + 4, passed := false, held := false } ∧ t.atApplet = true ∧ t.b F.KPX_STATUS_INTRAP = false ∧
  t.g F.KPX_INSTRET_COUNT = (s.g F.KPX_INSTRET_COUNT + 1) % 2 ^ 64 ∧
  Quiet (fun k => trapKeys k ∨ k = F.KPX_INSTRET_COUNT.key ∨ touched k) { u with core := t.core } t

/-- x1 with a status (R526), and x1 with a status and x2 with a value. -/
def stat (s : State) (status : Nat) : List Word := s.core.x.set 1 (BitVec.ofNat 64 status)
def stat2 (s : State) (status : Nat) (v : Word) : List Word := (s.core.x.set 2 v).set 1 (BitVec.ofNat 64 status)

/-- The memory with the output of a block in OUT and its length in OUT_LEN; where OUT_CAP is too small, OUT_LEN alone (R524, R526). -/
def blockMem (s : State) (b : Block) (out : List Byte) : List Host.Cell :=
  if b.cap < out.length then (s.winPut (b.at_ + 0x30) (leBytes 8 out.length)).mem else ((s.winPut b.out out).winPut (b.at_ + 0x30) (leBytes 8 out.length)).mem
def blockStat (b : Block) (out : List Byte) : Nat := if b.cap < out.length then 7 else 0

/-- A handle gives the applet a key for a use (R526, R527, R557, R558): a slot whose check passes, or an ephemeral register. -/
def keyInHand (s : State) (x : Word) (use : Nat) (key : List Byte) : Bool :=
  !s.suspended && (match s.handleOf x with
    | none => false
    | some h => match h.key with
      | .slot n => s.slotValid n && (!s.zeroized || s.g (F.KEY_POL_TYPE n) == 2) && (s.g (F.KEY_POL_USES n)).testBit use && (s.slotOf n) == ⟨key, []⟩ &&
          (decide (n < 64) || s.g (F.KEY_POL_TYPE n) == 2 || (s.bat.opRoot.isSome && s.bat.rootFailing == []))
      | .eph r => (match s.key.eph.getD r none with | some e => (if e.derived then decide (use < 2) else use == 4) && e.bytes == key | none => false))

/-- A new handle of the caller: its number is none of those that it has open (R527). -/
def NewHandle (s t : State) (k : KeyRef) : Prop :=
  ∃ h, t.key.handles = s.key.handles ++ [h] ∧ h.applet = s.aslot ∧ h.key = k ∧ (∀ g ∈ s.myHandles, g.number ≠ h.number) ∧
    t.core.x = stat2 s 0 (BitVec.ofNat 64 h.number)

end Sys2Proof

/-- The services over a block (R524 to R526): each writes its output to OUT and its length to OUT_LEN, or asks for space. -/
def Obligations.blockServices : Prop :=
  ∀ (s : State) (b : Block) (key : List Byte) (r : Nat),
    s.block = some b →
    let out := fun (l : List Byte) (u : State) (t : State) => Returns (onPages [0x31]) (stat s (blockStat b l)) s { u with mem := blockMem s b l } t
    let drawn := fun (n : Nat) => (List.range n).map (Config.drbgByte s.freeCount)
    (CallAt s 0x023 → Gives .sha384 s (out (digestBytes48 (Config.sha384 b.inp)) s)) ∧
    (CallAt s 0x028 → Gives .random s (out (drawn b.cap) { s with freeCount := s.freeCount + 1 })) ∧
    (CallAt s 0x020 → keyInHand s (s.xr 1) 0 key = true → b.inp.length + 28 ≤ b.cap → Gives .aesGcmSeal s
      (out (drawn 12 ++ (List.range b.inp.length).map (Config.gcmSealByte key (drawn 12) b.aux b.inp) ++
        leBytes 16 (Config.gcmTag key (drawn 12) b.aux b.inp).toNat) { s with freeCount := s.freeCount + 1 })) ∧
    (CallAt s 0x021 → keyInHand s (s.xr 1) 0 key = true → 28 ≤ b.inp.length → b.inp.length ≤ b.cap + 28 → Gives (.aesGcmOpen true) s
      (out ((List.range (b.inp.length - 28)).map (Config.gcmOpenByte key (b.inp.take 12) b.aux (slice b.inp 12 (b.inp.length - 28)))) s)) ∧
    (CallAt s 0x021 → keyInHand s (s.xr 1) 0 key = true → 28 ≤ b.inp.length → b.inp.length ≤ b.cap + 28 → Gives (.aesGcmOpen false) s (fun t =>
      Returns (onPages [0x31]) (stat s 8) s { s with mem := (s.winPut (b.at_ + 0x30) (leBytes 8 0)).mem } t)) ∧
    (CallAt s 0x022 → keyInHand s (s.xr 1) 1 key = true → Gives .aesCmac s (out ((List.range 16).map (Config.cmacByte key b.inp)) s)) ∧
    (CallAt s 0x024 → keyInHand s (s.xr 1) 2 key = true → 96 ≤ b.cap → Gives .ecdsaSign s
      (out ((List.range 96).map (Config.ecdsaSignByte key b.inp s.freeCount)) { s with freeCount := s.freeCount + 1 })) ∧
    (CallAt s 0x025 → b.aux.length = 193 → Gives .ecdsaVerify s (fun t =>
      Returns (fun _ => False) (stat2 s 0 (BitVec.ofNat 64 (b2n (Config.ecdsaOk (b.aux.take 97) b.inp (b.aux.drop 97))))) s
        { s with mem := (s.winPut (b.at_ + 0x30) (leBytes 8 0)).mem } t)) ∧
    (CallAt s 0x026 → keyInHand s (s.xr 1) 3 key = true → b.aux.length = 97 → s.myHandles.length < 16 → r < 32 → (∀ h ∈ s.key.handles, h.key ≠ .eph r) →
      (∀ q < r, ∃ h ∈ s.key.handles, h.key = .eph q) → Gives .ecdh s (fun t =>
        NewHandle s t (.eph r) ∧ t.key.eph = s.key.eph.set r (some { derived := false, bytes := (List.range 48).map (Config.ecdhByte key b.aux) }) ∧
        Returns (onPages [0x31]) t.core.x s { s with key := t.key, freeCount := t.freeCount, mem := (s.winPut (b.at_ + 0x30) (leBytes 8 0)).mem } t)) ∧
    (CallAt s 0x027 → keyInHand s (s.xr 1) 4 key = true → s.myHandles.length < 16 → r < 32 → (∀ h ∈ s.key.handles, h.key ≠ .eph r) →
      (∀ q < r, ∃ h ∈ s.key.handles, h.key = .eph q) → Gives .hkdf s (fun t =>
        NewHandle s t (.eph r) ∧ t.key.eph = s.key.eph.set r (some { derived := true, bytes := Machine.hkdf key b.inp b.aux 32 }) ∧
        Returns (onPages [0x31]) t.core.x s { s with key := t.key, freeCount := t.freeCount, mem := (s.winPut (b.at_ + 0x30) (leBytes 8 0)).mem } t)) ∧
    (CallAt s 0x050 → 32 ≤ b.aux.length → b.aux.length ≤ 64 → s.life ≠ .returned → (s.issueFull b.aux).1.length ≤ b.cap → Gives .attFull s (fun t =>
        t.ctr 4 = min 0xffffffff (s.ctr 4 + 1) ∧ t.g (F.ATT_RECENT_COUNT 0) = t.ctr 4 ∧ t.b ((hdrEvt 0x35).bit 0) = true ∧
        Returns (onPages [0x32, 0x35]) (stat s 0) s { s with ten := t.ten, freeCount := s.freeCount + 1, mem := blockMem s b t.ten.issued } t)) ∧
    (CallAt s 0x051 → 8 ≤ b.inp.length → b.inp.length ≤ 64 → Gives .attCert s (fun t =>
        if b.cap < (s.issueCert b.inp).1.length then
          Returns (fun _ => False) (stat s 7) s { s with mem := (s.winPut (b.at_ + 0x30) (leBytes 8 (s.issueCert b.inp).1.length)).mem } t
        else t.ctr 4 = min 0xffffffff (s.ctr 4 + 1) ∧ t.b ((hdrEvt 0x35).bit 0) = true ∧
        Returns (onPages [0x32, 0x35]) (stat s 0) s { s with ten := t.ten, freeCount := s.freeCount + 1, mem := blockMem s b t.ten.issued } t))

/-- The services over registers (R525 to R529): handles, counters, job keys, the log, the mode request, the page write, the time; a service that the header does not
grant, and one that a broken block asks for, change nothing but x1. -/
def Obligations.registerServices : Prop :=
  ∀ (s : State) (key : List Byte) (page off : Nat) (row : RegRow) (m : Nat),
    let n := (s.xr 1).toNat
    let none_ := fun (_ : Nat) => False
    (CallAt s 0x010 → s.suspended = false → s.zeroized = false → n < 256 → slotClass n = 2 + s.tenantNo → s.slotValid n = true → s.b (F.KEY_POL_APPLET n) = true →
      s.myHandles.length < 16 → (s.slotOf n).failing = [] → Gives .keyOpen s (fun t =>
        NewHandle s t (.slot n) ∧ Returns (onPages [0x31]) t.core.x s { s with key := { s.key with handles := t.key.handles }, freeCount := s.freeCount + 1 } t)) ∧
    (CallAt s 0x010 → s.suspended = true → Gives .keyOpen s (Returns none_ (stat s 4) s s)) ∧
    (CallAt s 0x011 → (∃ h ∈ s.myHandles, h.number = n) → Gives .keyClose s (fun t =>
        (∀ h ∈ t.key.handles, h ∈ s.key.handles) ∧ t.key.handles.length < s.key.handles.length ∧
        Returns none_ (stat s 0) s { s with key := { s.key with handles := t.key.handles, eph := t.key.eph } } t)) ∧
    (CallAt s 0x011 → s.handleOf (s.xr 1) = none → Gives .keyClose s (Returns none_ (stat s 2) s s)) ∧
    (CallAt s 0x030 → n < 32 → Gives .ctrRead s (Returns none_ (stat2 s 0 (BitVec.ofNat 64 (s.ctr n))) s s)) ∧
    (CallAt s 0x031 → ((16 ≤ n ∧ n < 24 ∧ s.tenancy = .owner) ∨ (24 ≤ n ∧ n < 32 ∧ s.tenancy = .contractor)) → s.ctr n < 0xffffffff →
      Gives (.ctrInc true) s (fun t => t.ctr n = s.ctr n + 1 ∧ (∀ j < 32, j ≠ n → t.ctr j = s.ctr j) ∧
        Returns (onPages [0x32]) (stat2 s 0 (BitVec.ofNat 64 (s.ctr n + 1))) s s t)) ∧
    (CallAt s 0x031 → n < 16 → Gives (.ctrInc true) s (Returns none_ (stat s 3) s s)) ∧
    (CallAt s 0x040 → jobNumberOk n = true → n ∈ imgJobs s.caller → keyInHand s (s.xr 2) 5 key = true → Gives .jobKey s (fun t =>
        (t.can (n / 256)).keys = jobKeyOf key (n / 256) (n % 256) (s.ctr 7) :: (s.can (n / 256)).keys.filter (fun k => k.job != n % 256) ∧
        t.b (F.CB_JOB_STAT_KEYED (n / 256) (n % 256)) = true ∧ t.mod.keysAbsent = t.someUnkeyed ∧
        Returns (onPages [0x19, 0x1a, 0x20 + n / 256, 0x31]) (stat s 0) s
          { s with cb0 := t.cb0, cb1 := t.cb1, mod := { s.mod with keysAbsent := t.mod.keysAbsent } } t)) ∧
    (CallAt s 0x060 → Gives .logEvent s (fun t =>
        t.g (F.LVA_LOG_CODE s.aslot) = n % 65536 ∧ t.g (F.LVA_LOG_COUNT s.aslot) = satTo (F.LVA_LOG_COUNT s.aslot).w (s.g (F.LVA_LOG_COUNT s.aslot) + 1) ∧
        t.b ((hdrEvt 0x36).bit 2) = true ∧ Returns (fun k => k = (F.LVA_LOG_CODE s.aslot).key ∨ k = (hdrEvt 0x36).key) (stat s 0) s s t)) ∧
    (CallAt s 0x070 → n ≤ 10 → (imgGrantMod s.caller).testBit n = true → Gives .modReq s (fun t =>
        t.core = { s.core with x := stat2 s (if t.g (F.MOD_REQ_STATE n) = 2 then 0 else 6) (t.word (F.MOD_REQ_VALUE n).key)
                               pc := s.core.pc + 4, passed := false, held := false } ∧
        t.atApplet = true ∧ (n = 3 → (s.xr 2).toNat % 256 ≠ 0xff → t.g (F.MOD_REQ_VALUE 3) = (s.xr 2).toNat % 256 ∧ t.g (F.MOD_REQ_ARG 3) = (s.xr 3).toNat % 256))) ∧
    (CallAt s 0x070 → n ≤ 10 → (imgGrantMod s.caller).testBit n = false → Gives .modReq s (Returns none_ (stat s 3) s s)) ∧
    (CallAt s 0x071 → n = 0x10000000 + 0x1000 * page + off → setting page off = true → page + 256 * (off / 8) ∈ imgPagew s.caller → page + 256 * (off / 8) ≠ 0 →
      rowAt page off = some row → row.wcol < 8 → MayWrite s .keeper row.wcol page → Gives .pageWrite s (fun t =>
        t.word (regKey page off) = underMask (s.word (regKey page off)) (s.xr 2) (row.rw ||| row.km) ∧
        Returns (fun k => k = regKey page off) (stat s 0) s { s with nvm := { s.nvm with site := t.nvm.site } } t)) ∧
    (CallAt s 0x080 → Gives .timeService s (Returns none_ (((s.core.x.set 2 (s.word F.TSY_COUNT_COUNT.key)).set 3 (s.word F.CLK_UPTIME_US.key)).set 1 0) s s)) ∧
    (CallAt s 0x001 → s.core.x.getD 1 0 = BitVec.ofNat 64 (0x10 + m) → m < 4 → s.sessionUp m = true → (s.xr 3).toNat ≤ 1024 →
      inWindows (s.xr 2).toNat (s.xr 3).toNat = true → Gives .send s (fun t =>
        (t.mgtOf m).unasked = some { channel := 0x10 + m, cmd := 0xc002, status := 0, detail := 0, tag := 0
                                     body := leBytes 1 s.aslot ++ leBytes 1 0 ++ leBytes 2 (s.xr 3).toNat ++ s.winBytes (s.xr 2).toNat (s.xr 3).toNat } ∧
        Returns none_ (stat s 0) s { s with mgt := t.mgt } t)) ∧
    (CallAt s 0x001 → 1024 < (s.xr 3).toNat → Gives .send s (Returns none_ (stat s 1) s s)) ∧
    (CoreAt s → s.atApplet = true → s.b F.KPX_STATUS_INTRAP = false → s.granted 0x028 = false → Gives .random s (Returns none_ (stat s 3) s s)) ∧
    (CallAt s 0x028 → s.block = none → Gives .random s (Returns none_ (stat s 1) s s))

/-- Applets: a tick falls due and is queued (R520, R522); an entry starts the first invocation of the queue at its address with its registers (R521); EXIT ends it and answers
its sender (R525); LVA sequence 1 loads an image that passes its checks, and records the cause of the first that fails (R532, R533). -/
def Obligations.appletEntries : Prop :=
  ∀ (s : State) (acc : Accessor) (slot : Fin 8) (img : List Byte) (v : Invocation) (rest : List Invocation) (addr : Word) (check : LoadCheck) (c : Nat),
    (s.appletImage slot.val = some img → s.resident slot.val = true → s.slotFaulted slot.val = false → imgTickMs img ≠ 0 → imgEntry img 2 ≠ 0xffff →
      s.lva.queue.length < 32 → s.lva.queue.all (fun w => w.slot != slot.val || w.kind != 2) = true → Gives (.appletTick slot) s (fun t =>
        t.lva = { s.lva with ticks := s.lva.ticks.set slot.val (s.lva.ticks.getD slot.val 0 + 1)
                             queue := s.lva.queue ++ [{ slot := slot.val, kind := 2, channel := 0, tag := 0, data := [] }] } ∧
        t.g F.LVA_STAT_QUEUED = (s.lva.queue.length + 1) % 2 ^ F.LVA_STAT_QUEUED.w ∧ Quiet (fun k => k = F.LVA_STAT_QUEUED.key) { s with lva := t.lva } t)) ∧
    (s.lva.queue = v :: rest → s.lva.running = none → s.power = .run → s.b F.KPX_STAT_LOCKUP = false → s.b F.SYS_STAT_FENCE_UP = true → v.slot < 8 →
      s.appletImage v.slot = some img → Gives .appletEntry s (fun t =>
        t.lva.queue = rest ∧ t.lva.running = some v ∧ t.atApplet = true ∧ t.g (F.LVA_SLOT_STATE v.slot) = 3 ∧ t.g F.LVA_STAT_RUNNING = v.slot ∧
        t.b F.LVA_STAT_BUSY = true ∧ t.aslot = v.slot ∧ t.b F.KPX_ASLOT_MAPPED = true ∧
        t.core = { s.core with pc := BitVec.ofNat 64 (imgEntry img v.kind), idle := false, held := false, x := t.core.x } ∧ t.core.x.length = 16 ∧
        t.xr 1 = BitVec.ofNat 64 v.kind ∧ t.xr 15 = 0x14000 ∧ (v.kind = 0 → t.xr 2 = BitVec.ofNat 64 v.slot) ∧
        (v.kind = 1 → t.xr 2 = BitVec.ofNat 64 v.channel ∧ t.xr 3 = BitVec.ofNat 64 v.data.length ∧
          t.mem = (s.putBytes (dataBase v.slot + imgInOff img) (v.data.take (imgInCap img))).mem) ∧
        (v.kind = 2 → t.xr 2 = BitVec.ofNat 64 (s.lva.ticks.getD v.slot 0) ∧ t.mem = s.mem) ∧
        Quiet (onPages [0x30, 0x36]) { s with core := t.core, lva := t.lva, mem := t.mem } t)) ∧
    (CallAt s 0x000 → s.lva.running = some v → v.slot < 8 → (v.kind = 1 → v.channel = 1 ∧ s.channelUp 1 = true) → Gives .exitEntry s (fun t =>
        t.lva.running = none ∧ t.b F.LVA_STAT_BUSY = false ∧ t.g (F.LVA_SLOT_STATE v.slot) = 2 ∧ t.atApplet = false ∧ t.b F.KPX_STATUS_INTRAP = false ∧
        t.g (F.LVA_RUN_ENTRIES v.slot) = satTo (F.LVA_RUN_ENTRIES v.slot).w (s.g (F.LVA_RUN_ENTRIES v.slot) + 1) ∧ t.core.x = s.core.x ∧
        t.host.outbox = (if v.kind = 1 then s.host.outbox ++ [{ channel := 1, cmd := 0x8020, status := 0, detail := 0, tag := v.tag
                                                                body := leBytes 2 ((s.xr 1).toNat % 65536) }] else s.host.outbox) ∧
        (v.kind = 2 → t.lva.ticks = s.lva.ticks.set v.slot (s.lva.ticks.getD v.slot 0 - s.lva.given)) ∧
        Quiet (onPages [0x30, 0x36]) { s with core := t.core, lva := t.lva, host := t.host, freeCount := s.freeCount + 1 } t)) ∧
    (SequenceAt s acc 9 0x36 1 [(0x88, addr)] → img = s.imageAt (addr.toNat % 2 ^ 32) → s.appletCause slot.val img check = none →
      Gives (.lvaLoad acc slot check) s (fun t =>
        LockDone 0x36 t ∧ t.g F.LVA_LOADSTAT_STATE = 3 ∧ t.g F.LVA_LOADSTAT_CAUSE = 0 ∧ t.b ((hdrEvt 0x36).bit 0) = true ∧ t.resident slot.val = true ∧
        t.slotFaulted slot.val = false ∧ t.appletImage slot.val = some img ∧ t.b (F.ATT_INFO_PRESENT (6 + slot.val)) = true ∧
        t.g (F.LVA_SLOT_VERSION slot.val) = imgVersion img ∧ (∀ h ∈ t.key.handles, h.applet ≠ slot.val))) ∧
    (SequenceAt s acc 9 0x36 1 [(0x88, addr)] → img = s.imageAt (addr.toNat % 2 ^ 32) → s.appletCause slot.val img check = some c →
      Gives (.lvaLoad acc slot check) s (fun t =>
        LockDone 0x36 t ∧ t.g F.LVA_LOADSTAT_STATE = 4 ∧ t.g F.LVA_LOADSTAT_CAUSE = c % 256 ∧ t.b ((hdrEvt 0x36).bit 0) = true ∧
        Quiet (onPages [0x36]) { s with holds := t.holds } t))

end Statements
end

