-- ==== Sys2Proof/Laws/Cells.lean ====
section
/-!
SUPPORT. Sys2Proof/Laws/Cells.lean: the canonical list of cells: a read after a write, a write leaves every other key alone, and
every write and every filter keeps the canonical form.
-/
namespace Sys2Proof.Machine
open Sys2Proof

variable {α : Type}

theorem cellGet_cellIns_same (d : Nat → α) (k : Nat) (v : α) (l : List (Nat × α)) : cellGet d (cellIns k v l) k = v := by
  induction l with
  | nil => simp [cellIns, cellGet]
  | cons c t ih =>
    obtain ⟨a, w⟩ := c
    unfold cellIns
    split
    · simp [cellGet]
    · split
      · simp [cellGet]
      · rename_i h1 h2
        simp only [cellGet, if_neg (Ne.symm h2)]
        exact ih

theorem cellGet_cellIns_ne (d : Nat → α) {j k : Nat} (h : j ≠ k) (v : α) (l : List (Nat × α)) :
    cellGet d (cellIns k v l) j = cellGet d l j := by
  induction l with
  | nil => simp [cellIns, cellGet, Ne.symm h]
  | cons c t ih =>
    obtain ⟨a, w⟩ := c
    unfold cellIns
    split
    · simp [cellGet, Ne.symm h]
    · split
      · rename_i h1 h2
        subst h2
        simp [cellGet, Ne.symm h]
      · simp only [cellGet]
        rw [ih]

/-- A read of a key after filtering out cells that do not concern it, or all that do. -/
theorem cellGet_filter (d : Nat → α) (keep : Nat → Bool) (j : Nat) (l : List (Nat × α)) :
    cellGet d (l.filter (fun c => keep c.1)) j = if keep j then cellGet d l j else d j := by
  induction l with
  | nil => simp [cellGet]
  | cons c t ih =>
    obtain ⟨a, w⟩ := c
    by_cases ha : keep a
    · rw [List.filter_cons_of_pos (by simpa using ha)]
      by_cases e : a = j
      · subst e; simp [cellGet, ha]
      · simp [cellGet, e, ih]
    · rw [List.filter_cons_of_neg (by simpa using ha), ih]
      by_cases e : a = j
      · subst e; simp [ha]
      · simp [cellGet, e]

variable [DecidableEq α]

theorem cellGet_cellPut_same (d : Nat → α) (k : Nat) (v : α) (l : List (Nat × α)) : cellGet d (cellPut d k v l) k = v := by
  unfold cellPut
  split
  · rename_i h
    rw [cellGet_filter d (fun a => a != k)]
    simp [h]
  · exact cellGet_cellIns_same d k v l

theorem cellGet_cellPut_ne (d : Nat → α) {j k : Nat} (h : j ≠ k) (v : α) (l : List (Nat × α)) :
    cellGet d (cellPut d k v l) j = cellGet d l j := by
  unfold cellPut
  split
  · rw [cellGet_filter d (fun a => a != k)]
    simp [h]
  · exact cellGet_cellIns_ne d h v l

theorem cellsFrom_mono (d : Nat → α) {lo lo' : Nat} (h : lo ≤ lo') (l : List (Nat × α)) (hl : cellsFrom d lo' l = true) :
    cellsFrom d lo l = true := by
  cases l with
  | nil => rfl
  | cons c t =>
    obtain ⟨a, w⟩ := c
    simp only [cellsFrom, Bool.and_eq_true, decide_eq_true_eq] at hl ⊢
    exact ⟨⟨by omega, hl.1.2⟩, hl.2⟩

theorem cellsFrom_filter (d : Nat → α) (p : Nat × α → Bool) (lo : Nat) (l : List (Nat × α)) (hl : cellsFrom d lo l = true) :
    cellsFrom d lo (l.filter p) = true := by
  induction l generalizing lo with
  | nil => simp [cellsFrom]
  | cons c t ih =>
    obtain ⟨a, w⟩ := c
    simp only [cellsFrom, Bool.and_eq_true, decide_eq_true_eq] at hl
    by_cases hp : p (a, w)
    · rw [List.filter_cons_of_pos hp]
      simp only [cellsFrom, Bool.and_eq_true, decide_eq_true_eq]
      exact ⟨hl.1, ih _ hl.2⟩
    · rw [List.filter_cons_of_neg hp]
      exact ih _ (cellsFrom_mono d (by omega) t hl.2)

theorem cellsFrom_cellIns (d : Nat → α) {k : Nat} {v : α} (hv : v ≠ d k) (lo : Nat) (l : List (Nat × α)) (hk : lo ≤ k)
    (hl : cellsFrom d lo l = true) : cellsFrom d lo (cellIns k v l) = true := by
  induction l generalizing lo with
  | nil => simp [cellIns, cellsFrom, hk, hv]
  | cons c t ih =>
    obtain ⟨a, w⟩ := c
    have hl' := hl
    simp only [cellsFrom, Bool.and_eq_true, decide_eq_true_eq] at hl
    unfold cellIns
    split
    · rename_i h
      simp only [cellsFrom, Bool.and_eq_true, decide_eq_true_eq]
      exact ⟨⟨hk, hv⟩, ⟨by omega, hl.1.2⟩, hl.2⟩
    · split
      · rename_i h1 h2
        subst h2
        simp only [cellsFrom, Bool.and_eq_true, decide_eq_true_eq]
        exact ⟨⟨hk, hv⟩, hl.2⟩
      · simp only [cellsFrom, Bool.and_eq_true, decide_eq_true_eq]
        exact ⟨hl.1, ih _ (by omega) hl.2⟩

/-- Every write keeps the canonical form. -/
theorem cellsFrom_cellPut (d : Nat → α) (k : Nat) (v : α) (l : List (Nat × α)) (hl : cellsFrom d 0 l = true) :
    cellsFrom d 0 (cellPut d k v l) = true := by
  unfold cellPut
  split
  · exact cellsFrom_filter d _ 0 l hl
  · rename_i h
    exact cellsFrom_cellIns d h 0 l (Nat.zero_le _) hl

/-- A list of zero bits only: clearing a key and writing its default leave the same reads. -/
theorem cellGet_dropped (d : Nat → α) (k : Nat) (l : List (Nat × α)) : cellGet d (l.filter (fun c => c.1 != k)) k = d k := by
  rw [cellGet_filter d (fun a => a != k)]
  simp

end Sys2Proof.Machine
end

