-- ==== Sys2Proof/Laws/Fields.lean ====
section
/-!
SUPPORT. Sys2Proof/Laws/Fields.lean: registers and their fields: a field reads back the low bits of what was written, every other field and
every other register keeps its value; memory bytes likewise; every operation keeps the canonical forms.
-/
namespace Sys2Proof.Machine
open Sys2Proof

theorem getLsbD_setBits (x : Word) (lo w v i : Nat) (h : lo + w ≤ 64) :
    (setBits x lo w v).getLsbD i = if lo ≤ i ∧ i < lo + w then v.testBit (i - lo) else x.getLsbD i := by
  unfold setBits
  by_cases hi : i < 64
  · simp only [BitVec.getLsbD_or, BitVec.getLsbD_and, BitVec.getLsbD_not, BitVec.getLsbD_ofNat, hi, decide_true, Bool.true_and,
      Nat.testBit_shiftLeft, Nat.testBit_mod_two_pow, Nat.testBit_two_pow_sub_one]
    by_cases h1 : lo ≤ i
    · by_cases h2 : i < lo + w
      · have h3 : i - lo < w := by omega
        simp [h1, h2, h3]
      · have h3 : ¬ i - lo < w := by omega
        simp [h1, h2, h3]
    · simp [h1]
  · have h1 : ¬ (lo ≤ i ∧ i < lo + w) := by omega
    simp [h1, BitVec.getLsbD_of_ge _ _ (Nat.le_of_not_lt hi)]

theorem fld_setBits_same (x : Word) (lo w v : Nat) (h : lo + w ≤ 64) : fld (setBits x lo w v).toNat lo w = v % 2 ^ w := by
  apply Nat.eq_of_testBit_eq
  intro i
  unfold fld
  simp only [Nat.testBit_mod_two_pow, Nat.testBit_shiftRight]
  by_cases hi : i < w
  · have := getLsbD_setBits x lo w v (lo + i) h
    rw [BitVec.getLsbD] at this
    rw [this]
    have h1 : lo ≤ lo + i ∧ lo + i < lo + w := by omega
    simp [h1, hi]
  · simp [hi]

theorem fld_setBits_disjoint (x : Word) (lo w v lo' w' : Nat) (h : lo + w ≤ 64) (hd : lo' + w' ≤ lo ∨ lo + w ≤ lo') :
    fld (setBits x lo w v).toNat lo' w' = fld x.toNat lo' w' := by
  apply Nat.eq_of_testBit_eq
  intro i
  unfold fld
  simp only [Nat.testBit_mod_two_pow, Nat.testBit_shiftRight]
  by_cases hi : i < w'
  · have := getLsbD_setBits x lo w v (lo' + i) h
    rw [BitVec.getLsbD, BitVec.getLsbD] at this
    rw [this]
    have h1 : ¬ (lo ≤ lo' + i ∧ lo' + i < lo + w) := by omega
    rw [if_neg h1]
  · simp [hi]

theorem word_setWord_same (s : State) (k : Nat) (v : Word) : (s.setWord k v).word k = v :=
  cellGet_cellPut_same resetWord k v s.regs

theorem word_setWord_ne (s : State) {j k : Nat} (h : j ≠ k) (v : Word) : (s.setWord k v).word j = s.word j :=
  cellGet_cellPut_ne resetWord h v s.regs

theorem word_p_ne (s : State) {f : Fld} {k : Nat} (h : k ≠ f.key) (v : Nat) : (s.p f v).word k = s.word k :=
  word_setWord_ne s h _

/-- A field reads the low bits of what was written to it. -/
theorem g_p_same (s : State) (f : Fld) (v : Nat) (h : f.lo + f.w ≤ 64) : (s.p f v).g f = v % 2 ^ f.w := by
  unfold State.g State.p
  rw [word_setWord_same]
  exact fld_setBits_same _ _ _ _ h

/-- A write of a field leaves the fields of other registers alone. -/
theorem g_p_ne (s : State) {f f' : Fld} (v : Nat) (h : f'.key ≠ f.key) : (s.p f v).g f' = s.g f' := by
  unfold State.g
  rw [word_p_ne s h]

/-- A write of a field leaves the other fields of its register alone. -/
theorem g_p_disjoint (s : State) {f f' : Fld} (v : Nat) (h : f.lo + f.w ≤ 64) (hd : f'.lo + f'.w ≤ f.lo ∨ f.lo + f.w ≤ f'.lo) :
    (s.p f v).g f' = s.g f' := by
  by_cases hk : f'.key = f.key
  · unfold State.g State.p
    rw [hk, word_setWord_same]
    exact fld_setBits_disjoint _ _ _ _ _ _ h hd
  · exact g_p_ne s v hk

theorem b_eq (s : State) (f : Fld) : s.b f = (s.g f != 0) := rfl
theorem pb_eq (s : State) (f : Fld) (v : Bool) : s.pb f v = s.p f (b2n v) := rfl
theorem addSat_eq (s : State) (f : Fld) (n : Nat) : s.addSat f n = s.p f (satTo f.w (s.g f + n)) := rfl
theorem bump_eq (s : State) (f : Fld) : s.bump f = s.p f (satTo f.w (s.g f + 1)) := rfl
theorem wrapInc_eq (s : State) (f : Fld) : s.wrapInc f = s.p f (s.g f + 1) := rfl

theorem g_lt (s : State) (f : Fld) : s.g f < 2 ^ f.w := Nat.mod_lt _ (Nat.two_pow_pos _)

theorem satTo_lt (w n : Nat) : satTo w n < 2 ^ w := by
  unfold satTo
  have := Nat.two_pow_pos w
  omega

/-- A counter that saturates reads its old value plus the addition, up to all ones. -/
theorem g_addSat_same (s : State) (f : Fld) (n : Nat) (h : f.lo + f.w ≤ 64) : (s.addSat f n).g f = satTo f.w (s.g f + n) := by
  rw [addSat_eq, g_p_same s f _ h, Nat.mod_eq_of_lt (satTo_lt _ _)]

theorem g_bump_same (s : State) (f : Fld) (h : f.lo + f.w ≤ 64) : (s.bump f).g f = satTo f.w (s.g f + 1) := g_addSat_same s f 1 h

theorem word_p_same (s : State) (f : Fld) (v : Nat) : (s.p f v).word f.key = setBits (s.word f.key) f.lo f.w v :=
  word_setWord_same s _ _

/-! ## Memory -/

theorem byte_putByte_same (s : State) (a : Nat) (v : Byte) : (s.putByte a v).byte a = v :=
  cellGet_cellPut_same (memDefault s.memFill) a v s.mem

theorem byte_putByte_ne (s : State) {a b : Nat} (h : b ≠ a) (v : Byte) : (s.putByte a v).byte b = s.byte b :=
  cellGet_cellPut_ne (memDefault s.memFill) h v s.mem

/-- Bytes stored from an address leave every byte outside them alone. -/
theorem byte_putBytes_outside (s : State) (a : Nat) (l : List Byte) (b : Nat) (h : b < a ∨ a + l.length ≤ b) :
    (s.putBytes a l).byte b = s.byte b := by
  induction l generalizing s a with
  | nil => rfl
  | cons x t ih =>
    simp only [List.length_cons] at h
    rw [State.putBytes, ih _ _ (by omega)]
    exact byte_putByte_ne s (by omega) x

/-- Bytes stored from an address are there. -/
theorem byte_putBytes_inside (s : State) (a : Nat) (l : List Byte) (i : Nat) (h : i < l.length) :
    (s.putBytes a l).byte (a + i) = l[i] := by
  induction l generalizing s a i with
  | nil => exact absurd h (by simp)
  | cons x t ih =>
    rw [State.putBytes]
    cases i with
    | zero =>
      rw [Nat.add_zero, byte_putBytes_outside _ _ _ _ (by omega)]
      exact byte_putByte_same s a x
    | succ n =>
      have := ih (s.putByte a x) (a + 1) n (by simpa using h)
      rw [show a + (n + 1) = a + 1 + n by omega, this]
      rfl

/-! ## The canonical forms -/

theorem regsWf_setWord (s : State) (k : Nat) (v : Word) (h : s.regsWf = true) : (s.setWord k v).regsWf = true :=
  cellsFrom_cellPut resetWord k v s.regs h

theorem memWf_putByte (s : State) (a : Nat) (v : Byte) (h : s.memWf = true) : (s.putByte a v).memWf = true :=
  cellsFrom_cellPut (memDefault s.memFill) a v s.mem h

theorem putBytes_regs (s : State) (a : Nat) (l : List Byte) : (s.putBytes a l).regs = s.regs := by
  induction l generalizing s a with
  | nil => rfl
  | cons x t ih => rw [State.putBytes, ih]; rfl

theorem memWf_putBytes (s : State) (a : Nat) (l : List Byte) (h : s.memWf = true) : (s.putBytes a l).memWf = true := by
  induction l generalizing s a with
  | nil => exact h
  | cons x t ih => exact ih _ _ (memWf_putByte s a x h)

theorem memWf_storeLe (s : State) (a n v : Nat) (h : s.memWf = true) : (s.storeLe a n v).memWf = true := memWf_putBytes s a _ h

theorem memWf_dropRange (s : State) (lo hi : Nat) (h : s.memWf = true) : (s.dropRange lo hi).memWf = true :=
  cellsFrom_filter (memDefault s.memFill) _ 0 s.mem h

theorem memWf_dropExt (s : State) (h : s.memWf = true) : s.dropExt.memWf = true := cellsFrom_filter (memDefault s.memFill) _ 0 s.mem h

end Sys2Proof.Machine
end

