-- ==== Sys2Proof/Laws/State.lean ====
section
/-!
SUPPORT. Sys2Proof/Laws/State.lean: what each named update of State leaves alone, one lemma for each field, true by unfolding; and
what a change of one field of State leaves of every register and every byte.
-/
namespace Sys2Proof.Machine
open Sys2Proof

/-! ## setWord -/

@[simp] theorem State.setWord_pending (s : State) (k : Nat) (v : Word) : (s.setWord k v).pending = s.pending := rfl
@[simp] theorem State.setWord_fuse (s : State) (k : Nat) (v : Word) : (s.setWord k v).fuse = s.fuse := rfl
@[simp] theorem State.setWord_bat (s : State) (k : Nat) (v : Word) : (s.setWord k v).bat = s.bat := rfl
@[simp] theorem State.setWord_nvm (s : State) (k : Nat) (v : Word) : (s.setWord k v).nvm = s.nvm := rfl
@[simp] theorem State.setWord_wake (s : State) (k : Nat) (v : Word) : (s.setWord k v).wake = s.wake := rfl
@[simp] theorem State.setWord_icu (s : State) (k : Nat) (v : Word) : (s.setWord k v).icu = s.icu := rfl
@[simp] theorem State.setWord_mod (s : State) (k : Nat) (v : Word) : (s.setWord k v).mod = s.mod := rfl
@[simp] theorem State.setWord_holds (s : State) (k : Nat) (v : Word) : (s.setWord k v).holds = s.holds := rfl
@[simp] theorem State.setWord_carWin (s : State) (k : Nat) (v : Word) : (s.setWord k v).carWin = s.carWin := rfl
@[simp] theorem State.setWord_jobWin (s : State) (k : Nat) (v : Word) : (s.setWord k v).jobWin = s.jobWin := rfl
@[simp] theorem State.setWord_callWin (s : State) (k : Nat) (v : Word) : (s.setWord k v).callWin = s.callWin := rfl
@[simp] theorem State.setWord_keyWin (s : State) (k : Nat) (v : Word) : (s.setWord k v).keyWin = s.keyWin := rfl
@[simp] theorem State.setWord_logUpsets (s : State) (k : Nat) (v : Word) : (s.setWord k v).logUpsets = s.logUpsets := rfl
@[simp] theorem State.setWord_bar (s : State) (k : Nat) (v : Word) : (s.setWord k v).bar = s.bar := rfl
@[simp] theorem State.setWord_cpc (s : State) (k : Nat) (v : Word) : (s.setWord k v).cpc = s.cpc := rfl
@[simp] theorem State.setWord_car (s : State) (k : Nat) (v : Word) : (s.setWord k v).car = s.car := rfl
@[simp] theorem State.setWord_dor0 (s : State) (k : Nat) (v : Word) : (s.setWord k v).dor0 = s.dor0 := rfl
@[simp] theorem State.setWord_dor1 (s : State) (k : Nat) (v : Word) : (s.setWord k v).dor1 = s.dor1 := rfl
@[simp] theorem State.setWord_cb0 (s : State) (k : Nat) (v : Word) : (s.setWord k v).cb0 = s.cb0 := rfl
@[simp] theorem State.setWord_cb1 (s : State) (k : Nat) (v : Word) : (s.setWord k v).cb1 = s.cb1 := rfl
@[simp] theorem State.setWord_tsy (s : State) (k : Nat) (v : Word) : (s.setWord k v).tsy = s.tsy := rfl
@[simp] theorem State.setWord_grp (s : State) (k : Nat) (v : Word) : (s.setWord k v).grp = s.grp := rfl
@[simp] theorem State.setWord_dse (s : State) (k : Nat) (v : Word) : (s.setWord k v).dse = s.dse := rfl
@[simp] theorem State.setWord_key (s : State) (k : Nat) (v : Word) : (s.setWord k v).key = s.key := rfl
@[simp] theorem State.setWord_lva (s : State) (k : Nat) (v : Word) : (s.setWord k v).lva = s.lva := rfl
@[simp] theorem State.setWord_core (s : State) (k : Nat) (v : Word) : (s.setWord k v).core = s.core := rfl
@[simp] theorem State.setWord_ten (s : State) (k : Nat) (v : Word) : (s.setWord k v).ten = s.ten := rfl
@[simp] theorem State.setWord_emc (s : State) (k : Nat) (v : Word) : (s.setWord k v).emc = s.emc := rfl
@[simp] theorem State.setWord_host (s : State) (k : Nat) (v : Word) : (s.setWord k v).host = s.host := rfl
@[simp] theorem State.setWord_mgt (s : State) (k : Nat) (v : Word) : (s.setWord k v).mgt = s.mgt := rfl
@[simp] theorem State.setWord_mgtReply (s : State) (k : Nat) (v : Word) : (s.setWord k v).mgtReply = s.mgtReply := rfl
@[simp] theorem State.setWord_dbg (s : State) (k : Nat) (v : Word) : (s.setWord k v).dbg = s.dbg := rfl
@[simp] theorem State.setWord_mem (s : State) (k : Nat) (v : Word) : (s.setWord k v).mem = s.mem := rfl
@[simp] theorem State.setWord_memFill (s : State) (k : Nat) (v : Word) : (s.setWord k v).memFill = s.memFill := rfl
@[simp] theorem State.setWord_readOut (s : State) (k : Nat) (v : Word) : (s.setWord k v).readOut = s.readOut := rfl
@[simp] theorem State.setWord_freeCount (s : State) (k : Nat) (v : Word) : (s.setWord k v).freeCount = s.freeCount := rfl
@[simp] theorem State.setWord_tick (s : State) (k : Nat) (v : Word) : (s.setWord k v).tick = s.tick := rfl

/-! ## p -/

@[simp] theorem State.p_pending (s : State) (f : Fld) (v : Nat) : (s.p f v).pending = s.pending := rfl
@[simp] theorem State.p_fuse (s : State) (f : Fld) (v : Nat) : (s.p f v).fuse = s.fuse := rfl
@[simp] theorem State.p_bat (s : State) (f : Fld) (v : Nat) : (s.p f v).bat = s.bat := rfl
@[simp] theorem State.p_nvm (s : State) (f : Fld) (v : Nat) : (s.p f v).nvm = s.nvm := rfl
@[simp] theorem State.p_wake (s : State) (f : Fld) (v : Nat) : (s.p f v).wake = s.wake := rfl
@[simp] theorem State.p_icu (s : State) (f : Fld) (v : Nat) : (s.p f v).icu = s.icu := rfl
@[simp] theorem State.p_mod (s : State) (f : Fld) (v : Nat) : (s.p f v).mod = s.mod := rfl
@[simp] theorem State.p_holds (s : State) (f : Fld) (v : Nat) : (s.p f v).holds = s.holds := rfl
@[simp] theorem State.p_carWin (s : State) (f : Fld) (v : Nat) : (s.p f v).carWin = s.carWin := rfl
@[simp] theorem State.p_jobWin (s : State) (f : Fld) (v : Nat) : (s.p f v).jobWin = s.jobWin := rfl
@[simp] theorem State.p_callWin (s : State) (f : Fld) (v : Nat) : (s.p f v).callWin = s.callWin := rfl
@[simp] theorem State.p_keyWin (s : State) (f : Fld) (v : Nat) : (s.p f v).keyWin = s.keyWin := rfl
@[simp] theorem State.p_logUpsets (s : State) (f : Fld) (v : Nat) : (s.p f v).logUpsets = s.logUpsets := rfl
@[simp] theorem State.p_bar (s : State) (f : Fld) (v : Nat) : (s.p f v).bar = s.bar := rfl
@[simp] theorem State.p_cpc (s : State) (f : Fld) (v : Nat) : (s.p f v).cpc = s.cpc := rfl
@[simp] theorem State.p_car (s : State) (f : Fld) (v : Nat) : (s.p f v).car = s.car := rfl
@[simp] theorem State.p_dor0 (s : State) (f : Fld) (v : Nat) : (s.p f v).dor0 = s.dor0 := rfl
@[simp] theorem State.p_dor1 (s : State) (f : Fld) (v : Nat) : (s.p f v).dor1 = s.dor1 := rfl
@[simp] theorem State.p_cb0 (s : State) (f : Fld) (v : Nat) : (s.p f v).cb0 = s.cb0 := rfl
@[simp] theorem State.p_cb1 (s : State) (f : Fld) (v : Nat) : (s.p f v).cb1 = s.cb1 := rfl
@[simp] theorem State.p_tsy (s : State) (f : Fld) (v : Nat) : (s.p f v).tsy = s.tsy := rfl
@[simp] theorem State.p_grp (s : State) (f : Fld) (v : Nat) : (s.p f v).grp = s.grp := rfl
@[simp] theorem State.p_dse (s : State) (f : Fld) (v : Nat) : (s.p f v).dse = s.dse := rfl
@[simp] theorem State.p_key (s : State) (f : Fld) (v : Nat) : (s.p f v).key = s.key := rfl
@[simp] theorem State.p_lva (s : State) (f : Fld) (v : Nat) : (s.p f v).lva = s.lva := rfl
@[simp] theorem State.p_core (s : State) (f : Fld) (v : Nat) : (s.p f v).core = s.core := rfl
@[simp] theorem State.p_ten (s : State) (f : Fld) (v : Nat) : (s.p f v).ten = s.ten := rfl
@[simp] theorem State.p_emc (s : State) (f : Fld) (v : Nat) : (s.p f v).emc = s.emc := rfl
@[simp] theorem State.p_host (s : State) (f : Fld) (v : Nat) : (s.p f v).host = s.host := rfl
@[simp] theorem State.p_mgt (s : State) (f : Fld) (v : Nat) : (s.p f v).mgt = s.mgt := rfl
@[simp] theorem State.p_mgtReply (s : State) (f : Fld) (v : Nat) : (s.p f v).mgtReply = s.mgtReply := rfl
@[simp] theorem State.p_dbg (s : State) (f : Fld) (v : Nat) : (s.p f v).dbg = s.dbg := rfl
@[simp] theorem State.p_mem (s : State) (f : Fld) (v : Nat) : (s.p f v).mem = s.mem := rfl
@[simp] theorem State.p_memFill (s : State) (f : Fld) (v : Nat) : (s.p f v).memFill = s.memFill := rfl
@[simp] theorem State.p_readOut (s : State) (f : Fld) (v : Nat) : (s.p f v).readOut = s.readOut := rfl
@[simp] theorem State.p_freeCount (s : State) (f : Fld) (v : Nat) : (s.p f v).freeCount = s.freeCount := rfl
@[simp] theorem State.p_tick (s : State) (f : Fld) (v : Nat) : (s.p f v).tick = s.tick := rfl

/-! ## putByte -/

@[simp] theorem State.putByte_pending (s : State) (a : Nat) (v : Byte) : (s.putByte a v).pending = s.pending := rfl
@[simp] theorem State.putByte_regs (s : State) (a : Nat) (v : Byte) : (s.putByte a v).regs = s.regs := rfl
@[simp] theorem State.putByte_fuse (s : State) (a : Nat) (v : Byte) : (s.putByte a v).fuse = s.fuse := rfl
@[simp] theorem State.putByte_bat (s : State) (a : Nat) (v : Byte) : (s.putByte a v).bat = s.bat := rfl
@[simp] theorem State.putByte_nvm (s : State) (a : Nat) (v : Byte) : (s.putByte a v).nvm = s.nvm := rfl
@[simp] theorem State.putByte_wake (s : State) (a : Nat) (v : Byte) : (s.putByte a v).wake = s.wake := rfl
@[simp] theorem State.putByte_icu (s : State) (a : Nat) (v : Byte) : (s.putByte a v).icu = s.icu := rfl
@[simp] theorem State.putByte_mod (s : State) (a : Nat) (v : Byte) : (s.putByte a v).mod = s.mod := rfl
@[simp] theorem State.putByte_holds (s : State) (a : Nat) (v : Byte) : (s.putByte a v).holds = s.holds := rfl
@[simp] theorem State.putByte_carWin (s : State) (a : Nat) (v : Byte) : (s.putByte a v).carWin = s.carWin := rfl
@[simp] theorem State.putByte_jobWin (s : State) (a : Nat) (v : Byte) : (s.putByte a v).jobWin = s.jobWin := rfl
@[simp] theorem State.putByte_callWin (s : State) (a : Nat) (v : Byte) : (s.putByte a v).callWin = s.callWin := rfl
@[simp] theorem State.putByte_keyWin (s : State) (a : Nat) (v : Byte) : (s.putByte a v).keyWin = s.keyWin := rfl
@[simp] theorem State.putByte_logUpsets (s : State) (a : Nat) (v : Byte) : (s.putByte a v).logUpsets = s.logUpsets := rfl
@[simp] theorem State.putByte_bar (s : State) (a : Nat) (v : Byte) : (s.putByte a v).bar = s.bar := rfl
@[simp] theorem State.putByte_cpc (s : State) (a : Nat) (v : Byte) : (s.putByte a v).cpc = s.cpc := rfl
@[simp] theorem State.putByte_car (s : State) (a : Nat) (v : Byte) : (s.putByte a v).car = s.car := rfl
@[simp] theorem State.putByte_dor0 (s : State) (a : Nat) (v : Byte) : (s.putByte a v).dor0 = s.dor0 := rfl
@[simp] theorem State.putByte_dor1 (s : State) (a : Nat) (v : Byte) : (s.putByte a v).dor1 = s.dor1 := rfl
@[simp] theorem State.putByte_cb0 (s : State) (a : Nat) (v : Byte) : (s.putByte a v).cb0 = s.cb0 := rfl
@[simp] theorem State.putByte_cb1 (s : State) (a : Nat) (v : Byte) : (s.putByte a v).cb1 = s.cb1 := rfl
@[simp] theorem State.putByte_tsy (s : State) (a : Nat) (v : Byte) : (s.putByte a v).tsy = s.tsy := rfl
@[simp] theorem State.putByte_grp (s : State) (a : Nat) (v : Byte) : (s.putByte a v).grp = s.grp := rfl
@[simp] theorem State.putByte_dse (s : State) (a : Nat) (v : Byte) : (s.putByte a v).dse = s.dse := rfl
@[simp] theorem State.putByte_key (s : State) (a : Nat) (v : Byte) : (s.putByte a v).key = s.key := rfl
@[simp] theorem State.putByte_lva (s : State) (a : Nat) (v : Byte) : (s.putByte a v).lva = s.lva := rfl
@[simp] theorem State.putByte_core (s : State) (a : Nat) (v : Byte) : (s.putByte a v).core = s.core := rfl
@[simp] theorem State.putByte_ten (s : State) (a : Nat) (v : Byte) : (s.putByte a v).ten = s.ten := rfl
@[simp] theorem State.putByte_emc (s : State) (a : Nat) (v : Byte) : (s.putByte a v).emc = s.emc := rfl
@[simp] theorem State.putByte_host (s : State) (a : Nat) (v : Byte) : (s.putByte a v).host = s.host := rfl
@[simp] theorem State.putByte_mgt (s : State) (a : Nat) (v : Byte) : (s.putByte a v).mgt = s.mgt := rfl
@[simp] theorem State.putByte_mgtReply (s : State) (a : Nat) (v : Byte) : (s.putByte a v).mgtReply = s.mgtReply := rfl
@[simp] theorem State.putByte_dbg (s : State) (a : Nat) (v : Byte) : (s.putByte a v).dbg = s.dbg := rfl
@[simp] theorem State.putByte_memFill (s : State) (a : Nat) (v : Byte) : (s.putByte a v).memFill = s.memFill := rfl
@[simp] theorem State.putByte_readOut (s : State) (a : Nat) (v : Byte) : (s.putByte a v).readOut = s.readOut := rfl
@[simp] theorem State.putByte_freeCount (s : State) (a : Nat) (v : Byte) : (s.putByte a v).freeCount = s.freeCount := rfl
@[simp] theorem State.putByte_tick (s : State) (a : Nat) (v : Byte) : (s.putByte a v).tick = s.tick := rfl

/-! ## A free value -/

@[simp] theorem State.draw_pending (s : State) : s.draw.2.pending = s.pending := rfl
@[simp] theorem State.draw_regs (s : State) : s.draw.2.regs = s.regs := rfl
@[simp] theorem State.draw_fuse (s : State) : s.draw.2.fuse = s.fuse := rfl
@[simp] theorem State.draw_bat (s : State) : s.draw.2.bat = s.bat := rfl
@[simp] theorem State.draw_nvm (s : State) : s.draw.2.nvm = s.nvm := rfl
@[simp] theorem State.draw_wake (s : State) : s.draw.2.wake = s.wake := rfl
@[simp] theorem State.draw_icu (s : State) : s.draw.2.icu = s.icu := rfl
@[simp] theorem State.draw_mod (s : State) : s.draw.2.mod = s.mod := rfl
@[simp] theorem State.draw_holds (s : State) : s.draw.2.holds = s.holds := rfl
@[simp] theorem State.draw_carWin (s : State) : s.draw.2.carWin = s.carWin := rfl
@[simp] theorem State.draw_jobWin (s : State) : s.draw.2.jobWin = s.jobWin := rfl
@[simp] theorem State.draw_callWin (s : State) : s.draw.2.callWin = s.callWin := rfl
@[simp] theorem State.draw_keyWin (s : State) : s.draw.2.keyWin = s.keyWin := rfl
@[simp] theorem State.draw_logUpsets (s : State) : s.draw.2.logUpsets = s.logUpsets := rfl
@[simp] theorem State.draw_bar (s : State) : s.draw.2.bar = s.bar := rfl
@[simp] theorem State.draw_cpc (s : State) : s.draw.2.cpc = s.cpc := rfl
@[simp] theorem State.draw_car (s : State) : s.draw.2.car = s.car := rfl
@[simp] theorem State.draw_dor0 (s : State) : s.draw.2.dor0 = s.dor0 := rfl
@[simp] theorem State.draw_dor1 (s : State) : s.draw.2.dor1 = s.dor1 := rfl
@[simp] theorem State.draw_cb0 (s : State) : s.draw.2.cb0 = s.cb0 := rfl
@[simp] theorem State.draw_cb1 (s : State) : s.draw.2.cb1 = s.cb1 := rfl
@[simp] theorem State.draw_tsy (s : State) : s.draw.2.tsy = s.tsy := rfl
@[simp] theorem State.draw_grp (s : State) : s.draw.2.grp = s.grp := rfl
@[simp] theorem State.draw_dse (s : State) : s.draw.2.dse = s.dse := rfl
@[simp] theorem State.draw_key (s : State) : s.draw.2.key = s.key := rfl
@[simp] theorem State.draw_lva (s : State) : s.draw.2.lva = s.lva := rfl
@[simp] theorem State.draw_core (s : State) : s.draw.2.core = s.core := rfl
@[simp] theorem State.draw_ten (s : State) : s.draw.2.ten = s.ten := rfl
@[simp] theorem State.draw_emc (s : State) : s.draw.2.emc = s.emc := rfl
@[simp] theorem State.draw_host (s : State) : s.draw.2.host = s.host := rfl
@[simp] theorem State.draw_mgt (s : State) : s.draw.2.mgt = s.mgt := rfl
@[simp] theorem State.draw_mgtReply (s : State) : s.draw.2.mgtReply = s.mgtReply := rfl
@[simp] theorem State.draw_dbg (s : State) : s.draw.2.dbg = s.dbg := rfl
@[simp] theorem State.draw_mem (s : State) : s.draw.2.mem = s.mem := rfl
@[simp] theorem State.draw_memFill (s : State) : s.draw.2.memFill = s.memFill := rfl
@[simp] theorem State.draw_readOut (s : State) : s.draw.2.readOut = s.readOut := rfl
@[simp] theorem State.draw_freeCount (s : State) : s.draw.2.freeCount = s.freeCount + 1 := rfl
@[simp] theorem State.draw_tick (s : State) : s.draw.2.tick = s.tick := rfl
@[simp] theorem State.draw_word (s : State) (k : Nat) : s.draw.2.word k = s.word k := (rfl)
@[simp] theorem State.draw_g (s : State) (f : Fld) : s.draw.2.g f = s.g f := (rfl)
@[simp] theorem State.draw_byte (s : State) (a : Nat) : s.draw.2.byte a = s.byte a := rfl

/-! ## Doorbells -/

theorem State.post_eq (s : State) (n : Nat) : s.post n = { s with icu := (s.post n).icu } := by unfold State.post; split <;> rfl
@[simp] theorem State.post_pending (s : State) (n : Nat) : (s.post n).pending = s.pending := by unfold State.post; split <;> rfl
@[simp] theorem State.post_regs (s : State) (n : Nat) : (s.post n).regs = s.regs := by unfold State.post; split <;> rfl
@[simp] theorem State.post_fuse (s : State) (n : Nat) : (s.post n).fuse = s.fuse := by unfold State.post; split <;> rfl
@[simp] theorem State.post_bat (s : State) (n : Nat) : (s.post n).bat = s.bat := by unfold State.post; split <;> rfl
@[simp] theorem State.post_nvm (s : State) (n : Nat) : (s.post n).nvm = s.nvm := by unfold State.post; split <;> rfl
@[simp] theorem State.post_wake (s : State) (n : Nat) : (s.post n).wake = s.wake := by unfold State.post; split <;> rfl
@[simp] theorem State.post_mod (s : State) (n : Nat) : (s.post n).mod = s.mod := by unfold State.post; split <;> rfl
@[simp] theorem State.post_holds (s : State) (n : Nat) : (s.post n).holds = s.holds := by unfold State.post; split <;> rfl
@[simp] theorem State.post_carWin (s : State) (n : Nat) : (s.post n).carWin = s.carWin := by unfold State.post; split <;> rfl
@[simp] theorem State.post_jobWin (s : State) (n : Nat) : (s.post n).jobWin = s.jobWin := by unfold State.post; split <;> rfl
@[simp] theorem State.post_callWin (s : State) (n : Nat) : (s.post n).callWin = s.callWin := by unfold State.post; split <;> rfl
@[simp] theorem State.post_keyWin (s : State) (n : Nat) : (s.post n).keyWin = s.keyWin := by unfold State.post; split <;> rfl
@[simp] theorem State.post_logUpsets (s : State) (n : Nat) : (s.post n).logUpsets = s.logUpsets := by unfold State.post; split <;> rfl
@[simp] theorem State.post_bar (s : State) (n : Nat) : (s.post n).bar = s.bar := by unfold State.post; split <;> rfl
@[simp] theorem State.post_cpc (s : State) (n : Nat) : (s.post n).cpc = s.cpc := by unfold State.post; split <;> rfl
@[simp] theorem State.post_car (s : State) (n : Nat) : (s.post n).car = s.car := by unfold State.post; split <;> rfl
@[simp] theorem State.post_dor0 (s : State) (n : Nat) : (s.post n).dor0 = s.dor0 := by unfold State.post; split <;> rfl
@[simp] theorem State.post_dor1 (s : State) (n : Nat) : (s.post n).dor1 = s.dor1 := by unfold State.post; split <;> rfl
@[simp] theorem State.post_cb0 (s : State) (n : Nat) : (s.post n).cb0 = s.cb0 := by unfold State.post; split <;> rfl
@[simp] theorem State.post_cb1 (s : State) (n : Nat) : (s.post n).cb1 = s.cb1 := by unfold State.post; split <;> rfl
@[simp] theorem State.post_tsy (s : State) (n : Nat) : (s.post n).tsy = s.tsy := by unfold State.post; split <;> rfl
@[simp] theorem State.post_grp (s : State) (n : Nat) : (s.post n).grp = s.grp := by unfold State.post; split <;> rfl
@[simp] theorem State.post_dse (s : State) (n : Nat) : (s.post n).dse = s.dse := by unfold State.post; split <;> rfl
@[simp] theorem State.post_key (s : State) (n : Nat) : (s.post n).key = s.key := by unfold State.post; split <;> rfl
@[simp] theorem State.post_lva (s : State) (n : Nat) : (s.post n).lva = s.lva := by unfold State.post; split <;> rfl
@[simp] theorem State.post_core (s : State) (n : Nat) : (s.post n).core = s.core := by unfold State.post; split <;> rfl
@[simp] theorem State.post_ten (s : State) (n : Nat) : (s.post n).ten = s.ten := by unfold State.post; split <;> rfl
@[simp] theorem State.post_emc (s : State) (n : Nat) : (s.post n).emc = s.emc := by unfold State.post; split <;> rfl
@[simp] theorem State.post_host (s : State) (n : Nat) : (s.post n).host = s.host := by unfold State.post; split <;> rfl
@[simp] theorem State.post_mgt (s : State) (n : Nat) : (s.post n).mgt = s.mgt := by unfold State.post; split <;> rfl
@[simp] theorem State.post_mgtReply (s : State) (n : Nat) : (s.post n).mgtReply = s.mgtReply := by unfold State.post; split <;> rfl
@[simp] theorem State.post_dbg (s : State) (n : Nat) : (s.post n).dbg = s.dbg := by unfold State.post; split <;> rfl
@[simp] theorem State.post_mem (s : State) (n : Nat) : (s.post n).mem = s.mem := by unfold State.post; split <;> rfl
@[simp] theorem State.post_memFill (s : State) (n : Nat) : (s.post n).memFill = s.memFill := by unfold State.post; split <;> rfl
@[simp] theorem State.post_readOut (s : State) (n : Nat) : (s.post n).readOut = s.readOut := by unfold State.post; split <;> rfl
@[simp] theorem State.post_freeCount (s : State) (n : Nat) : (s.post n).freeCount = s.freeCount := by unfold State.post; split <;> rfl
@[simp] theorem State.post_tick (s : State) (n : Nat) : (s.post n).tick = s.tick := by unfold State.post; split <;> rfl
@[simp] theorem State.post_word (s : State) (n k : Nat) : (s.post n).word k = s.word k := by simp [State.word]
@[simp] theorem State.post_g (s : State) (n : Nat) (f : Fld) : (s.post n).g f = s.g f := by simp [State.g]
@[simp] theorem State.post_byte (s : State) (n a : Nat) : (s.post n).byte a = s.byte a := by simp [State.byte]

/-! ## A change of one field leaves every register and byte -/

@[simp] theorem State.word_pending (s : State) (x : List Instr) (k : Nat) : State.word { s with pending := x } k = s.word k := (rfl)
@[simp] theorem State.g_pending (s : State) (x : List Instr) (f : Fld) : State.g { s with pending := x } f = s.g f := (rfl)
@[simp] theorem State.byte_pending (s : State) (x : List Instr) (a : Nat) : State.byte { s with pending := x } a = s.byte a := (rfl)
@[simp] theorem State.byte_regs (s : State) (x : List (Nat × Word)) (a : Nat) : State.byte { s with regs := x } a = s.byte a := (rfl)
@[simp] theorem State.word_fuse (s : State) (x : Fuses) (k : Nat) : State.word { s with fuse := x } k = s.word k := (rfl)
@[simp] theorem State.g_fuse (s : State) (x : Fuses) (f : Fld) : State.g { s with fuse := x } f = s.g f := (rfl)
@[simp] theorem State.byte_fuse (s : State) (x : Fuses) (a : Nat) : State.byte { s with fuse := x } a = s.byte a := (rfl)
@[simp] theorem State.word_bat (s : State) (x : Battery) (k : Nat) : State.word { s with bat := x } k = s.word k := (rfl)
@[simp] theorem State.g_bat (s : State) (x : Battery) (f : Fld) : State.g { s with bat := x } f = s.g f := (rfl)
@[simp] theorem State.byte_bat (s : State) (x : Battery) (a : Nat) : State.byte { s with bat := x } a = s.byte a := (rfl)
@[simp] theorem State.word_nvm (s : State) (x : NvmStore) (k : Nat) : State.word { s with nvm := x } k = s.word k := (rfl)
@[simp] theorem State.g_nvm (s : State) (x : NvmStore) (f : Fld) : State.g { s with nvm := x } f = s.g f := (rfl)
@[simp] theorem State.byte_nvm (s : State) (x : NvmStore) (a : Nat) : State.byte { s with nvm := x } a = s.byte a := (rfl)
@[simp] theorem State.word_wake (s : State) (x : Wake) (k : Nat) : State.word { s with wake := x } k = s.word k := (rfl)
@[simp] theorem State.g_wake (s : State) (x : Wake) (f : Fld) : State.g { s with wake := x } f = s.g f := (rfl)
@[simp] theorem State.byte_wake (s : State) (x : Wake) (a : Nat) : State.byte { s with wake := x } a = s.byte a := (rfl)
@[simp] theorem State.word_icu (s : State) (x : Icu) (k : Nat) : State.word { s with icu := x } k = s.word k := (rfl)
@[simp] theorem State.g_icu (s : State) (x : Icu) (f : Fld) : State.g { s with icu := x } f = s.g f := (rfl)
@[simp] theorem State.byte_icu (s : State) (x : Icu) (a : Nat) : State.byte { s with icu := x } a = s.byte a := (rfl)
@[simp] theorem State.word_mod (s : State) (x : ModState) (k : Nat) : State.word { s with mod := x } k = s.word k := (rfl)
@[simp] theorem State.g_mod (s : State) (x : ModState) (f : Fld) : State.g { s with mod := x } f = s.g f := (rfl)
@[simp] theorem State.byte_mod (s : State) (x : ModState) (a : Nat) : State.byte { s with mod := x } a = s.byte a := (rfl)
@[simp] theorem State.word_holds (s : State) (x : List (Nat × List (Nat × Word))) (k : Nat) : State.word { s with holds := x } k = s.word k := (rfl)
@[simp] theorem State.g_holds (s : State) (x : List (Nat × List (Nat × Word))) (f : Fld) : State.g { s with holds := x } f = s.g f := (rfl)
@[simp] theorem State.byte_holds (s : State) (x : List (Nat × List (Nat × Word))) (a : Nat) : State.byte { s with holds := x } a = s.byte a := (rfl)
@[simp] theorem State.word_carWin (s : State) (x : Window) (k : Nat) : State.word { s with carWin := x } k = s.word k := (rfl)
@[simp] theorem State.g_carWin (s : State) (x : Window) (f : Fld) : State.g { s with carWin := x } f = s.g f := (rfl)
@[simp] theorem State.byte_carWin (s : State) (x : Window) (a : Nat) : State.byte { s with carWin := x } a = s.byte a := (rfl)
@[simp] theorem State.word_jobWin (s : State) (x : Window) (k : Nat) : State.word { s with jobWin := x } k = s.word k := (rfl)
@[simp] theorem State.g_jobWin (s : State) (x : Window) (f : Fld) : State.g { s with jobWin := x } f = s.g f := (rfl)
@[simp] theorem State.byte_jobWin (s : State) (x : Window) (a : Nat) : State.byte { s with jobWin := x } a = s.byte a := (rfl)
@[simp] theorem State.word_callWin (s : State) (x : Window) (k : Nat) : State.word { s with callWin := x } k = s.word k := (rfl)
@[simp] theorem State.g_callWin (s : State) (x : Window) (f : Fld) : State.g { s with callWin := x } f = s.g f := (rfl)
@[simp] theorem State.byte_callWin (s : State) (x : Window) (a : Nat) : State.byte { s with callWin := x } a = s.byte a := (rfl)
@[simp] theorem State.word_keyWin (s : State) (x : Window) (k : Nat) : State.word { s with keyWin := x } k = s.word k := (rfl)
@[simp] theorem State.g_keyWin (s : State) (x : Window) (f : Fld) : State.g { s with keyWin := x } f = s.g f := (rfl)
@[simp] theorem State.byte_keyWin (s : State) (x : Window) (a : Nat) : State.byte { s with keyWin := x } a = s.byte a := (rfl)
@[simp] theorem State.word_logUpsets (s : State) (x : List (Nat × Bool)) (k : Nat) : State.word { s with logUpsets := x } k = s.word k := (rfl)
@[simp] theorem State.g_logUpsets (s : State) (x : List (Nat × Bool)) (f : Fld) : State.g { s with logUpsets := x } f = s.g f := (rfl)
@[simp] theorem State.byte_logUpsets (s : State) (x : List (Nat × Bool)) (a : Nat) : State.byte { s with logUpsets := x } a = s.byte a := (rfl)
@[simp] theorem State.word_bar (s : State) (x : Barrier) (k : Nat) : State.word { s with bar := x } k = s.word k := (rfl)
@[simp] theorem State.g_bar (s : State) (x : Barrier) (f : Fld) : State.g { s with bar := x } f = s.g f := (rfl)
@[simp] theorem State.byte_bar (s : State) (x : Barrier) (a : Nat) : State.byte { s with bar := x } a = s.byte a := (rfl)
@[simp] theorem State.word_cpc (s : State) (x : Carapace) (k : Nat) : State.word { s with cpc := x } k = s.word k := (rfl)
@[simp] theorem State.g_cpc (s : State) (x : Carapace) (f : Fld) : State.g { s with cpc := x } f = s.g f := (rfl)
@[simp] theorem State.byte_cpc (s : State) (x : Carapace) (a : Nat) : State.byte { s with cpc := x } a = s.byte a := (rfl)
@[simp] theorem State.word_car (s : State) (x : CarState) (k : Nat) : State.word { s with car := x } k = s.word k := (rfl)
@[simp] theorem State.g_car (s : State) (x : CarState) (f : Fld) : State.g { s with car := x } f = s.g f := (rfl)
@[simp] theorem State.byte_car (s : State) (x : CarState) (a : Nat) : State.byte { s with car := x } a = s.byte a := (rfl)
@[simp] theorem State.word_dor0 (s : State) (x : DoorState) (k : Nat) : State.word { s with dor0 := x } k = s.word k := (rfl)
@[simp] theorem State.g_dor0 (s : State) (x : DoorState) (f : Fld) : State.g { s with dor0 := x } f = s.g f := (rfl)
@[simp] theorem State.byte_dor0 (s : State) (x : DoorState) (a : Nat) : State.byte { s with dor0 := x } a = s.byte a := (rfl)
@[simp] theorem State.word_dor1 (s : State) (x : DoorState) (k : Nat) : State.word { s with dor1 := x } k = s.word k := (rfl)
@[simp] theorem State.g_dor1 (s : State) (x : DoorState) (f : Fld) : State.g { s with dor1 := x } f = s.g f := (rfl)
@[simp] theorem State.byte_dor1 (s : State) (x : DoorState) (a : Nat) : State.byte { s with dor1 := x } a = s.byte a := (rfl)
@[simp] theorem State.word_cb0 (s : State) (x : CanState) (k : Nat) : State.word { s with cb0 := x } k = s.word k := (rfl)
@[simp] theorem State.g_cb0 (s : State) (x : CanState) (f : Fld) : State.g { s with cb0 := x } f = s.g f := (rfl)
@[simp] theorem State.byte_cb0 (s : State) (x : CanState) (a : Nat) : State.byte { s with cb0 := x } a = s.byte a := (rfl)
@[simp] theorem State.word_cb1 (s : State) (x : CanState) (k : Nat) : State.word { s with cb1 := x } k = s.word k := (rfl)
@[simp] theorem State.g_cb1 (s : State) (x : CanState) (f : Fld) : State.g { s with cb1 := x } f = s.g f := (rfl)
@[simp] theorem State.byte_cb1 (s : State) (x : CanState) (a : Nat) : State.byte { s with cb1 := x } a = s.byte a := (rfl)
@[simp] theorem State.word_tsy (s : State) (x : TsyState) (k : Nat) : State.word { s with tsy := x } k = s.word k := (rfl)
@[simp] theorem State.g_tsy (s : State) (x : TsyState) (f : Fld) : State.g { s with tsy := x } f = s.g f := (rfl)
@[simp] theorem State.byte_tsy (s : State) (x : TsyState) (a : Nat) : State.byte { s with tsy := x } a = s.byte a := (rfl)
@[simp] theorem State.word_grp (s : State) (x : GrpState) (k : Nat) : State.word { s with grp := x } k = s.word k := (rfl)
@[simp] theorem State.g_grp (s : State) (x : GrpState) (f : Fld) : State.g { s with grp := x } f = s.g f := (rfl)
@[simp] theorem State.byte_grp (s : State) (x : GrpState) (a : Nat) : State.byte { s with grp := x } a = s.byte a := (rfl)
@[simp] theorem State.word_dse (s : State) (x : DseState) (k : Nat) : State.word { s with dse := x } k = s.word k := (rfl)
@[simp] theorem State.g_dse (s : State) (x : DseState) (f : Fld) : State.g { s with dse := x } f = s.g f := (rfl)
@[simp] theorem State.byte_dse (s : State) (x : DseState) (a : Nat) : State.byte { s with dse := x } a = s.byte a := (rfl)
@[simp] theorem State.word_key (s : State) (x : KeyState) (k : Nat) : State.word { s with key := x } k = s.word k := (rfl)
@[simp] theorem State.g_key (s : State) (x : KeyState) (f : Fld) : State.g { s with key := x } f = s.g f := (rfl)
@[simp] theorem State.byte_key (s : State) (x : KeyState) (a : Nat) : State.byte { s with key := x } a = s.byte a := (rfl)
@[simp] theorem State.word_lva (s : State) (x : LvaState) (k : Nat) : State.word { s with lva := x } k = s.word k := (rfl)
@[simp] theorem State.g_lva (s : State) (x : LvaState) (f : Fld) : State.g { s with lva := x } f = s.g f := (rfl)
@[simp] theorem State.byte_lva (s : State) (x : LvaState) (a : Nat) : State.byte { s with lva := x } a = s.byte a := (rfl)
@[simp] theorem State.word_core (s : State) (x : CoreState) (k : Nat) : State.word { s with core := x } k = s.word k := (rfl)
@[simp] theorem State.g_core (s : State) (x : CoreState) (f : Fld) : State.g { s with core := x } f = s.g f := (rfl)
@[simp] theorem State.byte_core (s : State) (x : CoreState) (a : Nat) : State.byte { s with core := x } a = s.byte a := (rfl)
@[simp] theorem State.word_ten (s : State) (x : TenState) (k : Nat) : State.word { s with ten := x } k = s.word k := (rfl)
@[simp] theorem State.g_ten (s : State) (x : TenState) (f : Fld) : State.g { s with ten := x } f = s.g f := (rfl)
@[simp] theorem State.byte_ten (s : State) (x : TenState) (a : Nat) : State.byte { s with ten := x } a = s.byte a := (rfl)
@[simp] theorem State.word_emc (s : State) (x : EmcState) (k : Nat) : State.word { s with emc := x } k = s.word k := (rfl)
@[simp] theorem State.g_emc (s : State) (x : EmcState) (f : Fld) : State.g { s with emc := x } f = s.g f := (rfl)
@[simp] theorem State.byte_emc (s : State) (x : EmcState) (a : Nat) : State.byte { s with emc := x } a = s.byte a := (rfl)
@[simp] theorem State.word_host (s : State) (x : HostState) (k : Nat) : State.word { s with host := x } k = s.word k := (rfl)
@[simp] theorem State.g_host (s : State) (x : HostState) (f : Fld) : State.g { s with host := x } f = s.g f := (rfl)
@[simp] theorem State.byte_host (s : State) (x : HostState) (a : Nat) : State.byte { s with host := x } a = s.byte a := (rfl)
@[simp] theorem State.word_mgt (s : State) (x : MgtSessions) (k : Nat) : State.word { s with mgt := x } k = s.word k := (rfl)
@[simp] theorem State.g_mgt (s : State) (x : MgtSessions) (f : Fld) : State.g { s with mgt := x } f = s.g f := (rfl)
@[simp] theorem State.byte_mgt (s : State) (x : MgtSessions) (a : Nat) : State.byte { s with mgt := x } a = s.byte a := (rfl)
@[simp] theorem State.word_mgtReply (s : State) (x : MgtReply) (k : Nat) : State.word { s with mgtReply := x } k = s.word k := (rfl)
@[simp] theorem State.g_mgtReply (s : State) (x : MgtReply) (f : Fld) : State.g { s with mgtReply := x } f = s.g f := (rfl)
@[simp] theorem State.byte_mgtReply (s : State) (x : MgtReply) (a : Nat) : State.byte { s with mgtReply := x } a = s.byte a := (rfl)
@[simp] theorem State.word_dbg (s : State) (x : DebugState) (k : Nat) : State.word { s with dbg := x } k = s.word k := (rfl)
@[simp] theorem State.g_dbg (s : State) (x : DebugState) (f : Fld) : State.g { s with dbg := x } f = s.g f := (rfl)
@[simp] theorem State.byte_dbg (s : State) (x : DebugState) (a : Nat) : State.byte { s with dbg := x } a = s.byte a := (rfl)
@[simp] theorem State.word_mem (s : State) (x : List (Nat × Byte)) (k : Nat) : State.word { s with mem := x } k = s.word k := (rfl)
@[simp] theorem State.g_mem (s : State) (x : List (Nat × Byte)) (f : Fld) : State.g { s with mem := x } f = s.g f := (rfl)
@[simp] theorem State.word_memFill (s : State) (x : Nat) (k : Nat) : State.word { s with memFill := x } k = s.word k := (rfl)
@[simp] theorem State.g_memFill (s : State) (x : Nat) (f : Fld) : State.g { s with memFill := x } f = s.g f := (rfl)
@[simp] theorem State.word_readOut (s : State) (x : Word) (k : Nat) : State.word { s with readOut := x } k = s.word k := (rfl)
@[simp] theorem State.g_readOut (s : State) (x : Word) (f : Fld) : State.g { s with readOut := x } f = s.g f := (rfl)
@[simp] theorem State.byte_readOut (s : State) (x : Word) (a : Nat) : State.byte { s with readOut := x } a = s.byte a := (rfl)
@[simp] theorem State.word_freeCount (s : State) (x : Nat) (k : Nat) : State.word { s with freeCount := x } k = s.word k := (rfl)
@[simp] theorem State.g_freeCount (s : State) (x : Nat) (f : Fld) : State.g { s with freeCount := x } f = s.g f := (rfl)
@[simp] theorem State.byte_freeCount (s : State) (x : Nat) (a : Nat) : State.byte { s with freeCount := x } a = s.byte a := (rfl)
@[simp] theorem State.word_tick (s : State) (x : Nat) (k : Nat) : State.word { s with tick := x } k = s.word k := (rfl)
@[simp] theorem State.g_tick (s : State) (x : Nat) (f : Fld) : State.g { s with tick := x } f = s.g f := (rfl)
@[simp] theorem State.byte_tick (s : State) (x : Nat) (a : Nat) : State.byte { s with tick := x } a = s.byte a := (rfl)

@[simp] theorem State.byte_setWord (s : State) (k : Nat) (v : Word) (a : Nat) : (s.setWord k v).byte a = s.byte a := (rfl)
@[simp] theorem State.byte_p (s : State) (f : Fld) (v a : Nat) : (s.p f v).byte a = s.byte a := (rfl)
@[simp] theorem State.word_putByte (s : State) (a : Nat) (v : Byte) (k : Nat) : (s.putByte a v).word k = s.word k := (rfl)
@[simp] theorem State.g_putByte (s : State) (a : Nat) (v : Byte) (f : Fld) : (s.putByte a v).g f = s.g f := (rfl)

end Sys2Proof.Machine
end

