-- ==== Sys2Proof/Laws/Flags.lean ====
section
/-!
SUPPORT. Sys2Proof/Laws/Flags.lean: what setting an EVT bit, counting and letting the doorbells settle can change: one lemma for each shared
operation that says everything it does outside LOG and the ICU.
-/
namespace Sys2Proof.Machine
open Sys2Proof

/-! ## The frame relation -/

theorem Quiet.refl (P : Nat → Prop) (s : State) : Quiet P s s := ⟨fun _ _ _ _ => rfl, rfl⟩

theorem Quiet.mono {P Q : Nat → Prop} {s t : State} (h : Quiet P s t) (hpq : ∀ k, P k → Q k) : Quiet Q s t :=
  ⟨fun k hk h4 h5 => h.1 k (fun hp => hk (hpq k hp)) h4 h5, h.2⟩

theorem Quiet.trans {P : Nat → Prop} {s t u : State} (h1 : Quiet P s t) (h2 : Quiet P t u) : Quiet P s u := by
  refine ⟨fun k hk h4 h5 => (h2.1 k hk h4 h5).trans (h1.1 k hk h4 h5), ?_⟩
  obtain ⟨_, e1⟩ := h1
  obtain ⟨_, e2⟩ := h2
  rw [e2, e1]

theorem Still.quiet {P : Nat → Prop} {s t : State} (h : Still s t) : Quiet P s t := Quiet.mono h (fun _ hf => hf.elim)

theorem Still.refl (s : State) : Still s s := Quiet.refl _ s
theorem Still.trans {s t u : State} (h1 : Still s t) (h2 : Still t u) : Still s u := Quiet.trans h1 h2

theorem Quiet.g {P : Nat → Prop} {s t : State} (h : Quiet P s t) (f : Fld) (hk : ¬ P f.key) (h4 : f.key / 0x100000 ≠ 4)
    (h5 : f.key / 0x100000 ≠ 5) : t.g f = s.g f := by
  unfold State.g
  rw [h.1 f.key hk h4 h5]

theorem Still.g {s t : State} (h : Still s t) (f : Fld) (h4 : f.key / 0x100000 ≠ 4) (h5 : f.key / 0x100000 ≠ 5) : t.g f = s.g f :=
  Quiet.g h f (fun x => x) h4 h5

theorem Quiet.mem {P : Nat → Prop} {s t : State} (h : Quiet P s t) : t.mem = s.mem := by rw [h.2]
theorem Quiet.byte {P : Nat → Prop} {s t : State} (h : Quiet P s t) (a : Nat) : t.byte a = s.byte a := by rw [h.2]; rfl

/-- A write of a field of a named register. -/
theorem quiet_p (s : State) (f : Fld) (v : Nat) : Quiet (fun k => k = f.key) s (s.p f v) :=
  ⟨fun _ hk _ _ => word_p_ne s hk v, rfl⟩

/-- A write of a field of LOG or of the ICU. -/
theorem still_p (s : State) (f : Fld) (v : Nat) (h : f.key / 0x100000 = 4 ∨ f.key / 0x100000 = 5) : Still s (s.p f v) := by
  refine ⟨fun k _ h4 h5 => word_p_ne s (fun e => ?_) v, rfl⟩
  subst e
  rcases h with h | h
  · exact h4 h
  · exact h5 h

theorem still_icu (s : State) (x : Icu) : Still s { s with icu := x } := ⟨fun _ _ _ _ => rfl, rfl⟩
theorem still_post (s : State) (n : Nat) : Still s (s.post n) := by
  rw [State.post_eq]
  exact still_icu s _

theorem still_foldl {α : Type} (f : State → α → State) (h : ∀ x a, Still x (f x a)) (l : List α) (s : State) : Still s (l.foldl f s) := by
  induction l generalizing s with
  | nil => exact Still.refl s
  | cons a t ih => exact Still.trans (h s a) (ih _)

/-! ## EVT bits -/

/-- Setting an EVT bit touches that page's EVT register alone. -/
theorem quiet_evt (s : State) (page bit : Nat) : Quiet (fun k => k = regKey page 0x20) s (s.evt page bit) := by
  unfold State.evt
  dsimp only
  split
  · exact Quiet.refl _ s
  · split
    · exact Quiet.trans (quiet_p s ((hdrEvt page).bit bit) 1) (Still.quiet (still_post _ _))
    · exact quiet_p s ((hdrEvt page).bit bit) 1

theorem quiet_evtIf (s : State) (c : Bool) (page bit : Nat) : Quiet (fun k => k = regKey page 0x20) s (s.evtIf c page bit) := by
  unfold State.evtIf
  split
  · exact quiet_evt s page bit
  · exact Quiet.refl _ s

theorem word_evt (s : State) (page bit k : Nat) (h : k ≠ regKey page 0x20) : (s.evt page bit).word k = s.word k := by
  unfold State.evt
  dsimp only
  split
  · rfl
  · split <;> simp [word_p_ne, hdrEvt, Fld.bit, h]

/-- Setting an EVT bit leaves the fields of every other register alone. -/
theorem g_evt (s : State) (page bit : Nat) (f : Fld) (h : f.key ≠ regKey page 0x20) : (s.evt page bit).g f = s.g f := by
  unfold State.g
  rw [word_evt s page bit f.key h]

/-- The EVT bit is set, whatever it and EVTEN held (R130). -/
theorem evt_set (s : State) (page bit : Nat) (h : bit < 64) : (s.evt page bit).b ((hdrEvt page).bit bit) = true := by
  have hw : ((hdrEvt page).bit bit).lo + ((hdrEvt page).bit bit).w ≤ 64 := by simp [hdrEvt, Fld.bit]; omega
  have hs : (s.p ((hdrEvt page).bit bit) 1).g ((hdrEvt page).bit bit) = 1 := by
    rw [g_p_same _ _ _ hw]
    simp [hdrEvt, Fld.bit]
  unfold State.evt
  dsimp only
  split
  · assumption
  · split
    · simp [State.b, State.post_g, hs]
    · simp [State.b, hs]

/-- A rise of an EVT bit posts its source where its EVTEN bit is 1; a set bit posts nothing (R130). -/
theorem evt_post (s : State) (page bit : Nat) :
    (s.evt page bit).icu.arriving =
      if !s.b ((hdrEvt page).bit bit) && s.b ((hdrEvten page).bit bit) && evtSource page bit != 0 then evtSource page bit :: s.icu.arriving
      else s.icu.arriving := by
  unfold State.evt State.post
  dsimp only
  by_cases h1 : s.b ((hdrEvt page).bit bit)
  · simp [h1]
  · by_cases h2 : s.b ((hdrEvten page).bit bit)
    · by_cases h3 : evtSource page bit = 0 <;> simp [h1, h2, h3]
    · simp [h1, h2]

/-! ## LOG -/

theorem logKey (k off : Nat) (hk : k = 0x400000 + off) (ho : off < 0x100000) : k / 0x100000 = 4 := by omega

theorem still_page4 (s : State) (f : Fld) (v : Nat) (h : f.key / 0x100000 = 4) : Still s (s.p f v) := still_p s f v (.inl h)
theorem still_page5 (s : State) (f : Fld) (v : Nat) (h : f.key / 0x100000 = 5) : Still s (s.p f v) := still_p s f v (.inr h)

theorem quiet_of_evt {page : Nat} (s : State) (bit : Nat) (h : page = 4 ∨ page = 5) : Still s (s.evt page bit) := by
  refine ⟨fun k _ h4 h5 => word_evt s page bit k (fun e => ?_), (quiet_evt s page bit).2⟩
  subst e
  rcases h with h | h <;> subst h <;> simp [regKey] at h4 h5

theorem still_selfFail (s : State) : Still s s.selfFail := by
  unfold State.selfFail
  dsimp only
  have h1 : Still s (s.bump F.LOG_SELF_COUNT) := still_page4 s _ _ (by decide)
  generalize s.bump F.LOG_SELF_COUNT = s1 at h1
  have h2 : Still s1 (if s1.b F.LOG_STAT_SELF_FAIL = true then s1 else (s1.p F.LOG_STAT_SELF_FAIL 1).evt 4 0) := by
    split
    · exact Still.refl _
    · exact Still.trans (still_page4 _ _ _ (by decide)) (quiet_of_evt _ 0 (.inl rfl))
  generalize (if s1.b F.LOG_STAT_SELF_FAIL = true then s1 else (s1.p F.LOG_STAT_SELF_FAIL 1).evt 4 0) = s2 at h2
  refine Still.trans h1 (Still.trans h2 ?_)
  split
  · exact Still.trans (t := { s2 with bat := { s2.bat with lastResort := satTo 8 (s2.bat.lastResort + 1) } })
      ⟨fun _ _ _ _ => rfl, rfl⟩ (still_page4 _ _ _ (by decide))
  · split
    · exact still_page4 _ _ _ (by decide)
    · exact still_page4 _ _ _ (by decide)

theorem still_logLost (s : State) : Still s s.logLost := still_page4 s _ _ (by decide)

theorem still_classBad (s : State) (c : Nat) (hc : c < 64) : Still s (s.classBad c) := by
  unfold State.classBad
  refine Still.trans (still_page4 s _ _ (by simp [F.LOG_BAD_BAD])) (Still.trans (still_page4 _ _ _ ?_) (Still.trans (still_page4 _ _ _ (by decide)) (still_selfFail _)))
  simp only [F.LOG_CLASS_COUNT]
  omega

theorem still_classRead (s : State) (c : Nat) (hc : c < 64) : Still s (s.classRead c).2 := by
  unfold State.classRead
  split
  · exact Still.refl s
  · dsimp only
    split
    · exact Still.trans (t := { s with logUpsets := _ }) ⟨fun _ _ _ _ => rfl, rfl⟩ (still_classBad _ c hc)
    · exact Still.trans (t := { s with logUpsets := _ }) ⟨fun _ _ _ _ => rfl, rfl⟩ (still_page4 _ _ _ (by decide))

theorem still_classAdd (s : State) (c n : Nat) (hc : c < 64) : Still s (s.classAdd c n) := by
  have h1 : Still s (s.addSat (F.LOG_CLASS_COUNT c) n) := still_page4 s _ _ (by simp only [F.LOG_CLASS_COUNT]; omega)
  unfold State.classAdd
  dsimp only
  split
  · exact Still.trans h1 (Still.trans (still_page4 _ _ _ (by simp [F.LOG_SAT_SAT])) (quiet_of_evt _ 1 (.inl rfl)))
  · exact h1

theorem still_classIncRaw (s : State) (c : Nat) (hc : c < 64) : Still s (s.classIncRaw c).2 := by
  unfold State.classIncRaw
  split
  · exact still_logLost s
  · dsimp only
    split
    · exact Still.trans (still_classRead s c hc) (still_classAdd _ c 1 hc)
    · exact Still.trans (still_classRead s c hc) (still_logLost _)

theorem still_class63 (s : State) (n : Nat) : Still s (s.class63 n) :=
  still_foldl _ (fun x _ => still_classIncRaw x 63 (by decide)) _ s

/-- Counting in a LOG class changes LOG and what LOG's own events reach, nothing else. -/
theorem still_classInc (s : State) (c : Nat) (hc : c < 64) : Still s (s.classInc c) := by
  unfold State.classInc
  dsimp only
  split
  · exact still_classIncRaw s c hc
  · exact Still.trans (still_classIncRaw s c hc) (still_class63 _ _)

theorem still_classCheck (s : State) (c : Nat) (hc : c < 64) : Still s (s.classCheck c).2 := by
  unfold State.classCheck
  dsimp only
  split
  · exact still_classRead s c hc
  · exact Still.trans (still_classRead s c hc) (still_class63 _ _)

/-- A LOST touches the page's TROUBLE register alone, beside LOG. -/
theorem quiet_lost (s : State) (page c : Nat) (hc : c < 64) : Quiet (fun k => k = regKey page 0x30) s (s.lost page c) := by
  unfold State.lost
  split
  · split
    · exact Quiet.refl _ s
    · exact Still.quiet (still_classInc s c hc)
  · exact Quiet.trans (quiet_p s (hdrTrouble page 3) _) (Still.quiet (still_classInc _ c hc))
theorem quiet_transient (s : State) (page c : Nat) (hc : c < 64) : Quiet (fun k => k = regKey page 0x30) s (s.transient page c) :=
  Quiet.trans (quiet_p s (hdrTrouble page 0) _) (Still.quiet (still_classInc _ c hc))
theorem quiet_lasting (s : State) (page c : Nat) (hc : c < 64) : Quiet (fun k => k = regKey page 0x30) s (s.lasting page c) :=
  Quiet.trans (quiet_p s (hdrTrouble page 1) _) (Still.quiet (still_classInc _ c hc))
theorem quiet_violation (s : State) (page : Nat) : Quiet (fun k => k = regKey page 0x30) s (s.violation page) :=
  quiet_p s (hdrTrouble page 2) _

/-! ## The ICU -/

theorem still_fireGroup (s : State) (grp : Nat) (hg : grp < 16) : Still s (s.fireGroup grp) := by
  unfold State.fireGroup
  dsimp only
  refine Still.trans (still_icu s _) (Still.trans (still_page5 _ _ _ ?_) (Still.trans (still_page5 _ _ _ ?_) (Still.trans (still_page5 _ _ _ ?_)
    (still_page5 _ _ _ ?_)))) <;> simp only [F.ICU_GSTAT_COUNT, F.ICU_GSTAT_ELAPSED, F.ICU_GSTAT_RUNNING, F.ICU_GSTAT_FIRES] <;> omega

theorem still_holdIn (s : State) (grp : Nat) (hg : grp < 16) : Still s (s.holdIn grp) := by
  unfold State.holdIn
  dsimp only
  have h1 : Still s (if s.g (F.ICU_GSTAT_COUNT grp) = 0 then (s.p (F.ICU_GSTAT_RUNNING grp) 1).p (F.ICU_GSTAT_ELAPSED grp) 0 else s) := by
    split
    · exact Still.trans (still_page5 _ _ _ (by simp only [F.ICU_GSTAT_RUNNING]; omega)) (still_page5 _ _ _ (by simp only [F.ICU_GSTAT_ELAPSED]; omega))
    · exact Still.refl s
  generalize (if s.g (F.ICU_GSTAT_COUNT grp) = 0 then (s.p (F.ICU_GSTAT_RUNNING grp) 1).p (F.ICU_GSTAT_ELAPSED grp) 0 else s) = s1 at h1
  have h2 : Still s1 (s1.addSat (F.ICU_GSTAT_COUNT grp) 1) := still_page5 s1 _ _ (by simp only [F.ICU_GSTAT_COUNT]; omega)
  split
  · exact Still.trans h1 (Still.trans h2 (still_fireGroup _ grp hg))
  · exact Still.trans h1 h2

theorem groupOf_lt (s : State) (t1 : Bool) (n : Nat) : s.groupOf t1 n < 16 := by
  unfold State.groupOf fld
  split <;> omega

theorem still_pendAt (s : State) (t1 : Bool) (n : Nat) : Still s (s.pendAt t1 n) := by
  unfold State.pendAt
  split
  · dsimp only
    split
    · exact still_icu s _
    · exact Still.trans (still_icu s _) (still_holdIn _ _ (groupOf_lt _ _ _))
  · exact Still.refl s

theorem still_setPending (s : State) (n : Nat) : Still s (s.setPending n) := by
  unfold State.setPending
  split
  · exact Still.trans (still_pendAt s false n) (still_pendAt _ true n)
  · exact Still.refl s

theorem still_ffyNotice (s : State) (n : Nat) : Still s (s.ffyNotice n) := by
  unfold State.ffyNotice
  split
  · exact ⟨fun _ _ _ _ => rfl, rfl⟩
  · exact Still.refl s

theorem still_enqueue (s : State) (n : Nat) : Still s (s.enqueue n) := by
  unfold State.enqueue
  split
  · exact still_ffyNotice s n
  · split
    · exact still_setPending s n
    · split
      · exact still_icu s _
      · split
        · exact Still.refl s
        · exact Still.trans (still_page5 s _ _ (by decide)) (Still.trans (still_classInc _ 45 (by decide))
            (Still.trans (still_page5 _ _ _ (by decide)) (quiet_of_evt _ 0 (.inr rfl))))

theorem still_flush (n : Nat) (s : State) : Still s (State.flush n s) := by
  induction n generalizing s with
  | zero => exact still_icu s _
  | succ n ih =>
    unfold State.flush
    split
    · exact Still.refl s
    · exact Still.trans (still_icu s _) (Still.trans (still_foldl _ still_enqueue _ _) (ih _))

theorem still_msixSend (s : State) : Still s s.msixSend := by
  unfold State.msixSend
  split
  · exact Still.refl s
  · split <;> exact still_icu s _

theorem still_followLine (s : State) : Still s s.followLine := by
  unfold State.followLine
  dsimp only
  split
  · exact Still.trans (still_icu s _) (still_msixSend _)
  · exact still_icu s _

/-- What closes every command changes LOG, the ICU and what Firefly has noticed, nothing else. -/
theorem still_settle (s : State) : Still s s.settle := Still.trans (still_flush 3 s) (still_followLine _)

theorem g_settle (s : State) (f : Fld) (h4 : f.key / 0x100000 ≠ 4) (h5 : f.key / 0x100000 ≠ 5) : s.settle.g f = s.g f :=
  Still.g (still_settle s) f h4 h5
theorem word_settle (s : State) (k : Nat) (h4 : k / 0x100000 ≠ 4) (h5 : k / 0x100000 ≠ 5) : s.settle.word k = s.word k :=
  (still_settle s).1 k (fun x => x) h4 h5

/-- No doorbell is in flight when a command is over. -/
theorem flush_arriving (n : Nat) (s : State) : (State.flush n s).icu.arriving = [] := by
  induction n generalizing s with
  | zero => rfl
  | succ n ih =>
    unfold State.flush
    split
    · assumption
    · exact ih _

theorem msixSend_arriving (s : State) : s.msixSend.icu.arriving = s.icu.arriving := by
  unfold State.msixSend
  split
  · rfl
  · split <;> rfl

theorem settle_arriving (s : State) : s.settle.icu.arriving = [] := by
  unfold State.settle State.followLine
  dsimp only
  split
  · rw [msixSend_arriving]
    exact flush_arriving 3 s
  · exact flush_arriving 3 s

end Sys2Proof.Machine
end

