-- ==== Sys2Proof/Laws/Frames.lean ====
section
/-!
SUPPORT. Sys2Proof/Laws/Frames.lean: what an EVT bit, a count of TROUBLE and LOG, and the settling of doorbells leave alone, one lemma for each
field of State, and what they leave of the registers; two states are equal when every field is.
-/
namespace Sys2Proof.Machine
open Sys2Proof

/-- Two states that agree on every field are one state. -/
theorem State.eq_of_fields {s t : State}
    (h_pending : s.pending = t.pending)
    (h_regs : s.regs = t.regs)
    (h_fuse : s.fuse = t.fuse)
    (h_bat : s.bat = t.bat)
    (h_nvm : s.nvm = t.nvm)
    (h_wake : s.wake = t.wake)
    (h_icu : s.icu = t.icu)
    (h_mod : s.mod = t.mod)
    (h_holds : s.holds = t.holds)
    (h_carWin : s.carWin = t.carWin)
    (h_jobWin : s.jobWin = t.jobWin)
    (h_callWin : s.callWin = t.callWin)
    (h_keyWin : s.keyWin = t.keyWin)
    (h_logUpsets : s.logUpsets = t.logUpsets)
    (h_bar : s.bar = t.bar)
    (h_cpc : s.cpc = t.cpc)
    (h_car : s.car = t.car)
    (h_dor0 : s.dor0 = t.dor0)
    (h_dor1 : s.dor1 = t.dor1)
    (h_cb0 : s.cb0 = t.cb0)
    (h_cb1 : s.cb1 = t.cb1)
    (h_tsy : s.tsy = t.tsy)
    (h_grp : s.grp = t.grp)
    (h_dse : s.dse = t.dse)
    (h_key : s.key = t.key)
    (h_lva : s.lva = t.lva)
    (h_core : s.core = t.core)
    (h_ten : s.ten = t.ten)
    (h_emc : s.emc = t.emc)
    (h_host : s.host = t.host)
    (h_mgt : s.mgt = t.mgt)
    (h_mgtReply : s.mgtReply = t.mgtReply)
    (h_dbg : s.dbg = t.dbg)
    (h_mem : s.mem = t.mem)
    (h_memFill : s.memFill = t.memFill)
    (h_readOut : s.readOut = t.readOut)
    (h_freeCount : s.freeCount = t.freeCount)
    (h_tick : s.tick = t.tick) : s = t := by
  cases s; cases t; simp_all

/-! ## evt -/

@[simp] theorem State.evt_pending (s : State) (p n : Nat) : (s.evt p n).pending = s.pending := by rw [(quiet_evt s p n).2]
@[simp] theorem State.evt_fuse (s : State) (p n : Nat) : (s.evt p n).fuse = s.fuse := by rw [(quiet_evt s p n).2]
@[simp] theorem State.evt_nvm (s : State) (p n : Nat) : (s.evt p n).nvm = s.nvm := by rw [(quiet_evt s p n).2]
@[simp] theorem State.evt_mod (s : State) (p n : Nat) : (s.evt p n).mod = s.mod := by rw [(quiet_evt s p n).2]
@[simp] theorem State.evt_holds (s : State) (p n : Nat) : (s.evt p n).holds = s.holds := by rw [(quiet_evt s p n).2]
@[simp] theorem State.evt_carWin (s : State) (p n : Nat) : (s.evt p n).carWin = s.carWin := by rw [(quiet_evt s p n).2]
@[simp] theorem State.evt_jobWin (s : State) (p n : Nat) : (s.evt p n).jobWin = s.jobWin := by rw [(quiet_evt s p n).2]
@[simp] theorem State.evt_callWin (s : State) (p n : Nat) : (s.evt p n).callWin = s.callWin := by rw [(quiet_evt s p n).2]
@[simp] theorem State.evt_keyWin (s : State) (p n : Nat) : (s.evt p n).keyWin = s.keyWin := by rw [(quiet_evt s p n).2]
@[simp] theorem State.evt_bar (s : State) (p n : Nat) : (s.evt p n).bar = s.bar := by rw [(quiet_evt s p n).2]
@[simp] theorem State.evt_cpc (s : State) (p n : Nat) : (s.evt p n).cpc = s.cpc := by rw [(quiet_evt s p n).2]
@[simp] theorem State.evt_car (s : State) (p n : Nat) : (s.evt p n).car = s.car := by rw [(quiet_evt s p n).2]
@[simp] theorem State.evt_dor0 (s : State) (p n : Nat) : (s.evt p n).dor0 = s.dor0 := by rw [(quiet_evt s p n).2]
@[simp] theorem State.evt_dor1 (s : State) (p n : Nat) : (s.evt p n).dor1 = s.dor1 := by rw [(quiet_evt s p n).2]
@[simp] theorem State.evt_cb0 (s : State) (p n : Nat) : (s.evt p n).cb0 = s.cb0 := by rw [(quiet_evt s p n).2]
@[simp] theorem State.evt_cb1 (s : State) (p n : Nat) : (s.evt p n).cb1 = s.cb1 := by rw [(quiet_evt s p n).2]
@[simp] theorem State.evt_tsy (s : State) (p n : Nat) : (s.evt p n).tsy = s.tsy := by rw [(quiet_evt s p n).2]
@[simp] theorem State.evt_grp (s : State) (p n : Nat) : (s.evt p n).grp = s.grp := by rw [(quiet_evt s p n).2]
@[simp] theorem State.evt_dse (s : State) (p n : Nat) : (s.evt p n).dse = s.dse := by rw [(quiet_evt s p n).2]
@[simp] theorem State.evt_key (s : State) (p n : Nat) : (s.evt p n).key = s.key := by rw [(quiet_evt s p n).2]
@[simp] theorem State.evt_lva (s : State) (p n : Nat) : (s.evt p n).lva = s.lva := by rw [(quiet_evt s p n).2]
@[simp] theorem State.evt_core (s : State) (p n : Nat) : (s.evt p n).core = s.core := by rw [(quiet_evt s p n).2]
@[simp] theorem State.evt_ten (s : State) (p n : Nat) : (s.evt p n).ten = s.ten := by rw [(quiet_evt s p n).2]
@[simp] theorem State.evt_emc (s : State) (p n : Nat) : (s.evt p n).emc = s.emc := by rw [(quiet_evt s p n).2]
@[simp] theorem State.evt_host (s : State) (p n : Nat) : (s.evt p n).host = s.host := by rw [(quiet_evt s p n).2]
@[simp] theorem State.evt_mgt (s : State) (p n : Nat) : (s.evt p n).mgt = s.mgt := by rw [(quiet_evt s p n).2]
@[simp] theorem State.evt_mgtReply (s : State) (p n : Nat) : (s.evt p n).mgtReply = s.mgtReply := by rw [(quiet_evt s p n).2]
@[simp] theorem State.evt_dbg (s : State) (p n : Nat) : (s.evt p n).dbg = s.dbg := by rw [(quiet_evt s p n).2]
@[simp] theorem State.evt_mem (s : State) (p n : Nat) : (s.evt p n).mem = s.mem := by rw [(quiet_evt s p n).2]
@[simp] theorem State.evt_memFill (s : State) (p n : Nat) : (s.evt p n).memFill = s.memFill := by rw [(quiet_evt s p n).2]
@[simp] theorem State.evt_readOut (s : State) (p n : Nat) : (s.evt p n).readOut = s.readOut := by rw [(quiet_evt s p n).2]
@[simp] theorem State.evt_freeCount (s : State) (p n : Nat) : (s.evt p n).freeCount = s.freeCount := by rw [(quiet_evt s p n).2]
@[simp] theorem State.evt_tick (s : State) (p n : Nat) : (s.evt p n).tick = s.tick := by rw [(quiet_evt s p n).2]

/-! ## evtIf -/

@[simp] theorem State.evtIf_pending (s : State) (c : Bool) (p n : Nat) : (s.evtIf c p n).pending = s.pending := by rw [(quiet_evtIf s c p n).2]
@[simp] theorem State.evtIf_fuse (s : State) (c : Bool) (p n : Nat) : (s.evtIf c p n).fuse = s.fuse := by rw [(quiet_evtIf s c p n).2]
@[simp] theorem State.evtIf_nvm (s : State) (c : Bool) (p n : Nat) : (s.evtIf c p n).nvm = s.nvm := by rw [(quiet_evtIf s c p n).2]
@[simp] theorem State.evtIf_mod (s : State) (c : Bool) (p n : Nat) : (s.evtIf c p n).mod = s.mod := by rw [(quiet_evtIf s c p n).2]
@[simp] theorem State.evtIf_holds (s : State) (c : Bool) (p n : Nat) : (s.evtIf c p n).holds = s.holds := by rw [(quiet_evtIf s c p n).2]
@[simp] theorem State.evtIf_carWin (s : State) (c : Bool) (p n : Nat) : (s.evtIf c p n).carWin = s.carWin := by rw [(quiet_evtIf s c p n).2]
@[simp] theorem State.evtIf_jobWin (s : State) (c : Bool) (p n : Nat) : (s.evtIf c p n).jobWin = s.jobWin := by rw [(quiet_evtIf s c p n).2]
@[simp] theorem State.evtIf_callWin (s : State) (c : Bool) (p n : Nat) : (s.evtIf c p n).callWin = s.callWin := by rw [(quiet_evtIf s c p n).2]
@[simp] theorem State.evtIf_keyWin (s : State) (c : Bool) (p n : Nat) : (s.evtIf c p n).keyWin = s.keyWin := by rw [(quiet_evtIf s c p n).2]
@[simp] theorem State.evtIf_bar (s : State) (c : Bool) (p n : Nat) : (s.evtIf c p n).bar = s.bar := by rw [(quiet_evtIf s c p n).2]
@[simp] theorem State.evtIf_cpc (s : State) (c : Bool) (p n : Nat) : (s.evtIf c p n).cpc = s.cpc := by rw [(quiet_evtIf s c p n).2]
@[simp] theorem State.evtIf_car (s : State) (c : Bool) (p n : Nat) : (s.evtIf c p n).car = s.car := by rw [(quiet_evtIf s c p n).2]
@[simp] theorem State.evtIf_dor0 (s : State) (c : Bool) (p n : Nat) : (s.evtIf c p n).dor0 = s.dor0 := by rw [(quiet_evtIf s c p n).2]
@[simp] theorem State.evtIf_dor1 (s : State) (c : Bool) (p n : Nat) : (s.evtIf c p n).dor1 = s.dor1 := by rw [(quiet_evtIf s c p n).2]
@[simp] theorem State.evtIf_cb0 (s : State) (c : Bool) (p n : Nat) : (s.evtIf c p n).cb0 = s.cb0 := by rw [(quiet_evtIf s c p n).2]
@[simp] theorem State.evtIf_cb1 (s : State) (c : Bool) (p n : Nat) : (s.evtIf c p n).cb1 = s.cb1 := by rw [(quiet_evtIf s c p n).2]
@[simp] theorem State.evtIf_tsy (s : State) (c : Bool) (p n : Nat) : (s.evtIf c p n).tsy = s.tsy := by rw [(quiet_evtIf s c p n).2]
@[simp] theorem State.evtIf_grp (s : State) (c : Bool) (p n : Nat) : (s.evtIf c p n).grp = s.grp := by rw [(quiet_evtIf s c p n).2]
@[simp] theorem State.evtIf_dse (s : State) (c : Bool) (p n : Nat) : (s.evtIf c p n).dse = s.dse := by rw [(quiet_evtIf s c p n).2]
@[simp] theorem State.evtIf_key (s : State) (c : Bool) (p n : Nat) : (s.evtIf c p n).key = s.key := by rw [(quiet_evtIf s c p n).2]
@[simp] theorem State.evtIf_lva (s : State) (c : Bool) (p n : Nat) : (s.evtIf c p n).lva = s.lva := by rw [(quiet_evtIf s c p n).2]
@[simp] theorem State.evtIf_core (s : State) (c : Bool) (p n : Nat) : (s.evtIf c p n).core = s.core := by rw [(quiet_evtIf s c p n).2]
@[simp] theorem State.evtIf_ten (s : State) (c : Bool) (p n : Nat) : (s.evtIf c p n).ten = s.ten := by rw [(quiet_evtIf s c p n).2]
@[simp] theorem State.evtIf_emc (s : State) (c : Bool) (p n : Nat) : (s.evtIf c p n).emc = s.emc := by rw [(quiet_evtIf s c p n).2]
@[simp] theorem State.evtIf_host (s : State) (c : Bool) (p n : Nat) : (s.evtIf c p n).host = s.host := by rw [(quiet_evtIf s c p n).2]
@[simp] theorem State.evtIf_mgt (s : State) (c : Bool) (p n : Nat) : (s.evtIf c p n).mgt = s.mgt := by rw [(quiet_evtIf s c p n).2]
@[simp] theorem State.evtIf_mgtReply (s : State) (c : Bool) (p n : Nat) : (s.evtIf c p n).mgtReply = s.mgtReply := by rw [(quiet_evtIf s c p n).2]
@[simp] theorem State.evtIf_dbg (s : State) (c : Bool) (p n : Nat) : (s.evtIf c p n).dbg = s.dbg := by rw [(quiet_evtIf s c p n).2]
@[simp] theorem State.evtIf_mem (s : State) (c : Bool) (p n : Nat) : (s.evtIf c p n).mem = s.mem := by rw [(quiet_evtIf s c p n).2]
@[simp] theorem State.evtIf_memFill (s : State) (c : Bool) (p n : Nat) : (s.evtIf c p n).memFill = s.memFill := by rw [(quiet_evtIf s c p n).2]
@[simp] theorem State.evtIf_readOut (s : State) (c : Bool) (p n : Nat) : (s.evtIf c p n).readOut = s.readOut := by rw [(quiet_evtIf s c p n).2]
@[simp] theorem State.evtIf_freeCount (s : State) (c : Bool) (p n : Nat) : (s.evtIf c p n).freeCount = s.freeCount := by rw [(quiet_evtIf s c p n).2]
@[simp] theorem State.evtIf_tick (s : State) (c : Bool) (p n : Nat) : (s.evtIf c p n).tick = s.tick := by rw [(quiet_evtIf s c p n).2]

/-! ## classInc -/

@[simp] theorem State.classInc_pending (s : State) (c : Nat) (h : c < 64) : (s.classInc c).pending = s.pending := by rw [(still_classInc s c h).2]
@[simp] theorem State.classInc_fuse (s : State) (c : Nat) (h : c < 64) : (s.classInc c).fuse = s.fuse := by rw [(still_classInc s c h).2]
@[simp] theorem State.classInc_nvm (s : State) (c : Nat) (h : c < 64) : (s.classInc c).nvm = s.nvm := by rw [(still_classInc s c h).2]
@[simp] theorem State.classInc_mod (s : State) (c : Nat) (h : c < 64) : (s.classInc c).mod = s.mod := by rw [(still_classInc s c h).2]
@[simp] theorem State.classInc_holds (s : State) (c : Nat) (h : c < 64) : (s.classInc c).holds = s.holds := by rw [(still_classInc s c h).2]
@[simp] theorem State.classInc_carWin (s : State) (c : Nat) (h : c < 64) : (s.classInc c).carWin = s.carWin := by rw [(still_classInc s c h).2]
@[simp] theorem State.classInc_jobWin (s : State) (c : Nat) (h : c < 64) : (s.classInc c).jobWin = s.jobWin := by rw [(still_classInc s c h).2]
@[simp] theorem State.classInc_callWin (s : State) (c : Nat) (h : c < 64) : (s.classInc c).callWin = s.callWin := by rw [(still_classInc s c h).2]
@[simp] theorem State.classInc_keyWin (s : State) (c : Nat) (h : c < 64) : (s.classInc c).keyWin = s.keyWin := by rw [(still_classInc s c h).2]
@[simp] theorem State.classInc_bar (s : State) (c : Nat) (h : c < 64) : (s.classInc c).bar = s.bar := by rw [(still_classInc s c h).2]
@[simp] theorem State.classInc_cpc (s : State) (c : Nat) (h : c < 64) : (s.classInc c).cpc = s.cpc := by rw [(still_classInc s c h).2]
@[simp] theorem State.classInc_car (s : State) (c : Nat) (h : c < 64) : (s.classInc c).car = s.car := by rw [(still_classInc s c h).2]
@[simp] theorem State.classInc_dor0 (s : State) (c : Nat) (h : c < 64) : (s.classInc c).dor0 = s.dor0 := by rw [(still_classInc s c h).2]
@[simp] theorem State.classInc_dor1 (s : State) (c : Nat) (h : c < 64) : (s.classInc c).dor1 = s.dor1 := by rw [(still_classInc s c h).2]
@[simp] theorem State.classInc_cb0 (s : State) (c : Nat) (h : c < 64) : (s.classInc c).cb0 = s.cb0 := by rw [(still_classInc s c h).2]
@[simp] theorem State.classInc_cb1 (s : State) (c : Nat) (h : c < 64) : (s.classInc c).cb1 = s.cb1 := by rw [(still_classInc s c h).2]
@[simp] theorem State.classInc_tsy (s : State) (c : Nat) (h : c < 64) : (s.classInc c).tsy = s.tsy := by rw [(still_classInc s c h).2]
@[simp] theorem State.classInc_grp (s : State) (c : Nat) (h : c < 64) : (s.classInc c).grp = s.grp := by rw [(still_classInc s c h).2]
@[simp] theorem State.classInc_dse (s : State) (c : Nat) (h : c < 64) : (s.classInc c).dse = s.dse := by rw [(still_classInc s c h).2]
@[simp] theorem State.classInc_key (s : State) (c : Nat) (h : c < 64) : (s.classInc c).key = s.key := by rw [(still_classInc s c h).2]
@[simp] theorem State.classInc_lva (s : State) (c : Nat) (h : c < 64) : (s.classInc c).lva = s.lva := by rw [(still_classInc s c h).2]
@[simp] theorem State.classInc_core (s : State) (c : Nat) (h : c < 64) : (s.classInc c).core = s.core := by rw [(still_classInc s c h).2]
@[simp] theorem State.classInc_ten (s : State) (c : Nat) (h : c < 64) : (s.classInc c).ten = s.ten := by rw [(still_classInc s c h).2]
@[simp] theorem State.classInc_emc (s : State) (c : Nat) (h : c < 64) : (s.classInc c).emc = s.emc := by rw [(still_classInc s c h).2]
@[simp] theorem State.classInc_host (s : State) (c : Nat) (h : c < 64) : (s.classInc c).host = s.host := by rw [(still_classInc s c h).2]
@[simp] theorem State.classInc_mgt (s : State) (c : Nat) (h : c < 64) : (s.classInc c).mgt = s.mgt := by rw [(still_classInc s c h).2]
@[simp] theorem State.classInc_mgtReply (s : State) (c : Nat) (h : c < 64) : (s.classInc c).mgtReply = s.mgtReply := by rw [(still_classInc s c h).2]
@[simp] theorem State.classInc_dbg (s : State) (c : Nat) (h : c < 64) : (s.classInc c).dbg = s.dbg := by rw [(still_classInc s c h).2]
@[simp] theorem State.classInc_mem (s : State) (c : Nat) (h : c < 64) : (s.classInc c).mem = s.mem := by rw [(still_classInc s c h).2]
@[simp] theorem State.classInc_memFill (s : State) (c : Nat) (h : c < 64) : (s.classInc c).memFill = s.memFill := by rw [(still_classInc s c h).2]
@[simp] theorem State.classInc_readOut (s : State) (c : Nat) (h : c < 64) : (s.classInc c).readOut = s.readOut := by rw [(still_classInc s c h).2]
@[simp] theorem State.classInc_freeCount (s : State) (c : Nat) (h : c < 64) : (s.classInc c).freeCount = s.freeCount := by rw [(still_classInc s c h).2]
@[simp] theorem State.classInc_tick (s : State) (c : Nat) (h : c < 64) : (s.classInc c).tick = s.tick := by rw [(still_classInc s c h).2]

/-! ## lost -/

@[simp] theorem State.lost_pending (s : State) (p c : Nat) (h : c < 64) : (s.lost p c).pending = s.pending := by rw [(quiet_lost s p c h).2]
@[simp] theorem State.lost_fuse (s : State) (p c : Nat) (h : c < 64) : (s.lost p c).fuse = s.fuse := by rw [(quiet_lost s p c h).2]
@[simp] theorem State.lost_nvm (s : State) (p c : Nat) (h : c < 64) : (s.lost p c).nvm = s.nvm := by rw [(quiet_lost s p c h).2]
@[simp] theorem State.lost_mod (s : State) (p c : Nat) (h : c < 64) : (s.lost p c).mod = s.mod := by rw [(quiet_lost s p c h).2]
@[simp] theorem State.lost_holds (s : State) (p c : Nat) (h : c < 64) : (s.lost p c).holds = s.holds := by rw [(quiet_lost s p c h).2]
@[simp] theorem State.lost_carWin (s : State) (p c : Nat) (h : c < 64) : (s.lost p c).carWin = s.carWin := by rw [(quiet_lost s p c h).2]
@[simp] theorem State.lost_jobWin (s : State) (p c : Nat) (h : c < 64) : (s.lost p c).jobWin = s.jobWin := by rw [(quiet_lost s p c h).2]
@[simp] theorem State.lost_callWin (s : State) (p c : Nat) (h : c < 64) : (s.lost p c).callWin = s.callWin := by rw [(quiet_lost s p c h).2]
@[simp] theorem State.lost_keyWin (s : State) (p c : Nat) (h : c < 64) : (s.lost p c).keyWin = s.keyWin := by rw [(quiet_lost s p c h).2]
@[simp] theorem State.lost_bar (s : State) (p c : Nat) (h : c < 64) : (s.lost p c).bar = s.bar := by rw [(quiet_lost s p c h).2]
@[simp] theorem State.lost_cpc (s : State) (p c : Nat) (h : c < 64) : (s.lost p c).cpc = s.cpc := by rw [(quiet_lost s p c h).2]
@[simp] theorem State.lost_car (s : State) (p c : Nat) (h : c < 64) : (s.lost p c).car = s.car := by rw [(quiet_lost s p c h).2]
@[simp] theorem State.lost_dor0 (s : State) (p c : Nat) (h : c < 64) : (s.lost p c).dor0 = s.dor0 := by rw [(quiet_lost s p c h).2]
@[simp] theorem State.lost_dor1 (s : State) (p c : Nat) (h : c < 64) : (s.lost p c).dor1 = s.dor1 := by rw [(quiet_lost s p c h).2]
@[simp] theorem State.lost_cb0 (s : State) (p c : Nat) (h : c < 64) : (s.lost p c).cb0 = s.cb0 := by rw [(quiet_lost s p c h).2]
@[simp] theorem State.lost_cb1 (s : State) (p c : Nat) (h : c < 64) : (s.lost p c).cb1 = s.cb1 := by rw [(quiet_lost s p c h).2]
@[simp] theorem State.lost_tsy (s : State) (p c : Nat) (h : c < 64) : (s.lost p c).tsy = s.tsy := by rw [(quiet_lost s p c h).2]
@[simp] theorem State.lost_grp (s : State) (p c : Nat) (h : c < 64) : (s.lost p c).grp = s.grp := by rw [(quiet_lost s p c h).2]
@[simp] theorem State.lost_dse (s : State) (p c : Nat) (h : c < 64) : (s.lost p c).dse = s.dse := by rw [(quiet_lost s p c h).2]
@[simp] theorem State.lost_key (s : State) (p c : Nat) (h : c < 64) : (s.lost p c).key = s.key := by rw [(quiet_lost s p c h).2]
@[simp] theorem State.lost_lva (s : State) (p c : Nat) (h : c < 64) : (s.lost p c).lva = s.lva := by rw [(quiet_lost s p c h).2]
@[simp] theorem State.lost_core (s : State) (p c : Nat) (h : c < 64) : (s.lost p c).core = s.core := by rw [(quiet_lost s p c h).2]
@[simp] theorem State.lost_ten (s : State) (p c : Nat) (h : c < 64) : (s.lost p c).ten = s.ten := by rw [(quiet_lost s p c h).2]
@[simp] theorem State.lost_emc (s : State) (p c : Nat) (h : c < 64) : (s.lost p c).emc = s.emc := by rw [(quiet_lost s p c h).2]
@[simp] theorem State.lost_host (s : State) (p c : Nat) (h : c < 64) : (s.lost p c).host = s.host := by rw [(quiet_lost s p c h).2]
@[simp] theorem State.lost_mgt (s : State) (p c : Nat) (h : c < 64) : (s.lost p c).mgt = s.mgt := by rw [(quiet_lost s p c h).2]
@[simp] theorem State.lost_mgtReply (s : State) (p c : Nat) (h : c < 64) : (s.lost p c).mgtReply = s.mgtReply := by rw [(quiet_lost s p c h).2]
@[simp] theorem State.lost_dbg (s : State) (p c : Nat) (h : c < 64) : (s.lost p c).dbg = s.dbg := by rw [(quiet_lost s p c h).2]
@[simp] theorem State.lost_mem (s : State) (p c : Nat) (h : c < 64) : (s.lost p c).mem = s.mem := by rw [(quiet_lost s p c h).2]
@[simp] theorem State.lost_memFill (s : State) (p c : Nat) (h : c < 64) : (s.lost p c).memFill = s.memFill := by rw [(quiet_lost s p c h).2]
@[simp] theorem State.lost_readOut (s : State) (p c : Nat) (h : c < 64) : (s.lost p c).readOut = s.readOut := by rw [(quiet_lost s p c h).2]
@[simp] theorem State.lost_freeCount (s : State) (p c : Nat) (h : c < 64) : (s.lost p c).freeCount = s.freeCount := by rw [(quiet_lost s p c h).2]
@[simp] theorem State.lost_tick (s : State) (p c : Nat) (h : c < 64) : (s.lost p c).tick = s.tick := by rw [(quiet_lost s p c h).2]

/-! ## transient -/

@[simp] theorem State.transient_pending (s : State) (p c : Nat) (h : c < 64) : (s.transient p c).pending = s.pending := by rw [(quiet_transient s p c h).2]
@[simp] theorem State.transient_fuse (s : State) (p c : Nat) (h : c < 64) : (s.transient p c).fuse = s.fuse := by rw [(quiet_transient s p c h).2]
@[simp] theorem State.transient_nvm (s : State) (p c : Nat) (h : c < 64) : (s.transient p c).nvm = s.nvm := by rw [(quiet_transient s p c h).2]
@[simp] theorem State.transient_mod (s : State) (p c : Nat) (h : c < 64) : (s.transient p c).mod = s.mod := by rw [(quiet_transient s p c h).2]
@[simp] theorem State.transient_holds (s : State) (p c : Nat) (h : c < 64) : (s.transient p c).holds = s.holds := by rw [(quiet_transient s p c h).2]
@[simp] theorem State.transient_carWin (s : State) (p c : Nat) (h : c < 64) : (s.transient p c).carWin = s.carWin := by rw [(quiet_transient s p c h).2]
@[simp] theorem State.transient_jobWin (s : State) (p c : Nat) (h : c < 64) : (s.transient p c).jobWin = s.jobWin := by rw [(quiet_transient s p c h).2]
@[simp] theorem State.transient_callWin (s : State) (p c : Nat) (h : c < 64) : (s.transient p c).callWin = s.callWin := by rw [(quiet_transient s p c h).2]
@[simp] theorem State.transient_keyWin (s : State) (p c : Nat) (h : c < 64) : (s.transient p c).keyWin = s.keyWin := by rw [(quiet_transient s p c h).2]
@[simp] theorem State.transient_bar (s : State) (p c : Nat) (h : c < 64) : (s.transient p c).bar = s.bar := by rw [(quiet_transient s p c h).2]
@[simp] theorem State.transient_cpc (s : State) (p c : Nat) (h : c < 64) : (s.transient p c).cpc = s.cpc := by rw [(quiet_transient s p c h).2]
@[simp] theorem State.transient_car (s : State) (p c : Nat) (h : c < 64) : (s.transient p c).car = s.car := by rw [(quiet_transient s p c h).2]
@[simp] theorem State.transient_dor0 (s : State) (p c : Nat) (h : c < 64) : (s.transient p c).dor0 = s.dor0 := by rw [(quiet_transient s p c h).2]
@[simp] theorem State.transient_dor1 (s : State) (p c : Nat) (h : c < 64) : (s.transient p c).dor1 = s.dor1 := by rw [(quiet_transient s p c h).2]
@[simp] theorem State.transient_cb0 (s : State) (p c : Nat) (h : c < 64) : (s.transient p c).cb0 = s.cb0 := by rw [(quiet_transient s p c h).2]
@[simp] theorem State.transient_cb1 (s : State) (p c : Nat) (h : c < 64) : (s.transient p c).cb1 = s.cb1 := by rw [(quiet_transient s p c h).2]
@[simp] theorem State.transient_tsy (s : State) (p c : Nat) (h : c < 64) : (s.transient p c).tsy = s.tsy := by rw [(quiet_transient s p c h).2]
@[simp] theorem State.transient_grp (s : State) (p c : Nat) (h : c < 64) : (s.transient p c).grp = s.grp := by rw [(quiet_transient s p c h).2]
@[simp] theorem State.transient_dse (s : State) (p c : Nat) (h : c < 64) : (s.transient p c).dse = s.dse := by rw [(quiet_transient s p c h).2]
@[simp] theorem State.transient_key (s : State) (p c : Nat) (h : c < 64) : (s.transient p c).key = s.key := by rw [(quiet_transient s p c h).2]
@[simp] theorem State.transient_lva (s : State) (p c : Nat) (h : c < 64) : (s.transient p c).lva = s.lva := by rw [(quiet_transient s p c h).2]
@[simp] theorem State.transient_core (s : State) (p c : Nat) (h : c < 64) : (s.transient p c).core = s.core := by rw [(quiet_transient s p c h).2]
@[simp] theorem State.transient_ten (s : State) (p c : Nat) (h : c < 64) : (s.transient p c).ten = s.ten := by rw [(quiet_transient s p c h).2]
@[simp] theorem State.transient_emc (s : State) (p c : Nat) (h : c < 64) : (s.transient p c).emc = s.emc := by rw [(quiet_transient s p c h).2]
@[simp] theorem State.transient_host (s : State) (p c : Nat) (h : c < 64) : (s.transient p c).host = s.host := by rw [(quiet_transient s p c h).2]
@[simp] theorem State.transient_mgt (s : State) (p c : Nat) (h : c < 64) : (s.transient p c).mgt = s.mgt := by rw [(quiet_transient s p c h).2]
@[simp] theorem State.transient_mgtReply (s : State) (p c : Nat) (h : c < 64) : (s.transient p c).mgtReply = s.mgtReply := by rw [(quiet_transient s p c h).2]
@[simp] theorem State.transient_dbg (s : State) (p c : Nat) (h : c < 64) : (s.transient p c).dbg = s.dbg := by rw [(quiet_transient s p c h).2]
@[simp] theorem State.transient_mem (s : State) (p c : Nat) (h : c < 64) : (s.transient p c).mem = s.mem := by rw [(quiet_transient s p c h).2]
@[simp] theorem State.transient_memFill (s : State) (p c : Nat) (h : c < 64) : (s.transient p c).memFill = s.memFill := by rw [(quiet_transient s p c h).2]
@[simp] theorem State.transient_readOut (s : State) (p c : Nat) (h : c < 64) : (s.transient p c).readOut = s.readOut := by rw [(quiet_transient s p c h).2]
@[simp] theorem State.transient_freeCount (s : State) (p c : Nat) (h : c < 64) : (s.transient p c).freeCount = s.freeCount := by rw [(quiet_transient s p c h).2]
@[simp] theorem State.transient_tick (s : State) (p c : Nat) (h : c < 64) : (s.transient p c).tick = s.tick := by rw [(quiet_transient s p c h).2]

/-! ## lasting -/

@[simp] theorem State.lasting_pending (s : State) (p c : Nat) (h : c < 64) : (s.lasting p c).pending = s.pending := by rw [(quiet_lasting s p c h).2]
@[simp] theorem State.lasting_fuse (s : State) (p c : Nat) (h : c < 64) : (s.lasting p c).fuse = s.fuse := by rw [(quiet_lasting s p c h).2]
@[simp] theorem State.lasting_nvm (s : State) (p c : Nat) (h : c < 64) : (s.lasting p c).nvm = s.nvm := by rw [(quiet_lasting s p c h).2]
@[simp] theorem State.lasting_mod (s : State) (p c : Nat) (h : c < 64) : (s.lasting p c).mod = s.mod := by rw [(quiet_lasting s p c h).2]
@[simp] theorem State.lasting_holds (s : State) (p c : Nat) (h : c < 64) : (s.lasting p c).holds = s.holds := by rw [(quiet_lasting s p c h).2]
@[simp] theorem State.lasting_carWin (s : State) (p c : Nat) (h : c < 64) : (s.lasting p c).carWin = s.carWin := by rw [(quiet_lasting s p c h).2]
@[simp] theorem State.lasting_jobWin (s : State) (p c : Nat) (h : c < 64) : (s.lasting p c).jobWin = s.jobWin := by rw [(quiet_lasting s p c h).2]
@[simp] theorem State.lasting_callWin (s : State) (p c : Nat) (h : c < 64) : (s.lasting p c).callWin = s.callWin := by rw [(quiet_lasting s p c h).2]
@[simp] theorem State.lasting_keyWin (s : State) (p c : Nat) (h : c < 64) : (s.lasting p c).keyWin = s.keyWin := by rw [(quiet_lasting s p c h).2]
@[simp] theorem State.lasting_bar (s : State) (p c : Nat) (h : c < 64) : (s.lasting p c).bar = s.bar := by rw [(quiet_lasting s p c h).2]
@[simp] theorem State.lasting_cpc (s : State) (p c : Nat) (h : c < 64) : (s.lasting p c).cpc = s.cpc := by rw [(quiet_lasting s p c h).2]
@[simp] theorem State.lasting_car (s : State) (p c : Nat) (h : c < 64) : (s.lasting p c).car = s.car := by rw [(quiet_lasting s p c h).2]
@[simp] theorem State.lasting_dor0 (s : State) (p c : Nat) (h : c < 64) : (s.lasting p c).dor0 = s.dor0 := by rw [(quiet_lasting s p c h).2]
@[simp] theorem State.lasting_dor1 (s : State) (p c : Nat) (h : c < 64) : (s.lasting p c).dor1 = s.dor1 := by rw [(quiet_lasting s p c h).2]
@[simp] theorem State.lasting_cb0 (s : State) (p c : Nat) (h : c < 64) : (s.lasting p c).cb0 = s.cb0 := by rw [(quiet_lasting s p c h).2]
@[simp] theorem State.lasting_cb1 (s : State) (p c : Nat) (h : c < 64) : (s.lasting p c).cb1 = s.cb1 := by rw [(quiet_lasting s p c h).2]
@[simp] theorem State.lasting_tsy (s : State) (p c : Nat) (h : c < 64) : (s.lasting p c).tsy = s.tsy := by rw [(quiet_lasting s p c h).2]
@[simp] theorem State.lasting_grp (s : State) (p c : Nat) (h : c < 64) : (s.lasting p c).grp = s.grp := by rw [(quiet_lasting s p c h).2]
@[simp] theorem State.lasting_dse (s : State) (p c : Nat) (h : c < 64) : (s.lasting p c).dse = s.dse := by rw [(quiet_lasting s p c h).2]
@[simp] theorem State.lasting_key (s : State) (p c : Nat) (h : c < 64) : (s.lasting p c).key = s.key := by rw [(quiet_lasting s p c h).2]
@[simp] theorem State.lasting_lva (s : State) (p c : Nat) (h : c < 64) : (s.lasting p c).lva = s.lva := by rw [(quiet_lasting s p c h).2]
@[simp] theorem State.lasting_core (s : State) (p c : Nat) (h : c < 64) : (s.lasting p c).core = s.core := by rw [(quiet_lasting s p c h).2]
@[simp] theorem State.lasting_ten (s : State) (p c : Nat) (h : c < 64) : (s.lasting p c).ten = s.ten := by rw [(quiet_lasting s p c h).2]
@[simp] theorem State.lasting_emc (s : State) (p c : Nat) (h : c < 64) : (s.lasting p c).emc = s.emc := by rw [(quiet_lasting s p c h).2]
@[simp] theorem State.lasting_host (s : State) (p c : Nat) (h : c < 64) : (s.lasting p c).host = s.host := by rw [(quiet_lasting s p c h).2]
@[simp] theorem State.lasting_mgt (s : State) (p c : Nat) (h : c < 64) : (s.lasting p c).mgt = s.mgt := by rw [(quiet_lasting s p c h).2]
@[simp] theorem State.lasting_mgtReply (s : State) (p c : Nat) (h : c < 64) : (s.lasting p c).mgtReply = s.mgtReply := by rw [(quiet_lasting s p c h).2]
@[simp] theorem State.lasting_dbg (s : State) (p c : Nat) (h : c < 64) : (s.lasting p c).dbg = s.dbg := by rw [(quiet_lasting s p c h).2]
@[simp] theorem State.lasting_mem (s : State) (p c : Nat) (h : c < 64) : (s.lasting p c).mem = s.mem := by rw [(quiet_lasting s p c h).2]
@[simp] theorem State.lasting_memFill (s : State) (p c : Nat) (h : c < 64) : (s.lasting p c).memFill = s.memFill := by rw [(quiet_lasting s p c h).2]
@[simp] theorem State.lasting_readOut (s : State) (p c : Nat) (h : c < 64) : (s.lasting p c).readOut = s.readOut := by rw [(quiet_lasting s p c h).2]
@[simp] theorem State.lasting_freeCount (s : State) (p c : Nat) (h : c < 64) : (s.lasting p c).freeCount = s.freeCount := by rw [(quiet_lasting s p c h).2]
@[simp] theorem State.lasting_tick (s : State) (p c : Nat) (h : c < 64) : (s.lasting p c).tick = s.tick := by rw [(quiet_lasting s p c h).2]

/-! ## violation -/

@[simp] theorem State.violation_pending (s : State) (p : Nat) : (s.violation p).pending = s.pending := by rw [(quiet_violation s p).2]
@[simp] theorem State.violation_fuse (s : State) (p : Nat) : (s.violation p).fuse = s.fuse := by rw [(quiet_violation s p).2]
@[simp] theorem State.violation_nvm (s : State) (p : Nat) : (s.violation p).nvm = s.nvm := by rw [(quiet_violation s p).2]
@[simp] theorem State.violation_mod (s : State) (p : Nat) : (s.violation p).mod = s.mod := by rw [(quiet_violation s p).2]
@[simp] theorem State.violation_holds (s : State) (p : Nat) : (s.violation p).holds = s.holds := by rw [(quiet_violation s p).2]
@[simp] theorem State.violation_carWin (s : State) (p : Nat) : (s.violation p).carWin = s.carWin := by rw [(quiet_violation s p).2]
@[simp] theorem State.violation_jobWin (s : State) (p : Nat) : (s.violation p).jobWin = s.jobWin := by rw [(quiet_violation s p).2]
@[simp] theorem State.violation_callWin (s : State) (p : Nat) : (s.violation p).callWin = s.callWin := by rw [(quiet_violation s p).2]
@[simp] theorem State.violation_keyWin (s : State) (p : Nat) : (s.violation p).keyWin = s.keyWin := by rw [(quiet_violation s p).2]
@[simp] theorem State.violation_bar (s : State) (p : Nat) : (s.violation p).bar = s.bar := by rw [(quiet_violation s p).2]
@[simp] theorem State.violation_cpc (s : State) (p : Nat) : (s.violation p).cpc = s.cpc := by rw [(quiet_violation s p).2]
@[simp] theorem State.violation_car (s : State) (p : Nat) : (s.violation p).car = s.car := by rw [(quiet_violation s p).2]
@[simp] theorem State.violation_dor0 (s : State) (p : Nat) : (s.violation p).dor0 = s.dor0 := by rw [(quiet_violation s p).2]
@[simp] theorem State.violation_dor1 (s : State) (p : Nat) : (s.violation p).dor1 = s.dor1 := by rw [(quiet_violation s p).2]
@[simp] theorem State.violation_cb0 (s : State) (p : Nat) : (s.violation p).cb0 = s.cb0 := by rw [(quiet_violation s p).2]
@[simp] theorem State.violation_cb1 (s : State) (p : Nat) : (s.violation p).cb1 = s.cb1 := by rw [(quiet_violation s p).2]
@[simp] theorem State.violation_tsy (s : State) (p : Nat) : (s.violation p).tsy = s.tsy := by rw [(quiet_violation s p).2]
@[simp] theorem State.violation_grp (s : State) (p : Nat) : (s.violation p).grp = s.grp := by rw [(quiet_violation s p).2]
@[simp] theorem State.violation_dse (s : State) (p : Nat) : (s.violation p).dse = s.dse := by rw [(quiet_violation s p).2]
@[simp] theorem State.violation_key (s : State) (p : Nat) : (s.violation p).key = s.key := by rw [(quiet_violation s p).2]
@[simp] theorem State.violation_lva (s : State) (p : Nat) : (s.violation p).lva = s.lva := by rw [(quiet_violation s p).2]
@[simp] theorem State.violation_core (s : State) (p : Nat) : (s.violation p).core = s.core := by rw [(quiet_violation s p).2]
@[simp] theorem State.violation_ten (s : State) (p : Nat) : (s.violation p).ten = s.ten := by rw [(quiet_violation s p).2]
@[simp] theorem State.violation_emc (s : State) (p : Nat) : (s.violation p).emc = s.emc := by rw [(quiet_violation s p).2]
@[simp] theorem State.violation_host (s : State) (p : Nat) : (s.violation p).host = s.host := by rw [(quiet_violation s p).2]
@[simp] theorem State.violation_mgt (s : State) (p : Nat) : (s.violation p).mgt = s.mgt := by rw [(quiet_violation s p).2]
@[simp] theorem State.violation_mgtReply (s : State) (p : Nat) : (s.violation p).mgtReply = s.mgtReply := by rw [(quiet_violation s p).2]
@[simp] theorem State.violation_dbg (s : State) (p : Nat) : (s.violation p).dbg = s.dbg := by rw [(quiet_violation s p).2]
@[simp] theorem State.violation_mem (s : State) (p : Nat) : (s.violation p).mem = s.mem := by rw [(quiet_violation s p).2]
@[simp] theorem State.violation_memFill (s : State) (p : Nat) : (s.violation p).memFill = s.memFill := by rw [(quiet_violation s p).2]
@[simp] theorem State.violation_readOut (s : State) (p : Nat) : (s.violation p).readOut = s.readOut := by rw [(quiet_violation s p).2]
@[simp] theorem State.violation_freeCount (s : State) (p : Nat) : (s.violation p).freeCount = s.freeCount := by rw [(quiet_violation s p).2]
@[simp] theorem State.violation_tick (s : State) (p : Nat) : (s.violation p).tick = s.tick := by rw [(quiet_violation s p).2]

/-! ## settle -/

@[simp] theorem State.settle_pending (s : State)  : s.settle.pending = s.pending := by rw [(still_settle s).2]
@[simp] theorem State.settle_fuse (s : State)  : s.settle.fuse = s.fuse := by rw [(still_settle s).2]
@[simp] theorem State.settle_nvm (s : State)  : s.settle.nvm = s.nvm := by rw [(still_settle s).2]
@[simp] theorem State.settle_mod (s : State)  : s.settle.mod = s.mod := by rw [(still_settle s).2]
@[simp] theorem State.settle_holds (s : State)  : s.settle.holds = s.holds := by rw [(still_settle s).2]
@[simp] theorem State.settle_carWin (s : State)  : s.settle.carWin = s.carWin := by rw [(still_settle s).2]
@[simp] theorem State.settle_jobWin (s : State)  : s.settle.jobWin = s.jobWin := by rw [(still_settle s).2]
@[simp] theorem State.settle_callWin (s : State)  : s.settle.callWin = s.callWin := by rw [(still_settle s).2]
@[simp] theorem State.settle_keyWin (s : State)  : s.settle.keyWin = s.keyWin := by rw [(still_settle s).2]
@[simp] theorem State.settle_bar (s : State)  : s.settle.bar = s.bar := by rw [(still_settle s).2]
@[simp] theorem State.settle_cpc (s : State)  : s.settle.cpc = s.cpc := by rw [(still_settle s).2]
@[simp] theorem State.settle_car (s : State)  : s.settle.car = s.car := by rw [(still_settle s).2]
@[simp] theorem State.settle_dor0 (s : State)  : s.settle.dor0 = s.dor0 := by rw [(still_settle s).2]
@[simp] theorem State.settle_dor1 (s : State)  : s.settle.dor1 = s.dor1 := by rw [(still_settle s).2]
@[simp] theorem State.settle_cb0 (s : State)  : s.settle.cb0 = s.cb0 := by rw [(still_settle s).2]
@[simp] theorem State.settle_cb1 (s : State)  : s.settle.cb1 = s.cb1 := by rw [(still_settle s).2]
@[simp] theorem State.settle_tsy (s : State)  : s.settle.tsy = s.tsy := by rw [(still_settle s).2]
@[simp] theorem State.settle_grp (s : State)  : s.settle.grp = s.grp := by rw [(still_settle s).2]
@[simp] theorem State.settle_dse (s : State)  : s.settle.dse = s.dse := by rw [(still_settle s).2]
@[simp] theorem State.settle_key (s : State)  : s.settle.key = s.key := by rw [(still_settle s).2]
@[simp] theorem State.settle_lva (s : State)  : s.settle.lva = s.lva := by rw [(still_settle s).2]
@[simp] theorem State.settle_core (s : State)  : s.settle.core = s.core := by rw [(still_settle s).2]
@[simp] theorem State.settle_ten (s : State)  : s.settle.ten = s.ten := by rw [(still_settle s).2]
@[simp] theorem State.settle_emc (s : State)  : s.settle.emc = s.emc := by rw [(still_settle s).2]
@[simp] theorem State.settle_host (s : State)  : s.settle.host = s.host := by rw [(still_settle s).2]
@[simp] theorem State.settle_mgt (s : State)  : s.settle.mgt = s.mgt := by rw [(still_settle s).2]
@[simp] theorem State.settle_mgtReply (s : State)  : s.settle.mgtReply = s.mgtReply := by rw [(still_settle s).2]
@[simp] theorem State.settle_dbg (s : State)  : s.settle.dbg = s.dbg := by rw [(still_settle s).2]
@[simp] theorem State.settle_mem (s : State)  : s.settle.mem = s.mem := by rw [(still_settle s).2]
@[simp] theorem State.settle_memFill (s : State)  : s.settle.memFill = s.memFill := by rw [(still_settle s).2]
@[simp] theorem State.settle_readOut (s : State)  : s.settle.readOut = s.readOut := by rw [(still_settle s).2]
@[simp] theorem State.settle_freeCount (s : State)  : s.settle.freeCount = s.freeCount := by rw [(still_settle s).2]
@[simp] theorem State.settle_tick (s : State)  : s.settle.tick = s.tick := by rw [(still_settle s).2]

/-! ## The frame relation under a change of one field -/

theorem Quiet.with_pending {P : Nat → Prop} {s t : State} (h : Quiet P s t) (x : List Instr) : Quiet P { s with pending := x } { t with pending := x } :=
  ⟨fun k a b c => h.1 k a b c, by rw [h.2]⟩
theorem Quiet.with_fuse {P : Nat → Prop} {s t : State} (h : Quiet P s t) (x : Fuses) : Quiet P { s with fuse := x } { t with fuse := x } :=
  ⟨fun k a b c => h.1 k a b c, by rw [h.2]⟩
theorem Quiet.with_nvm {P : Nat → Prop} {s t : State} (h : Quiet P s t) (x : NvmStore) : Quiet P { s with nvm := x } { t with nvm := x } :=
  ⟨fun k a b c => h.1 k a b c, by rw [h.2]⟩
theorem Quiet.with_mod {P : Nat → Prop} {s t : State} (h : Quiet P s t) (x : ModState) : Quiet P { s with mod := x } { t with mod := x } :=
  ⟨fun k a b c => h.1 k a b c, by rw [h.2]⟩
theorem Quiet.with_holds {P : Nat → Prop} {s t : State} (h : Quiet P s t) (x : List (Nat × List (Nat × Word))) : Quiet P { s with holds := x } { t with holds := x } :=
  ⟨fun k a b c => h.1 k a b c, by rw [h.2]⟩
theorem Quiet.with_carWin {P : Nat → Prop} {s t : State} (h : Quiet P s t) (x : Window) : Quiet P { s with carWin := x } { t with carWin := x } :=
  ⟨fun k a b c => h.1 k a b c, by rw [h.2]⟩
theorem Quiet.with_jobWin {P : Nat → Prop} {s t : State} (h : Quiet P s t) (x : Window) : Quiet P { s with jobWin := x } { t with jobWin := x } :=
  ⟨fun k a b c => h.1 k a b c, by rw [h.2]⟩
theorem Quiet.with_callWin {P : Nat → Prop} {s t : State} (h : Quiet P s t) (x : Window) : Quiet P { s with callWin := x } { t with callWin := x } :=
  ⟨fun k a b c => h.1 k a b c, by rw [h.2]⟩
theorem Quiet.with_keyWin {P : Nat → Prop} {s t : State} (h : Quiet P s t) (x : Window) : Quiet P { s with keyWin := x } { t with keyWin := x } :=
  ⟨fun k a b c => h.1 k a b c, by rw [h.2]⟩
theorem Quiet.with_bar {P : Nat → Prop} {s t : State} (h : Quiet P s t) (x : Barrier) : Quiet P { s with bar := x } { t with bar := x } :=
  ⟨fun k a b c => h.1 k a b c, by rw [h.2]⟩
theorem Quiet.with_cpc {P : Nat → Prop} {s t : State} (h : Quiet P s t) (x : Carapace) : Quiet P { s with cpc := x } { t with cpc := x } :=
  ⟨fun k a b c => h.1 k a b c, by rw [h.2]⟩
theorem Quiet.with_car {P : Nat → Prop} {s t : State} (h : Quiet P s t) (x : CarState) : Quiet P { s with car := x } { t with car := x } :=
  ⟨fun k a b c => h.1 k a b c, by rw [h.2]⟩
theorem Quiet.with_dor0 {P : Nat → Prop} {s t : State} (h : Quiet P s t) (x : DoorState) : Quiet P { s with dor0 := x } { t with dor0 := x } :=
  ⟨fun k a b c => h.1 k a b c, by rw [h.2]⟩
theorem Quiet.with_dor1 {P : Nat → Prop} {s t : State} (h : Quiet P s t) (x : DoorState) : Quiet P { s with dor1 := x } { t with dor1 := x } :=
  ⟨fun k a b c => h.1 k a b c, by rw [h.2]⟩
theorem Quiet.with_cb0 {P : Nat → Prop} {s t : State} (h : Quiet P s t) (x : CanState) : Quiet P { s with cb0 := x } { t with cb0 := x } :=
  ⟨fun k a b c => h.1 k a b c, by rw [h.2]⟩
theorem Quiet.with_cb1 {P : Nat → Prop} {s t : State} (h : Quiet P s t) (x : CanState) : Quiet P { s with cb1 := x } { t with cb1 := x } :=
  ⟨fun k a b c => h.1 k a b c, by rw [h.2]⟩
theorem Quiet.with_tsy {P : Nat → Prop} {s t : State} (h : Quiet P s t) (x : TsyState) : Quiet P { s with tsy := x } { t with tsy := x } :=
  ⟨fun k a b c => h.1 k a b c, by rw [h.2]⟩
theorem Quiet.with_grp {P : Nat → Prop} {s t : State} (h : Quiet P s t) (x : GrpState) : Quiet P { s with grp := x } { t with grp := x } :=
  ⟨fun k a b c => h.1 k a b c, by rw [h.2]⟩
theorem Quiet.with_dse {P : Nat → Prop} {s t : State} (h : Quiet P s t) (x : DseState) : Quiet P { s with dse := x } { t with dse := x } :=
  ⟨fun k a b c => h.1 k a b c, by rw [h.2]⟩
theorem Quiet.with_key {P : Nat → Prop} {s t : State} (h : Quiet P s t) (x : KeyState) : Quiet P { s with key := x } { t with key := x } :=
  ⟨fun k a b c => h.1 k a b c, by rw [h.2]⟩
theorem Quiet.with_lva {P : Nat → Prop} {s t : State} (h : Quiet P s t) (x : LvaState) : Quiet P { s with lva := x } { t with lva := x } :=
  ⟨fun k a b c => h.1 k a b c, by rw [h.2]⟩
theorem Quiet.with_core {P : Nat → Prop} {s t : State} (h : Quiet P s t) (x : CoreState) : Quiet P { s with core := x } { t with core := x } :=
  ⟨fun k a b c => h.1 k a b c, by rw [h.2]⟩
theorem Quiet.with_ten {P : Nat → Prop} {s t : State} (h : Quiet P s t) (x : TenState) : Quiet P { s with ten := x } { t with ten := x } :=
  ⟨fun k a b c => h.1 k a b c, by rw [h.2]⟩
theorem Quiet.with_emc {P : Nat → Prop} {s t : State} (h : Quiet P s t) (x : EmcState) : Quiet P { s with emc := x } { t with emc := x } :=
  ⟨fun k a b c => h.1 k a b c, by rw [h.2]⟩
theorem Quiet.with_host {P : Nat → Prop} {s t : State} (h : Quiet P s t) (x : HostState) : Quiet P { s with host := x } { t with host := x } :=
  ⟨fun k a b c => h.1 k a b c, by rw [h.2]⟩
theorem Quiet.with_mgt {P : Nat → Prop} {s t : State} (h : Quiet P s t) (x : MgtSessions) : Quiet P { s with mgt := x } { t with mgt := x } :=
  ⟨fun k a b c => h.1 k a b c, by rw [h.2]⟩
theorem Quiet.with_mgtReply {P : Nat → Prop} {s t : State} (h : Quiet P s t) (x : MgtReply) : Quiet P { s with mgtReply := x } { t with mgtReply := x } :=
  ⟨fun k a b c => h.1 k a b c, by rw [h.2]⟩
theorem Quiet.with_dbg {P : Nat → Prop} {s t : State} (h : Quiet P s t) (x : DebugState) : Quiet P { s with dbg := x } { t with dbg := x } :=
  ⟨fun k a b c => h.1 k a b c, by rw [h.2]⟩
theorem Quiet.with_mem {P : Nat → Prop} {s t : State} (h : Quiet P s t) (x : List (Nat × Byte)) : Quiet P { s with mem := x } { t with mem := x } :=
  ⟨fun k a b c => h.1 k a b c, by rw [h.2]⟩
theorem Quiet.with_memFill {P : Nat → Prop} {s t : State} (h : Quiet P s t) (x : Nat) : Quiet P { s with memFill := x } { t with memFill := x } :=
  ⟨fun k a b c => h.1 k a b c, by rw [h.2]⟩
theorem Quiet.with_readOut {P : Nat → Prop} {s t : State} (h : Quiet P s t) (x : Word) : Quiet P { s with readOut := x } { t with readOut := x } :=
  ⟨fun k a b c => h.1 k a b c, by rw [h.2]⟩
theorem Quiet.with_freeCount {P : Nat → Prop} {s t : State} (h : Quiet P s t) (x : Nat) : Quiet P { s with freeCount := x } { t with freeCount := x } :=
  ⟨fun k a b c => h.1 k a b c, by rw [h.2]⟩
theorem Quiet.with_tick {P : Nat → Prop} {s t : State} (h : Quiet P s t) (x : Nat) : Quiet P { s with tick := x } { t with tick := x } :=
  ⟨fun k a b c => h.1 k a b c, by rw [h.2]⟩

/-! ## Registers -/

/-- A write of a field leaves the other fields of its register alone. -/
theorem g_p_other (s : State) (f f' : Fld) (v : Nat) (h : f.lo + f.w ≤ 64 ∧ (f'.lo + f'.w ≤ f.lo ∨ f.lo + f.w ≤ f'.lo)) : (s.p f v).g f' = s.g f' :=
  g_p_disjoint s v h.1 h.2
theorem quiet_evtIf_word (s : State) (c : Bool) (p n k : Nat) (h : k ≠ regKey p 0x20) : (s.evtIf c p n).word k = s.word k := by
  unfold State.evtIf
  split
  · exact word_evt s p n k h
  · rfl

theorem State.evt_word (s : State) (p n : Nat) (k : Nat) (h : k ≠ regKey p 0x20) : (s.evt p n).word k = s.word k :=
  word_evt s p n k h
theorem State.evt_g (s : State) (p n : Nat) (f : Fld) (h : f.key ≠ regKey p 0x20) : (s.evt p n).g f = s.g f := by
  unfold State.g; rw [State.evt_word _ _ _ f.key h]
theorem State.evtIf_word (s : State) (c : Bool) (p n : Nat) (k : Nat) (h : k ≠ regKey p 0x20) : (s.evtIf c p n).word k = s.word k :=
  (quiet_evtIf_word s c p n k h)
theorem State.evtIf_g (s : State) (c : Bool) (p n : Nat) (f : Fld) (h : f.key ≠ regKey p 0x20) : (s.evtIf c p n).g f = s.g f := by
  unfold State.g; rw [State.evtIf_word _ _ _ _ f.key h]
theorem State.classInc_word (s : State) (c : Nat) (k : Nat) (h : k / 0x100000 ≠ 4 ∧ k / 0x100000 ≠ 5 ∧ c < 64) : (s.classInc c).word k = s.word k :=
  (still_classInc s c h.2.2).1 k (fun x => x) h.1 h.2.1
theorem State.classInc_g (s : State) (c : Nat) (f : Fld) (h : f.key / 0x100000 ≠ 4 ∧ f.key / 0x100000 ≠ 5 ∧ c < 64) : (s.classInc c).g f = s.g f := by
  unfold State.g; rw [State.classInc_word _ _ f.key h]
theorem State.lost_word (s : State) (p c : Nat) (k : Nat) (h : k ≠ regKey p 0x30 ∧ k / 0x100000 ≠ 4 ∧ k / 0x100000 ≠ 5 ∧ c < 64) : (s.lost p c).word k = s.word k :=
  (quiet_lost s p c h.2.2.2).1 k h.1 h.2.1 h.2.2.1
theorem State.lost_g (s : State) (p c : Nat) (f : Fld) (h : f.key ≠ regKey p 0x30 ∧ f.key / 0x100000 ≠ 4 ∧ f.key / 0x100000 ≠ 5 ∧ c < 64) : (s.lost p c).g f = s.g f := by
  unfold State.g; rw [State.lost_word _ _ _ f.key h]
theorem State.transient_word (s : State) (p c : Nat) (k : Nat) (h : k ≠ regKey p 0x30 ∧ k / 0x100000 ≠ 4 ∧ k / 0x100000 ≠ 5 ∧ c < 64) : (s.transient p c).word k = s.word k :=
  (quiet_transient s p c h.2.2.2).1 k h.1 h.2.1 h.2.2.1
theorem State.transient_g (s : State) (p c : Nat) (f : Fld) (h : f.key ≠ regKey p 0x30 ∧ f.key / 0x100000 ≠ 4 ∧ f.key / 0x100000 ≠ 5 ∧ c < 64) : (s.transient p c).g f = s.g f := by
  unfold State.g; rw [State.transient_word _ _ _ f.key h]
theorem State.lasting_word (s : State) (p c : Nat) (k : Nat) (h : k ≠ regKey p 0x30 ∧ k / 0x100000 ≠ 4 ∧ k / 0x100000 ≠ 5 ∧ c < 64) : (s.lasting p c).word k = s.word k :=
  (quiet_lasting s p c h.2.2.2).1 k h.1 h.2.1 h.2.2.1
theorem State.lasting_g (s : State) (p c : Nat) (f : Fld) (h : f.key ≠ regKey p 0x30 ∧ f.key / 0x100000 ≠ 4 ∧ f.key / 0x100000 ≠ 5 ∧ c < 64) : (s.lasting p c).g f = s.g f := by
  unfold State.g; rw [State.lasting_word _ _ _ f.key h]
theorem State.violation_word (s : State) (p : Nat) (k : Nat) (h : k ≠ regKey p 0x30) : (s.violation p).word k = s.word k :=
  word_p_ne s h _
theorem State.violation_g (s : State) (p : Nat) (f : Fld) (h : f.key ≠ regKey p 0x30) : (s.violation p).g f = s.g f := by
  unfold State.g; rw [State.violation_word _ _ f.key h]
theorem State.settle_word (s : State)  (k : Nat) (h : k / 0x100000 ≠ 4 ∧ k / 0x100000 ≠ 5) : s.settle.word k = s.word k :=
  (still_settle s).1 k (fun x => x) h.1 h.2
theorem State.settle_g (s : State)  (f : Fld) (h : f.key / 0x100000 ≠ 4 ∧ f.key / 0x100000 ≠ 5) : s.settle.g f = s.g f := by
  unfold State.g; rw [State.settle_word _ f.key h]

/-- A field of TROUBLE that an occurrence counts, outside LOG and the ICU. -/
theorem State.lost_g_same (s : State) (p c : Nat) (h : c < 64) (h4 : regKey p 0x30 / 0x100000 ≠ 4) (h5 : regKey p 0x30 / 0x100000 ≠ 5) :
    (s.lost p c).g (hdrTrouble p 3) = satTo 16 (s.g (hdrTrouble p 3) + 1) := by
  have hp : p ≠ 5 := by rintro rfl; exact h5 (by decide)
  rw [State.lost, if_neg hp, State.classInc_g _ c _ ⟨h4, h5, h⟩, g_bump_same _ _ (by simp [hdrTrouble])]
  rfl
theorem State.transient_g_same (s : State) (p c : Nat) (h : c < 64) (h4 : regKey p 0x30 / 0x100000 ≠ 4) (h5 : regKey p 0x30 / 0x100000 ≠ 5) :
    (s.transient p c).g (hdrTrouble p 0) = satTo 16 (s.g (hdrTrouble p 0) + 1) := by
  unfold State.transient
  rw [State.classInc_g _ c _ ⟨h4, h5, h⟩, g_bump_same _ _ (by simp [hdrTrouble])]
  rfl
theorem State.lasting_g_same (s : State) (p c : Nat) (h : c < 64) (h4 : regKey p 0x30 / 0x100000 ≠ 4) (h5 : regKey p 0x30 / 0x100000 ≠ 5) :
    (s.lasting p c).g (hdrTrouble p 1) = satTo 16 (s.g (hdrTrouble p 1) + 1) := by
  unfold State.lasting
  rw [State.classInc_g _ c _ ⟨h4, h5, h⟩, g_bump_same _ _ (by simp [hdrTrouble])]
  rfl
theorem State.violation_g_same (s : State) (p : Nat) : (s.violation p).g (hdrTrouble p 2) = satTo 16 (s.g (hdrTrouble p 2) + 1) :=
  g_bump_same _ _ (by simp [hdrTrouble])

end Sys2Proof.Machine
end

