-- ==== Sys2Proof/Laws/Access.lean ====
section
/-!
SUPPORT. Sys2Proof/Laws/Access.lean: what a write of the page space comes to, by the case of R119 to R143 that it falls under.
-/
namespace Sys2Proof.Machine
open Sys2Proof

theorem absOff_low (s : State) (acc : Accessor) (page off : Nat) (h : off < 0x400) : s.absOff acc page off = off := by
  simp [State.absOff, h]

/-- A granted write of a register below the windows, neither of the header nor locked, comes to its action and the site record. -/
theorem pageStore_granted (s : State) (acc : Accessor) (page off col : Nat) (v : Word) (o : Option Outcomes) (r : RegRow)
    (ha : pageAssigned page = true) (hr : s.reaches acc page = true) (hm : s.mayWrite acc col page = true) (ho : off < 0x400) (hh : 0x48 ≤ off)
    (hl : lockedReg page off = false) (hrow : rowAt page off = some r) (hc : writeCol page off = col) (h8 : col ≠ 8) :
    s.pageStoreWith acc page off v o =
      (s.grantedStore acc page off v (r.rw ||| if isKeeper acc then r.km else 0) o).siteKeep page off := by
  have h1 : off ≠ 0x40 := by omega
  have h2 : off ≠ 0x20 := by omega
  have h3 : off ≠ 0x28 := by omega
  have h4 : off ≠ 0x38 := by omega
  unfold State.pageStoreWith
  simp only [absOff_low s acc page off ho, ha, hr, hl, hrow, hc, hm, h1, h2, h3, h4, h8, Bool.not_true, Bool.false_eq_true, if_false]

/-- A write of LOCK. -/
theorem pageStore_lock (s : State) (acc : Accessor) (page : Nat) (v : Word) (o : Option Outcomes)
    (ha : pageAssigned page = true) (hr : s.reaches acc page = true) :
    s.pageStoreWith acc page 0x40 v o = s.lockWrite acc page (fld v.toNat 0 8) (fld v.toNat 16 16) := by
  unfold State.pageStoreWith
  simp [absOff_low, ha, hr]

/-- A write of a locked register. -/
theorem pageStore_locked (s : State) (acc : Accessor) (page off : Nat) (v : Word) (o : Option Outcomes)
    (ha : pageAssigned page = true) (hr : s.reaches acc page = true) (ho : off < 0x400) (hne : off ≠ 0x40) (hl : lockedReg page off = true) :
    s.pageStoreWith acc page off v o = s.lockedStore acc page off v o := by
  unfold State.pageStoreWith
  simp [absOff_low s acc page off ho, ha, hr, hne, hl]

theorem heldOf_put (s : State) (page : Nat) (l : List (Nat × Word)) :
    ({ s with holds := (page, l) :: s.holds.filter (fun h => h.1 != page) } : State).heldOf page = l := by simp [State.heldOf]

theorem find_filter_ne {α : Type} (p q : Nat) (h : p ≠ q) (l : List (Nat × α)) :
    (l.filter (fun x => x.1 != q)).find? (fun x => x.1 == p) = l.find? (fun x => x.1 == p) := by
  induction l with
  | nil => rfl
  | cons a t ih =>
    by_cases h1 : a.1 = q
    · have h2 : a.1 ≠ p := fun e => h (e.symm.trans h1)
      simp [h1, ih, List.find?_cons, Ne.symm h]
    · by_cases h2 : a.1 = p <;> simp [h1, h2, ih, List.find?_cons, List.filter_cons, h]

theorem heldOf_drop (s : State) (page : Nat) : (s.dropHeld page).heldOf page = [] := by
  have h : (s.holds.filter (fun x => x.1 != page)).find? (fun x => x.1 == page) = none := by
    rw [List.find?_eq_none]
    intro x hx
    simpa using (List.mem_filter.mp hx).2
  unfold State.heldOf State.dropHeld
  dsimp only
  rw [h]
  rfl

theorem heldOf_drop_ne (s : State) (page p : Nat) (h : p ≠ page) : (s.dropHeld page).heldOf p = s.heldOf p := by
  simp [State.heldOf, State.dropHeld, find_filter_ne p page h]

theorem heldOf_put_ne (s : State) (page p : Nat) (l : List (Nat × Word)) (h : p ≠ page) :
    ({ s with holds := (page, l) :: s.holds.filter (fun h => h.1 != page) } : State).heldOf p = s.heldOf p := by
  simp [State.heldOf, find_filter_ne p page h, List.find?_cons, Ne.symm h]

/-- The site record keeps nothing of a register outside column 1. -/
theorem siteKeep_ne (s : State) (page off : Nat) (h : writeCol page off ≠ 1) : s.siteKeep page off = s := by
  unfold State.siteKeep
  simp [h]

/-- A granted write command, outside column 1, comes to the register's action. -/
theorem writeCmd_granted (s : State) (acc : Accessor) (page off col n : Nat) (o : Option Outcomes) (hc : s.clocked = true)
    (hr : s.reaches acc page = true) (hm : s.mayWrite acc col page = true)
    (h : (pageAssigned page && decide (off < 0x400) && decide (0x48 ≤ off) && !lockedReg page off && (rowAt page off).isSome &&
      decide (writeCol page off = col) && decide (col ≠ 8) && decide (col ≠ 1)) = true) :
    ∃ m, s.writeCmd acc page off n o = s.grantedStore acc page off (BitVec.ofNat 64 n) m o := by
  simp only [Bool.and_eq_true, decide_eq_true_eq, Bool.not_eq_true'] at h
  obtain ⟨⟨⟨⟨⟨⟨⟨h1, h2⟩, h3⟩, h4⟩, h5⟩, h6⟩, h7⟩, h8⟩ := h
  obtain ⟨r, hrow⟩ := Option.isSome_iff_exists.mp h5
  refine ⟨r.rw ||| if isKeeper acc then r.km else 0, ?_⟩
  rw [State.writeCmd, if_pos hc, pageStore_granted s acc page off col _ o r h1 hr hm h2 h3 h4 hrow h6 h7, siteKeep_ne _ _ _ (by rw [h6]; exact h8)]

/-- A write by Keeper of a register that Keeper alone writes. -/
theorem writeCmd_keeper (s : State) (acc : Accessor) (page off n : Nat) (o : Option Outcomes) (r : RegRow) (hc : s.clocked = true)
    (hr : s.reaches acc page = true) (hk : isKeeper acc = true)
    (h : (pageAssigned page && decide (off < 0x400) && decide (0x48 ≤ off) && !lockedReg page off && decide (rowAt page off = some r) &&
      decide (writeCol page off = 8) && decide (r.km ≠ 0)) = true) :
    s.writeCmd acc page off n o = s.grantedStore acc page off (BitVec.ofNat 64 n) r.km o := by
  simp only [Bool.and_eq_true, decide_eq_true_eq, Bool.not_eq_true'] at h
  obtain ⟨⟨⟨⟨⟨⟨h1, h2⟩, h3⟩, h4⟩, h5⟩, h6⟩, h7⟩ := h
  have hne : off ≠ 0x40 := by omega
  rw [State.writeCmd, if_pos hc]
  unfold State.pageStoreWith
  simp only [absOff_low s acc page off h2, h1, hr, hne, h4, h5, h6, hk, if_true, h7, if_false, Bool.not_true, Bool.false_eq_true]

/-- The final write of a sequence whose earlier writes are held: the lock is done, the written registers take their values, and the sequence
acts. -/
theorem writeCmd_final (s : State) (acc : Accessor) (page off col n v : Nat) (o : Option Outcomes) (regs : List Nat) (held : List (Nat × Word))
    (hc : s.clocked = true) (hr : s.reaches acc page = true) (hm : s.mayWrite acc col page = true) (ha : s.b (lockArmed page) = true)
    (hs : s.g (lockSeq page) = n) (ho : s.g (lockOwner page) = ownerOf acc) (hh : s.heldOf page = held)
    (hq : seqOf page n = some (n, col, regs)) (hlast : regs.getD held.length 0x1000 = off) (hlen : held.length + 1 = regs.length)
    (h : (pageAssigned page && decide (off < 0x400) && decide (off ≠ 0x40) && lockedReg page off) = true) :
    s.writeCmd acc page off v o =
      let x := (s.lockFinish page).applyHeld page (held ++ [(off, BitVec.ofNat 64 v)])
      match o with
      | some k => x.seqAct acc page n (BitVec.ofNat 64 v) k
      | none => x.outcomes.2.seqAct acc page n (BitVec.ofNat 64 v) x.outcomes.1 := by
  simp only [Bool.and_eq_true, decide_eq_true_eq] at h
  obtain ⟨⟨⟨h1, h2⟩, h3⟩, h4⟩ := h
  have hl : ¬ (held.length + 1 < regs.length) := by omega
  rw [State.writeCmd, if_pos hc, pageStore_locked s acc page off _ o h1 hr h2 h3 h4]
  unfold State.lockedStore State.finalWrite State.seqStep State.armed
  simp only [ha, if_true, hs, hq, hm, ho, hh, hlast]
  simp [hl]
  all_goals (cases o <;> rfl)

/-- What the final write of a sequence leaves before the sequence acts: the lock is done, and beside the page's registers only the holding copy
changed. -/
theorem quiet_lockFinish (s : State) (page : Nat) :
    Quiet (fun k => k = regKey page 0x40) { s with holds := (s.dropHeld page).holds } (s.lockFinish page) :=
  Quiet.trans (quiet_p (s.dropHeld page) (lockArmed page) 0) (Quiet.trans (quiet_p _ (lockDone page) 1) (quiet_p _ (lockRemain page) 0))

theorem applyHeld_eq (page : Nat) (l : List (Nat × Word)) (s : State) : s.applyHeld page l = { s with regs := (s.applyHeld page l).regs } := by
  unfold State.applyHeld
  induction l generalizing s with
  | nil => rfl
  | cons p t ih =>
    rw [List.foldl_cons, ih]
    split
    · split <;> rfl
    · rfl

theorem applyHeld_word (page : Nat) (l : List (Nat × Word)) (s : State) (k : Nat) (h : ∀ p ∈ l, k ≠ regKey page p.1) :
    (s.applyHeld page l).word k = s.word k := by
  unfold State.applyHeld
  induction l generalizing s with
  | nil => rfl
  | cons p t ih =>
    rw [List.foldl_cons, ih _ (fun q hq => h q (List.mem_cons_of_mem _ hq))]
    split
    · split
      · rfl
      · exact word_setWord_ne _ (h p List.mem_cons_self) _
    · rfl

theorem applyHeld_g (page : Nat) (l : List (Nat × Word)) (s : State) (f : Fld) (h : ∀ p ∈ l, f.key ≠ regKey page p.1) :
    (s.applyHeld page l).g f = s.g f := by
  unfold State.g
  rw [applyHeld_word page l s f.key h]

end Sys2Proof.Machine
end

