-- ==== Sys2Proof/Laws/Core.lean ====
section
/-!
SUPPORT. Sys2Proof/Laws/Core.lean: the core's shared operations: what running one instruction, completing it, and taking an exception do.
-/
namespace Sys2Proof.Machine
open Sys2Proof

/-- A core that runs, with no interrupt due, no breakpoint and a fetch that delivers a word, runs the instruction. -/
theorem coreRow_run (s : State) (op : LarvaOp) (env : CoreEnv) (hr : s.coreReady = true) (hi : s.interruptDue = false)
    (hb : s.bpHit = false ∨ s.core.passed = true) (hf : ∃ v, s.fetch .ok = .value v) : s.coreRow op env = s.runOp op env := by
  obtain ⟨v, hf⟩ := hf
  have hb' : (s.bpHit && !s.core.passed) = false := by rcases hb with h | h <;> simp [h]
  simp [State.coreRow, State.coreCycle, hr, hi, hb', hf]

/-- What completing an instruction leaves: the pc, the flags of the breakpoint, and the count of instructions. -/
theorem coreTo_core (s : State) (pc : Word) : (s.coreTo pc).core = { s.core with pc := pc, passed := false, held := false } := rfl
theorem quiet_coreTo (s : State) (pc : Word) :
    Quiet (fun k => k = F.KPX_INSTRET_COUNT.key) { s with core := (s.coreTo pc).core } (s.coreTo pc) :=
  quiet_p { s with core := { s.core with pc := pc, passed := false, held := false } } F.KPX_INSTRET_COUNT _
theorem instret_coreTo (s : State) (pc : Word) :
    (s.coreTo pc).g F.KPX_INSTRET_COUNT = (s.g F.KPX_INSTRET_COUNT + 1) % 2 ^ 64 :=
  g_p_same { s with core := { s.core with pc := pc, passed := false, held := false } } F.KPX_INSTRET_COUNT _ (by decide)

theorem setX_eq (s : State) (i : Nat) (v : Word) :
    s.setX i v = { s with core := { s.core with x := if i = 0 then s.core.x else s.core.x.set i v } } := by
  unfold State.setX
  split <;> rfl

/-- What every exception leaves where none is being handled (R515). -/
theorem exception_entry (s : State) (cause : Nat) (pc addr : Word) (word : BitVec 32) (h : s.b F.KPX_STATUS_INTRAP = false)
    (hc : cause < 32) :
    let t := s.exception cause pc addr word
    t.g F.KPX_TRAPPC_PC = pc.toNat ∧ t.g F.KPX_TRAPCAUSE_CAUSE = cause ∧ t.g F.KPX_TRAPADDR_ADDR = addr.toNat ∧
    t.g F.KPX_TRAPWORD_WORD = word.toNat ∧ t.g F.KPX_STATUS_RETPRIV = s.g F.KPX_STATUS_PRIV ∧ t.g F.KPX_STATUS_PRIV = 0 ∧
    t.g F.KPX_STATUS_INTRAP = 1 ∧ t.g F.KPX_STATUS_INTEN = s.g F.KPX_STATUS_INTEN ∧
    t.core = { s.core with pc := BitVec.ofNat 64 (s.g F.KPX_TRAPVEC_ADDR), passed := false, held := false } ∧
    (∀ k, k ≠ F.KPX_TRAPPC_PC.key → k ≠ F.KPX_TRAPCAUSE_CAUSE.key → k ≠ F.KPX_TRAPADDR_ADDR.key → k ≠ F.KPX_TRAPWORD_WORD.key →
      k ≠ F.KPX_STATUS_PRIV.key → t.word k = s.word k) ∧
    t = { s with regs := t.regs, core := t.core } := by
  have hp := pc.isLt
  have ha := addr.isLt
  have hw := word.isLt
  have hpriv := g_lt s F.KPX_STATUS_PRIV
  unfold State.exception
  rw [if_neg (by simp [h])]
  dsimp only
  refine ⟨?_, ?_, ?_, ?_, ?_, ?_, ?_, ?_, rfl, ?_, rfl⟩
  · rw [State.g_core, g_p_ne _ _ (by decide), g_p_ne _ _ (by decide), g_p_ne _ _ (by decide), g_p_ne _ _ (by decide),
      g_p_ne _ _ (by decide), g_p_ne _ _ (by decide), g_p_same _ _ _ (by decide)]
    exact Nat.mod_eq_of_lt hp
  · rw [State.g_core, g_p_ne _ _ (by decide), g_p_ne _ _ (by decide), g_p_ne _ _ (by decide), g_p_ne _ _ (by decide),
      g_p_same _ _ _ (by decide)]
    exact Nat.mod_eq_of_lt (by simp only [F.KPX_TRAPCAUSE_CAUSE]; omega)
  · rw [State.g_core, g_p_ne _ _ (by decide), g_p_ne _ _ (by decide), g_p_ne _ _ (by decide), g_p_ne _ _ (by decide),
      g_p_ne _ _ (by decide), g_p_same _ _ _ (by decide)]
    exact Nat.mod_eq_of_lt ha
  · rw [State.g_core, g_p_ne _ _ (by decide), g_p_ne _ _ (by decide), g_p_ne _ _ (by decide), g_p_same _ _ _ (by decide)]
    exact Nat.mod_eq_of_lt hw
  · rw [State.g_core, g_p_disjoint _ _ (by decide) (by decide), g_p_disjoint _ _ (by decide) (by decide), g_p_same _ _ _ (by decide)]
    exact Nat.mod_eq_of_lt hpriv
  · rw [State.g_core, g_p_disjoint _ _ (by decide) (by decide), g_p_same _ _ _ (by decide)]
    decide
  · rw [State.g_core, g_p_same _ _ _ (by decide)]
    decide
  · rw [State.g_core, g_p_disjoint _ _ (by decide) (by decide), g_p_disjoint _ _ (by decide) (by decide),
      g_p_disjoint _ _ (by decide) (by decide), g_p_ne _ _ (by decide), g_p_ne _ _ (by decide), g_p_ne _ _ (by decide),
      g_p_ne _ _ (by decide)]
  · intro k h1 h2 h3 h4 h5
    have h6 : k ≠ F.KPX_STATUS_INTRAP.key := h5
    have h7 : k ≠ F.KPX_STATUS_RETPRIV.key := h5
    rw [State.word_core, word_p_ne _ h6, word_p_ne _ h5, word_p_ne _ h7, word_p_ne _ h4, word_p_ne _ h2, word_p_ne _ h3, word_p_ne _ h1]

end Sys2Proof.Machine
end

