-- ==== Sys2Proof/WellFormed.lean ====
section
/-!
DEFINITION. Sys2Proof/WellFormed.lean: the operands that a command can carry: pages of the page window (R119, R619), aligned offsets (R121),
sources below 512 (R221), at most 64 bytes in a CAN frame (R418), channels that commands come from (R635).
-/
namespace Sys2Proof

/-- A page of the window of R619. -/
def pageOk (page : Nat) : Bool := decide (page < 0x40)

/-- An offset that a 64-bit access can have. -/
def offsetOk (off : Nat) : Bool := decide (off < 0x1000) && off % 8 == 0

/-- A CAN data field. -/
def frameOk (data : List Byte) : Bool := decide (data.length ≤ 64)

/-- A command on a channel of R635, within the longest message of R632. -/
def Cmd.wf (c : Cmd) : Bool :=
  let ch := c.channel.toNat
  (ch == 1 || (decide (0x10 ≤ ch) && decide (ch < 0x14))) && decide (c.body.length + 16 ≤ 266240)

/-- A command's operands are in range. -/
def Instr.wf : Instr → Bool
  | .carapaceScan _ => true
  | .inboundFrame _ => true
  | .silenceDrop => true
  | .barrierSilence => true
  | .watchFrame _ _ _ _ => true
  | .fenceAuthFail => true
  | .fenceRevoke => true
  | .visoInLoss => true
  | .visoInReturn _ => true
  | .vfldChange _ => true
  | .powerOnReset _ => true
  | .powerOnResetEnd _ => true
  | .batteryPowerOn => true
  | .batteryHoldEntry => true
  | .warmReset => true
  | .pllLock _ => true
  | .pllLockTimeout => true
  | .pllLockLost => true
  | .vddqLoss => true
  | .vddqReturn _ => true
  | .vpcieLoss => true
  | .vpcieReturn => true
  | .vbatLow => true
  | .xinMeasurement _ => true
  | .pwrMonUpdate _ _ => true
  | .pwrMonFineUpdate _ _ => true
  | .pwrLevelUpdate _ _ => true
  | .bootFieldBranch _ => true
  | .rstCmdWarm _ => true
  | .rstCmdMolt _ => true
  | .rstCmdCarapace _ => true
  | .perstn => true
  | .pciReset _ => true
  | .modEvaluation => true
  | .modReqnWrite _ _ _ _ => true
  | .modReqCancel _ _ => true
  | .modeInputChange _ => true
  | .secureDegradedParked => true
  | .fireflyWake source => decide (source < 512)
  | .ffyTimerExpiry => true
  | .cbWakePattern _ => true
  | .registerWrite _ page offset _ => pageOk page && offsetOk offset
  | .unassignedPageAccess page => pageOk page
  | .narrowAccess _ page => pageOk page
  | .evtClear _ page _ => pageOk page
  | .evtenWrite _ page _ => pageOk page
  | .trclrWrite _ page _ => pageOk page
  | .lockArm _ page _ _ => pageOk page
  | .lockCancel _ page => pageOk page
  | .lockedRegisterWrite _ page offset _ => pageOk page && offsetOk offset
  | .lockWindowExpiry page => pageOk page
  | .sysAssetSet _ _ => true
  | .logClrClass _ _ upsets => upsets.all (fun u => decide (u.1 < 64))
  | .logClrSelf _ _ => true
  | .doorbellDrain => true
  | .groupTimerExpiry _ => true
  | .msixUnmask _ => true
  | .icuGcfgWrite _ _ _ => true
  | .icuSrccfgWrite _ _ _ => true
  | .icuClaim _ _ => true
  | .icuComplete _ _ source => decide (source < 512)
  | .foutSet _ _ _ => true
  | .fcntReset _ _ => true
  | .foutUninhibit _ _ => true
  | .foutSweepStart _ _ _ _ _ => true
  | .foutSweepAbort _ => true
  | .sweepSettleExpiry => true
  | .fldGatherStart _ _ => true
  | .pulsedSample _ => true
  | .inputFilterChange _ => true
  | .periodOverflow _ => true
  | .frequencyGateEnd _ => true
  | .thermalShutdown _ => true
  | .currentLimit _ => true
  | .outputFault _ => true
  | .iteTripclr _ => true
  | .iteStore _ _ => true
  | .iteStoreAndLoad _ _ => true
  | .tableLoadDone => true
  | .cmgArm _ _ => true
  | .carUnitScaleWrite _ _ _ => true
  | .doorStatusFrame _ payload => frameOk payload
  | .dwellExpiry _ => true
  | .lockMsExpiry _ => true
  | .nudgeHoldExpiry _ => true
  | .dorUnhold _ _ => true
  | .callFrame _ _ payload => frameOk payload
  | .callCancel _ _ payload => frameOk payload
  | .dsePass _ => true
  | .driveStatusFrame payload => frameOk payload
  | .ackRetry => true
  | .pkgLoad _ => true
  | .pkgLoadEnd _ => true
  | .dsePerfUpdate => true
  | .dseTodAdvance => true
  | .canFrameReceive _ received => (match received with | .frame f => frameOk f.data | .error _ _ _ => true)
  | .rxpop _ _ => true
  | .txgoBuffer _ _ _ => true
  | .txgoQueue _ _ => true
  | .txjob _ _ _ => true
  | .abortHead _ _ => true
  | .flush _ _ => true
  | .bufabort _ _ _ => true
  | .canTransmitAttempt _ _ => true
  | .busOffRecovery _ => true
  | .keeperRecoveryRequest _ => true
  | .rateSearchDwell _ => true
  | .bitTimingWrite _ _ _ _ => true
  | .jobHeartbeat _ _ => true
  | .jobSupervisionTimeout _ _ => true
  | .cycleBoundary => true
  | .referenceLateDrop _ => true
  | .referenceReceive _ _ payload _ _ => frameOk payload
  | .referenceMiss => true
  | .wakeSearchEnd => true
  | .fixtureStatusFrame _ _ payload => frameOk payload
  | .digestExchange => true
  | .digestReceive _ _ _ payload => frameOk payload
  | .stationAbsent _ => true
  | .bidFrame _ _ _ payload => frameOk payload
  | .assignmentFrame _ _ _ payload => frameOk payload
  | .interrupt => true
  | .addOp _ _ _ => true
  | .subOp _ _ _ => true
  | .andOp _ _ _ => true
  | .orOp _ _ _ => true
  | .xorOp _ _ _ => true
  | .shl _ _ _ => true
  | .shr _ _ _ => true
  | .shra _ _ _ => true
  | .clt _ _ _ => true
  | .cltu _ _ _ => true
  | .mulOp _ _ _ => true
  | .mulhiu _ _ _ => true
  | .mulhis _ _ _ => true
  | .quou _ _ _ => true
  | .modu _ _ _ => true
  | .quos _ _ _ => true
  | .mods _ _ _ => true
  | .selnz _ _ _ => true
  | .rotr _ _ _ => true
  | .lzc _ _ => true
  | .ones _ _ => true
  | .addk _ _ _ => true
  | .andk _ _ _ => true
  | .ork _ _ _ => true
  | .xork _ _ _ => true
  | .shlk _ _ _ => true
  | .shrk _ _ _ => true
  | .shrak _ _ _ => true
  | .cltk _ _ _ => true
  | .cltuk _ _ _ => true
  | .highOp _ _ => true
  | .pcrel _ _ => true
  | .callOp _ _ => true
  | .jumpr _ _ _ => true
  | .ld64 _ _ _ _ => true
  | .ld32s _ _ _ _ => true
  | .ld32u _ _ _ _ => true
  | .ld16s _ _ _ _ => true
  | .ld16u _ _ _ _ => true
  | .ld8s _ _ _ _ => true
  | .ld8u _ _ _ _ => true
  | .st64 _ _ _ _ => true
  | .st32 _ _ _ _ => true
  | .st16 _ _ _ _ => true
  | .st8 _ _ _ _ => true
  | .ifeq _ _ _ => true
  | .ifne _ _ _ => true
  | .iflt _ _ _ => true
  | .ifge _ _ _ => true
  | .ifltu _ _ _ => true
  | .ifgeu _ _ _ => true
  | .dstop _ => true
  | .tret _ => true
  | .idle => true
  | .idleResume => true
  | .exitEntry => true
  | .send => true
  | .keyOpen => true
  | .keyClose => true
  | .aesGcmSeal => true
  | .aesGcmOpen _ => true
  | .aesCmac => true
  | .sha384 => true
  | .ecdsaSign => true
  | .ecdsaVerify => true
  | .ecdh => true
  | .hkdf => true
  | .random => true
  | .ctrRead => true
  | .ctrInc _ => true
  | .jobKey => true
  | .attFull => true
  | .attCert => true
  | .logEvent => true
  | .modReq => true
  | .pageWrite => true
  | .timeService => true
  | .appletTick _ => true
  | .appletEntry => true
  | .romoff _ => true
  | .nvmProgram _ => true
  | .nvmErase _ => true
  | .nvmDone _ => true
  | .lvaLoad _ _ _ => true
  | .generateSlot _ _ _ _ => true
  | .importSlot _ _ _ _ => true
  | .deleteSlot _ _ _ _ => true
  | .checkSlot _ _ _ => true
  | .deliver _ _ _ => true
  | .newroot _ _ _ _ => true
  | .lifecycle _ _ _ _ => true
  | .keeperFloor _ _ _ _ => true
  | .tmpFloor _ _ _ _ => true
  | .commitRoot _ _ _ => true
  | .incCounter _ _ _ => true
  | .raiseCounter _ _ _ _ => true
  | .tamperAnomaly _ => true
  | .tmpLevelWrite _ _ => true
  | .tmpClrLatch _ => true
  | .lockLift _ => true
  | .tmpClrCounts _ => true
  | .consentClockTick => true
  | .tenMolt _ _ => true
  | .moltOrderRecheck _ => true
  | .moltPrepare => true
  | .scrubDone => true
  | .moltFinish appletsOk => appletsOk.length == 8
  | .tenCfgload _ _ => true
  | .attMeasHash _ _ _ => true
  | .attMeasCopyCmg _ _ _ => true
  | .attMeasCopyPkg _ _ _ => true
  | .attMeasClear _ _ _ => true
  | .emcKeyLoad _ => true
  | .emcKeyClear _ => true
  | .emcScrubStart _ => true
  | .emcRefresh => true
  | .pcieLinkUp _ => true
  | .pcieLinkDown => true
  | .busMasterEnable _ => true
  | .doeDiscovery _ _ => true
  | .doeAbort => true
  | .getMeasurements _ _ nonce => nonce.length == 32
  | .keyExchange _ _ _ => true
  | .keyUpdate _ => true
  | .vendorDefinedRequest _ _ => true
  | .recoveryObject _ _ data _ _ => decide (data.length ≤ 4080)
  | .hbxH2dTailWrite _ _ => true
  | .hbxD2hTailWrite _ _ => true
  | .h2dMessage _ => true
  | .d2hMessage _ _ => true
  | .hbxClaim _ => true
  | .hbxComplete _ _ => true
  | .status cmd => cmd.wf
  | .attestFull cmd => cmd.wf
  | .attestCert cmd => cmd.wf
  | .moltReport cmd => cmd.wf
  | .modRequest cmd => cmd.wf
  | .regRead cmd => cmd.wf
  | .regWrite cmd => cmd.wf
  | .appletMsg cmd => cmd.wf
  | .appletLoad cmd _ => cmd.wf
  | .appletStop cmd => cmd.wf
  | .tenantConfig cmd _ => cmd.wf
  | .moltOrder cmd _ => cmd.wf
  | .table cmd _ => cmd.wf
  | .pkgRelease cmd _ _ => cmd.wf
  | .pkgImage cmd => cmd.wf
  | .keyCommand cmd _ => cmd.wf
  | .tamper cmd => cmd.wf
  | .lastresortClear cmd => cmd.wf
  | .troubleClear cmd => cmd.wf
  | .appletResv cmd => cmd.wf
  | .reset cmd => cmd.wf
  | .mgtConfig cmd => cmd.wf
  | .upload cmd => cmd.wf
  | .mgtLinkChange _ => true
  | .mgtPacketDrop => true
  | .neighbourSolicitation _ => true
  | .echoRequest data => decide (data.length ≤ 1232)
  | .clientHello _ => true
  | .dtlsKeyUpdate _ => true
  | .closeNotify _ => true
  | .sessionIdleTimeout _ => true
  | .tapReset => true
  | .extest => true
  | .idcode => true
  | .samplePreload => true
  | .clamp => true
  | .highz => true
  | .dpacc => true
  | .bypass => true
  | .dpaccRead _ => true
  | .dpaccWrite _ _ => true
  | .newnonce => true
  | .submit _ => true
  | .haltCore => true
  | .deferredHaltTakesEffect => true
  | .resumeCore => true
  | .stepCore _ => true
  | .cancelHalt => true
  | .endConsent => true
  | .dpWin _ _ => true
  | .breakpointMatch => true
  | .illegal _ => true
  | .spdmEndSession _ => true
  | .getCertificate _ _ => true
  | .challenge _ _ nonce => nonce.length == 32

end Sys2Proof
end

