-- ==== Sys2Proof/Tests/Slice0.lean ====
section
/-!
SUPPORT. Sys2Proof/Tests/Slice0.lean: tests with values taken from the manual, and for every statement with hypotheses a witness: for each of its
clauses a state and operands that meet the clause's hypotheses together.
-/
namespace Sys2Proof
open Sys2Proof.Machine
set_option Elab.async false

/-! ## Well-formed commands -/

theorem test_wf_source : Instr.wf (.fireflyWake 511) = true ∧ Instr.wf (.fireflyWake 512) = false ∧ Instr.wf (.icuComplete .keeper .t0 512) = false := by decide
theorem test_wf_page : Instr.wf (.unassignedPageAccess 0x3f) = true ∧ Instr.wf (.unassignedPageAccess 0x40) = false ∧
    Instr.wf (.narrowAccess .host 0x40) = false ∧ Instr.wf (.evtClear .host 0x40 0) = false ∧ Instr.wf (.evtenWrite .host 0x40 0) = false ∧
    Instr.wf (.trclrWrite .host 0x40 0) = false ∧ Instr.wf (.lockArm .host 0x40 1 0x4c4b) = false ∧ Instr.wf (.lockCancel .host 0x40) = false ∧
    Instr.wf (.lockWindowExpiry 0x40) = false := by decide
theorem test_wf_offset : Instr.wf (.registerWrite .host 6 0xff8 0) = true ∧ Instr.wf (.registerWrite .host 6 0x1000 0) = false ∧
    Instr.wf (.registerWrite .host 6 0x84 0) = false ∧ Instr.wf (.lockedRegisterWrite .host 6 0x84 0) = false := by decide
theorem test_wf_log_class : Instr.wf (.logClrClass .keeper 0 [(63, true)]) = true ∧ Instr.wf (.logClrClass .keeper 0 [(64, true)]) = false := by decide
theorem test_wf_frame : Instr.wf (.driveStatusFrame (List.replicate 64 0)) = true ∧ Instr.wf (.driveStatusFrame (List.replicate 65 0)) = false ∧
    Instr.wf (.doorStatusFrame 0 (List.replicate 65 0)) = false ∧ Instr.wf (.callFrame 0 0 (List.replicate 65 0)) = false ∧
    Instr.wf (.callCancel 0 0 (List.replicate 65 0)) = false ∧ Instr.wf (.referenceReceive true true (List.replicate 65 0) 0 0) = false ∧
    Instr.wf (.fixtureStatusFrame 0 0 (List.replicate 65 0)) = false ∧ Instr.wf (.digestReceive 0 true 0 (List.replicate 65 0)) = false ∧
    Instr.wf (.bidFrame 0 true 0 (List.replicate 65 0)) = false ∧ Instr.wf (.assignmentFrame 0 true 0 (List.replicate 65 0)) = false := by decide
theorem test_wf_lengths : Instr.wf (.moltFinish [true]) = false ∧ Instr.wf (.getMeasurements .first 1 []) = false ∧ Instr.wf (.challenge .first 0 []) = false ∧
    Instr.wf (.recoveryObject 0 0 (List.replicate 4081 0) ⟨.first, true⟩ 0) = false ∧ Instr.wf (.echoRequest (List.replicate 1233 0)) = false := by decide +kernel
theorem test_wf_channel : Instr.wf (.status ⟨0x13, 0, []⟩) = true ∧ Instr.wf (.status ⟨0x14, 0, []⟩) = false ∧ Instr.wf (.status ⟨2, 0, []⟩) = false := by decide

/-! ## Words of the Larva set, written out from R506 and R508 to R513 -/

theorem test_word_add : decodeLarva 0b000000_0001_0010_0011_00_000000_000000#32 = some (.a 0 1 2 3) := by decide
theorem test_word_ones : decodeLarva 0b000000_0101_0110_0000_00_000000_010100#32 = some (.a 0x14 5 6 0) := by decide
theorem test_word_addk : decodeLarva 0b000001_0001_0010_1111_11_111111_111110#32 = some (.i 1 1 2 0x3fffe) := by decide
theorem test_word_ld64 : decodeLarva 0b010000_0100_0010_0000_00_000000_001000#32 = some (.m 0x10 4 2 8) := by decide
theorem test_word_st8 : decodeLarva 0b011011_0100_0010_0000_00_000000_000001#32 = some (.m 0x1b 4 2 1) := by decide
theorem test_word_ifgeu : decodeLarva 0b100101_0010_0011_0000_00_000000_000111#32 = some (.b 0x25 2 3 7) := by decide
theorem test_word_kcall : decodeLarva 0b111111_0000_0000_0000_00_000000_100011#32 = some (.s 0 0x23) := by decide
/-- What R507 lists: an OP or FN without an entry, a field marked zero, a shift amount above 63. -/
theorem test_word_illegal : decodeLarva 0b000000_0001_0010_0011_00_000000_010101#32 = none ∧ decodeLarva 0b000000_0001_0010_0011_01_000000_000000#32 = none ∧
    decodeLarva 0b000101_0001_0010_0000_00_000001_000000#32 = none ∧ decodeLarva 0b001010_0001_0010_0000_00_000000_000001#32 = none ∧
    decodeLarva 0b010111_0000_0000_0000_00_000000_000000#32 = none ∧ decodeLarva 0b111111_0000_0000_0000_11_000000_000001#32 = none := by decide

/-! ## Small states -/

def upWake : Wake := { Wake.held with inReset := false, bootPending := false, watch := false }
/-- Run, clocked, with every column granting everyone everything. -/
def base : State :=
  let s := { State.reset with wake := upWake }
  let s1 := (((s.p F.CLK_STAT_PLL_LOCK 1).p F.MOD_CUR_POWER 3).p F.RST_BOOT_FSTEP 5).p F.SYS_STAT_KEEPER_UP 1
  (List.range 9).foldl (fun (x : State) c => x.p (F.SYS_PAM_GRANTS c) 0x2ff) s1
/-- A page's sequence is armed, with its first writes held. -/
def arm (s : State) (page seq owner : Nat) (held : List (Nat × Word)) : State :=
  { ((((s.p (lockArmed page) 1).p (lockSeq page) seq).p (lockOwner page) owner).p (lockRemain page) 100) with holds := [(page, held)] }
/-- The fuses of life-cycle Deployed. -/
def livng (s : State) : State := { s with fuse := { s.fuse with fuseP := true, fuseD := true } }
def fieldUp (s : State) : State := { s with cpc := { s.cpc with viso := true, driven := true } }

/-- A test's property of the state that a command leaves. -/
def leaves (r : Host.Outcome State Fault Refusal) (f : State → Bool) : Bool := match r with | .next t => f t | _ => false

/-! ## Steps -/

theorem test_step_front : leaves (step { base with pending := [.perstn, .mgtPacketDrop] }) (fun t => t.pending == [.mgtPacketDrop]) = true := by decide +kernel
theorem test_step_idle : leaves (step base) (fun t => t.g F.CLK_UPTIME_US == 1 && t.pending == []) = true := by decide +kernel
theorem test_canonical_reset : canonical State.reset = true := by decide
/-- The example of R135: channel 5, register 2 of FOUT lies at 0x1001_2550. -/
theorem test_array_address : pageOf 0x3f 0x10012550 = some (0x12, 0x400 + 5 * 0x40 + 2 * 8) := by decide
/-- The example of R317: 0x0002 is above 0xFFF0. -/
theorem test_tag_window : tagGt 0x0002 0xfff0 = true ∧ tagGt 0xfff0 0x0002 = false := by decide
/-- R512: −2 words back from 0x3000_0000. -/
theorem test_branch_back : leaves (exec (.ifeq 0 0 0x3fffe) { base with core := { base.core with pc := 0x30000010 } })
    (fun t => t.core.pc == 0x30000008) = true := by decide +kernel
/-- R508: the smallest number divided by −1. -/
theorem test_quos_corner : leaves (exec (.quos 1 2 3) { base with core := { base.core with pc := 0x30000000
                                                                                           x := (base.core.x.set 2 0x8000000000000000).set 3 (-1) } })
    (fun t => t.core.x.getD 1 0 == 0x7fffffffffffffff) = true := by decide +kernel
/-- R143 and R131: a withheld write is counted, and the count stops at 0xFFFF. -/
theorem test_violation_saturates : leaves (exec (.registerWrite .debug 6 0x80 5) (base.p (hdrTrouble 6 2) 0xffff))
    (fun t => t.g (hdrTrouble 6 2) == 0xffff && t.word (regKey 6 0x80) == 0) = true := by decide +kernel
/-- R656: IDCODE is 0x0_0641 above the manufacturer and a 1. -/
theorem test_idcode : leaves (exec .idcode base) (fun t => t.dbg.ir == 1) = true := by decide +kernel

/-! ## Witnesses -/

theorem coreAt_of {s : State} (h : s.coreReady = true ∧ s.interruptDue = false ∧ (s.bpHit = false ∨ s.core.passed = true) ∧
    (match s.fetch .ok with | .value _ => true | _ => false) = true) : CoreAt s := by
  refine ⟨h.1, h.2.1, h.2.2.1, ?_⟩
  have q := h.2.2.2
  split at q
  · exact ⟨_, ‹_›⟩
  · cases q

theorem callAt_of {s : State} {code : Nat} (h : (s.coreReady = true ∧ s.interruptDue = false ∧ (s.bpHit = false ∨ s.core.passed = true) ∧
    (match s.fetch .ok with | .value _ => true | _ => false) = true) ∧ s.atApplet = true ∧ s.b F.KPX_STATUS_INTRAP = false ∧ s.granted code = true) :
    CallAt s code := ⟨coreAt_of h.1, h.2⟩

theorem witness_doorbellsDelivered : State.reset.icu.arriving = [] := by decide
theorem witness_canonicalKept : canonical State.reset = true := by decide
theorem witness_stepRunsTheFront : ∃ (s : State) (c : Instr) (rest : List Instr), s.pending = c :: rest := ⟨{ base with pending := [.perstn] }, .perstn, [], rfl⟩
theorem witness_idleStep :
    (∃ (s : State) (oks : List Bool), s.pending = [] ∧ s.canLive = true ∧ s.wake.applets = some oks ∧ s.g F.RST_BOOT_STEP = 7) ∧
    (∃ s : State, s.pending = [] ∧ s.wake.applets = none ∧ s.wake.inReset = false ∧ s.tick < 999999 ∧ s.canLive = true) ∧
    (∃ s : State, s.pending = [] ∧ s.wake.inReset = true ∧ s.canLive = false) ∧
    (∃ s : State, s.pending = [] ∧ s.wake.applets = none ∧ s.tick % 1000000 = 999999) ∧
    (∃ s : State, s.pending = [] ∧ s.wake.applets = none ∧ s.canLive = true ∧ s.b (F.ICU_GSTAT_RUNNING 15) = true) :=
  ⟨⟨{ base.p F.RST_BOOT_STEP 7 with wake := { upWake with applets := some [true] } }, [true], by decide +kernel⟩, ⟨base, by decide +kernel⟩,
   ⟨State.reset, by decide +kernel⟩, ⟨{ base with tick := 999999 }, by decide +kernel⟩, ⟨base.p (F.ICU_GSTAT_RUNNING 15) 1, by decide +kernel⟩⟩
theorem witness_larvaEncoding : (∃ op : LarvaOp, Encodable op) ∧ (∃ (w : BitVec 32) (op : LarvaOp), decodeLarva w = some op) :=
  ⟨⟨.a 0x14 15 15 0, by unfold Encodable; decide⟩, ⟨0, .a 0 0 0 0, by decide⟩⟩

/-! ## A tenant configuration: cycle boundary jobs 0 to 3 of their kinds, no job with a master slot -/

def cfgByte (i : Nat) : Byte :=
  if i < 16 then ([0x51, 0x54, 0x43, 0x46, 1, 0, 1, 1, 77] : List Byte).getD i 0
  else if i < 256 || 2176 ≤ i then 0
  else if i % 24 = 8 then 0xff
  else if i % 24 = 16 && i < 352 then BitVec.ofNat 8 (2 * ((i - 256) / 24 + 1)) else 0
def cfg : List Byte := (List.range 2272).map cfgByte
def cfgMem : List (Nat × Byte) := (List.range 2272).map (fun i => (0x20001000 + i, cfgByte i))

theorem slice_table (n : Nat) (f : Nat → Byte) (a k : Nat) :
    slice ((List.range n).map f) a k = (List.range k).map (fun i => if a + i < n then f (a + i) else 0) := by
  unfold slice
  apply List.map_congr_left
  intro i _
  by_cases h : a + i < n <;> simp [h, List.getD_eq_getElem?_getD]

theorem cellGet_table (dflt f : Nat → Byte) (a : Nat) : ∀ (n m k : Nat), m ≤ k → k < m + n →
    cellGet dflt ((List.range' m n).map (fun i => (a + i, f i))) (a + k) = f k
  | 0, _, _, _, _ => by omega
  | n + 1, m, k, _, _ => by
    rw [List.range'_succ, List.map_cons, cellGet]
    split
    · rw [show m = k by omega]
    · exact cellGet_table dflt f a n (m + 1) k (by omega) (by omega)

theorem cfg_bytes {s : State} (h : s.mem = cfgMem) : s.bytes 0x20001000 2272 = cfg := by
  unfold State.bytes cfg
  apply List.map_congr_left
  intro i hi
  unfold State.byte
  rw [h, cfgMem, List.range_eq_range']
  exact cellGet_table _ _ _ 2272 0 i (by omega) (by simpa using List.mem_range.1 hi)

theorem cfg_form : configFormOk cfg = true ∧ kindsOk cfg = true := by
  simp only [configFormOk, kindsOk, zeroAt, cfgJob, leAt, cfg, slice_table, List.length_map, List.length_range]
  decide +kernel

theorem cfg_masters (n : Nat) (h : 2176 ≤ n) : ∀ i ∈ List.range 80, cfgMasterAt ((List.range n).map cfgByte) i = 0xff := by
  intro i hi
  have q : ∀ i ∈ List.range 80, (cfgByte (jobEntry i + 16)).toNat = 0xff := by decide +kernel
  have hi' : i < 80 := List.mem_range.1 hi
  have b : jobEntry i + 16 < n := by unfold jobEntry; omega
  simp only [cfgMasterAt, leAt, slice_table]
  simpa [ofLe, b] using q i hi

theorem cfg_cause (s : State) (ok : Bool) : s.configCause cfg ok =
    if !s.slotValid (slotAuthority 1) || !ok then some 3 else if 77 < s.ctr 12 then some 4 else none := by
  have e : leAt cfg 6 1 = 1 ∧ leAt cfg 0x10 8 = 0 ∧ leAt cfg 8 4 = 77 := by
    simp only [leAt, cfg, slice_table]; decide +kernel
  have m : (List.range 80).any (fun i => cfgMasterAt cfg i != 0xff && !s.tenantSlot 1 (cfgMasterAt cfg i) 5) = false := by
    rw [List.any_eq_false]
    intro i hi
    rw [cfg, cfg_masters 2272 (by omega) i hi]
    simp
  simp only [State.configCause, cfg_form.1, cfg_form.2, e.1, e.2.1, e.2.2, m]
  simp

theorem cfg_ready {s : State} (h : s.nvm.config1 = some ((List.range 2176).map cfgByte)) (a : s.slotValid (slotAuthority 1) = true)
    (t : s.slotValid (slotTime 1) = true) : s.incomingReady 1 = true := by
  have e : s.tenantConfig 1 = some ((List.range 2176).map cfgByte) := h
  have g : bitAt (leAt ((List.range 2176).map cfgByte) 0x88 8) 0 = false := by simp only [leAt, slice_table]; decide +kernel
  simp only [State.incomingReady, e, a, t, g, List.all_eq_true, Bool.and_eq_true, Bool.or_eq_true]
  exact ⟨by simp, fun i hi => .inl (.inr (by rw [cfg_masters 2176 (by omega) i hi]; rfl))⟩

/-- The order of a Molt to the contractor. -/
def ord (tgt : Nat) : List Byte :=
  leBytes 4 0x544c4d51 ++ leBytes 2 1 ++ leBytes 1 tgt ++ leBytes 1 0 ++ leBytes 8 base.fuse.serial.toNat ++ leBytes 4 1 ++ List.replicate 140 0

theorem ord_target : ordTarget (ord 1) = 1 := by decide +kernel
theorem cfg_tenant : leAt cfg 6 1 = 1 := by simp only [leAt, cfg, slice_table]; decide +kernel
theorem cfg_length : cfg.length = 2272 := by simp only [cfg, List.length_map, List.length_range]
theorem cfg_cause_at {s : State} (h : s.mem = cfgMem) (ok : Bool) : s.configCause (s.bytes ((0x20001000 : Word).toNat % 2 ^ 32) 2272) ok =
    if !s.slotValid (slotAuthority 1) || !ok then some 3 else if 77 < s.ctr 12 then some 4 else none := by
  rw [show (0x20001000 : Word).toNat % 2 ^ 32 = 0x20001000 from rfl, cfg_bytes h, cfg_cause]
theorem cfg_tenant_at {s : State} (h : s.mem = cfgMem) : leAt (s.bytes ((0x20001000 : Word).toNat % 2 ^ 32) 2272) 6 1 = 1 := by
  rw [show (0x20001000 : Word).toNat % 2 ^ 32 = 0x20001000 from rfl, cfg_bytes h, cfg_tenant]

namespace WitnessCore

def x0 : List Word := (List.range 16).map (fun i => BitVec.ofNat 64 (i * 0x9e3779b97f4a7c15 * i))
def cb (x : State) : State := {x.p F.KPX_TRAPVEC_ADDR 0x3000100 with core := {x.core with x := x0, pc := 0x30000000}}
def cw (a b : Word) : State := {cb base with core := {(cb base).core with x := ((x0.set 2 a).set 3 b)}}
def p0 (x : State) : State := {x with core := {x.core with pc := 0}}
def ar (x : State) : State := {x with icu := {x.icu with pend0 := 2^40, rel0 := 2^40}}

theorem witness_aluResults : ∃ (s : State), CoreAt s :=
  ⟨(cb base), coreAt_of (by decide +kernel)⟩

theorem witness_divisionsAndCounts :
    (∃ (s : State) (rs2 : Fin 16), CoreAt s ∧ (s.xr rs2) ≠ 0) ∧
    (∃ (s : State) (rs1 : Fin 16) (rs2 : Fin 16), CoreAt s ∧ (s.xr rs2) ≠ 0 ∧ ((s.xr rs1).toInt ≠ -2 ^ 63 ∨ (s.xr rs2).toInt ≠ -1)) ∧
    (∃ (s : State) (rs1 : Fin 16) (rs2 : Fin 16), CoreAt s ∧ (s.xr rs1).toInt = -2 ^ 63 ∧ (s.xr rs2).toInt = -1) ∧
    (∃ (s : State), CoreAt s) :=
  ⟨⟨(cw 0xf000000000000001 7), 3, coreAt_of (by decide +kernel), by decide +kernel⟩,
   ⟨(cw 0xf000000000000001 7), 2, 3, coreAt_of (by decide +kernel), by decide +kernel⟩,
   ⟨(cw 0x8000000000000000 0xffffffffffffffff), 2, 3, coreAt_of (by decide +kernel), by decide +kernel⟩,
   ⟨(cw 0xf000000000000001 7), coreAt_of (by decide +kernel)⟩⟩

theorem witness_divideByZero : ∃ (s : State) (rs2 : Fin 16), CoreAt s ∧ s.b F.KPX_STATUS_INTRAP = false ∧ s.atApplet = false ∧ s.xr rs2 = 0 :=
  ⟨(cw 0x8000000000000000 0), 3, coreAt_of (by decide +kernel), by decide +kernel⟩

theorem witness_immediateResults :
    (∃ (s : State), CoreAt s) ∧
    (∃ (s : State) (rs1 : Fin 16) (imm : BitVec 18), CoreAt s ∧ ((s.xr rs1) + (BitVec.ofInt 64 (4 * imm.toInt))).toNat % 4 = 0) :=
  ⟨⟨(cb base), coreAt_of (by decide +kernel)⟩,
   ⟨(cb base), 2, 0x3ffff, coreAt_of (by decide +kernel), by decide +kernel⟩⟩

theorem witness_branches : ∃ (s : State), CoreAt s :=
  ⟨(cb base), coreAt_of (by decide +kernel)⟩

theorem witness_loads :
    (∃ (s : State) (rs1 : Fin 16) (off : BitVec 18) (p : Nat), CoreAt s ∧ PlainAt s ((s.xr rs1 + BitVec.ofInt 64 off.toInt).toNat) 8 = some p ∧ ((s.xr rs1 + BitVec.ofInt 64 off.toInt).toNat) % 8 = 0) ∧
    (∃ (s : State) (rs1 : Fin 16) (off : BitVec 18) (p : Nat), CoreAt s ∧ PlainAt s ((s.xr rs1 + BitVec.ofInt 64 off.toInt).toNat) 4 = some p ∧ ((s.xr rs1 + BitVec.ofInt 64 off.toInt).toNat) % 4 = 0) ∧
    (∃ (s : State) (rs1 : Fin 16) (off : BitVec 18) (p : Nat), CoreAt s ∧ PlainAt s ((s.xr rs1 + BitVec.ofInt 64 off.toInt).toNat) 2 = some p ∧ ((s.xr rs1 + BitVec.ofInt 64 off.toInt).toNat) % 2 = 0) ∧
    (∃ (s : State) (rs1 : Fin 16) (off : BitVec 18) (p : Nat), CoreAt s ∧ PlainAt s ((s.xr rs1 + BitVec.ofInt 64 off.toInt).toNat) 1 = some p) :=
  ⟨⟨((cw 0x100 5).putBytes 0xf8 [1,2,3,4,5,6,7,0x88,0xfe,0xff]), 2, 0x3fff8, 0xf8, coreAt_of (by decide +kernel), by decide +kernel⟩,
   ⟨((cw 0x100 5).putBytes 0xf8 [1,2,3,4,5,6,7,0x88,0xfe,0xff]), 2, 0x3fff8, 0xf8, coreAt_of (by decide +kernel), by decide +kernel⟩,
   ⟨((cw 0x100 5).putBytes 0xf8 [1,2,3,4,5,6,7,0x88,0xfe,0xff]), 2, 0x3fff8, 0xf8, coreAt_of (by decide +kernel), by decide +kernel⟩,
   ⟨((cw 0x100 5).putBytes 0xf8 [1,2,3,4,5,6,7,0x88,0xfe,0xff]), 2, 0x3fff8, 0xf8, coreAt_of (by decide +kernel), by decide +kernel⟩⟩

theorem witness_stores :
    (∃ (s : State) (rs1 : Fin 16) (off : BitVec 18) (p : Nat), CoreAt s ∧ PlainAt s ((s.xr rs1 + BitVec.ofInt 64 off.toInt).toNat) 8 = some p ∧ ((s.xr rs1 + BitVec.ofInt 64 off.toInt).toNat) % 8 = 0) ∧
    (∃ (s : State) (rs1 : Fin 16) (off : BitVec 18) (p : Nat), CoreAt s ∧ PlainAt s ((s.xr rs1 + BitVec.ofInt 64 off.toInt).toNat) 4 = some p ∧ ((s.xr rs1 + BitVec.ofInt 64 off.toInt).toNat) % 4 = 0) ∧
    (∃ (s : State) (rs1 : Fin 16) (off : BitVec 18) (p : Nat), CoreAt s ∧ PlainAt s ((s.xr rs1 + BitVec.ofInt 64 off.toInt).toNat) 2 = some p ∧ ((s.xr rs1 + BitVec.ofInt 64 off.toInt).toNat) % 2 = 0) ∧
    (∃ (s : State) (rs1 : Fin 16) (off : BitVec 18) (p : Nat), CoreAt s ∧ PlainAt s ((s.xr rs1 + BitVec.ofInt 64 off.toInt).toNat) 1 = some p) :=
  ⟨⟨(cw 0x100 0x1122334455667788), 2, 0x3fff8, 0xf8, coreAt_of (by decide +kernel), by decide +kernel⟩,
   ⟨(cw 0x100 0x1122334455667788), 2, 0x3fff8, 0xf8, coreAt_of (by decide +kernel), by decide +kernel⟩,
   ⟨(cw 0x100 0x1122334455667788), 2, 0x3fff8, 0xf8, coreAt_of (by decide +kernel), by decide +kernel⟩,
   ⟨(cw 0x100 0x1122334455667788), 2, 0x3fff8, 0xf8, coreAt_of (by decide +kernel), by decide +kernel⟩⟩

theorem witness_misalignedAccess :
    (∃ (s : State) (rs1 : Fin 16) (off : BitVec 18), CoreAt s ∧ s.b F.KPX_STATUS_INTRAP = false ∧ s.atApplet = false ∧ (s.xr rs1 + BitVec.ofInt 64 off.toInt).toNat % 8 ≠ 0) ∧
    (∃ (s : State) (rs1 : Fin 16) (off : BitVec 18), CoreAt s ∧ s.b F.KPX_STATUS_INTRAP = false ∧ s.atApplet = false ∧ (s.xr rs1 + BitVec.ofInt 64 off.toInt).toNat % 4 ≠ 0) ∧
    (∃ (s : State) (rs1 : Fin 16) (off : BitVec 18), CoreAt s ∧ s.b F.KPX_STATUS_INTRAP = false ∧ s.atApplet = false ∧ (s.xr rs1 + BitVec.ofInt 64 off.toInt).toNat % 2 ≠ 0) :=
  ⟨⟨(cw 0x101 0x1122334455667788), 2, 0, coreAt_of (by decide +kernel), by decide +kernel⟩,
   ⟨(cw 0x101 0x1122334455667788), 2, 0, coreAt_of (by decide +kernel), by decide +kernel⟩,
   ⟨(cw 0x101 0x1122334455667788), 2, 0, coreAt_of (by decide +kernel), by decide +kernel⟩⟩

theorem witness_systemInstructions :
    (∃ (s : State), CoreAt s ∧ s.atApplet = false) ∧
    (∃ (s : State), CoreAt s ∧ s.atApplet = false ∧ s.requestLine false = false) ∧
    (∃ (s : State), CoreAt s ∧ s.atApplet = false ∧ s.requestLine false = true) ∧
    (∃ (s : State), s.core.idle = true ∧ s.requestLine false = true ∧ s.canLive = true ∧ s.power ≠ .halt ∧ s.b F.KPX_STAT_HALTED = false) ∧
    (∃ (s : State), CoreAt s ∧ s.b F.KPX_STATUS_INTRAP = false ∧ s.atApplet = false) :=
  ⟨⟨(cw 0x101 3), coreAt_of (by decide +kernel), by decide +kernel⟩,
   ⟨(cw 0x101 3), coreAt_of (by decide +kernel), by decide +kernel⟩,
   ⟨(ar (cw 0x101 3)), coreAt_of (by decide +kernel), by decide +kernel⟩,
   ⟨(let s := ar (cw 0x101 3); {s with core := {s.core with idle := true}}), by decide +kernel⟩,
   ⟨(cw 0x101 3), coreAt_of (by decide +kernel), by decide +kernel⟩⟩

theorem witness_coreEvents :
    (∃ (s : State) (word : BitVec 32), CoreAt s ∧ s.b F.KPX_STATUS_INTRAP = false ∧ s.atApplet = false ∧ decodeLarva word = none) ∧
    (∃ (s : State), s.coreReady = true ∧ s.requestLine false = true ∧ s.b F.KPX_STATUS_INTRAP = false ∧ (s.atApplet = true ∨ s.b F.KPX_STATUS_INTEN = true)) ∧
    (∃ (s : State), (s.requestLine false = false ∨ s.b F.KPX_STATUS_INTRAP = true ∨ (s.atApplet = false ∧ s.b F.KPX_STATUS_INTEN = false))) ∧
    (∃ (s : State), s.coreReady = true ∧ s.bpHit = true ∧ s.haltRefusal.isSome = true) :=
  ⟨⟨(cw 0x101 3), 0xffffffff, coreAt_of (by decide +kernel), by decide +kernel⟩,
   ⟨(ar ((cw 0x101 3).p F.KPX_STATUS_INTEN 1)), by decide +kernel⟩,
   ⟨(cw 0x101 3), by decide +kernel⟩,
   ⟨((p0 {cw 0x101 3 with dbg := {base.dbg with bps := [0x8000000000000000]}}).p F.KPX_STATUS_PRIV 1), by decide +kernel⟩⟩

end WitnessCore

namespace WitnessD1

def row6 : RegRow := (rowAt 6 0x80).getD ⟨0,0,0,0,0,0,0,0,0⟩
def na : State := base.p (F.SYS_PAM_GRANTS row6.wcol) 0

theorem witness_registerWrites :
    (∃ (s : State) (acc : Accessor) (page : Nat) (off : Nat) (row : RegRow), setting page off = true ∧ rowAt page off = some row ∧ row.wcol < 8 ∧ MayWrite s acc row.wcol page) ∧
    (∃ (s : State) (acc : Accessor) (page : Nat) (off : Nat) (row : RegRow), setting page off = true ∧ rowAt page off = some row ∧ row.wcol < 8 ∧ row.km = 0 ∧ s.clocked = true ∧ (s.reaches acc page = false ∨ s.mayWrite acc row.wcol page = false)) ∧
    (∃ (s : State) (page : Nat), s.clocked = true ∧ pageAssigned page = true ∧ page ≠ 4 ∧ page ≠ 5) ∧
    (∃ (s : State) (page : Nat), s.clocked = true ∧ pageAssigned page = false) :=
  ⟨⟨base, .keeper, 6, 0x80, row6, by delta MayWrite; decide +kernel⟩,
   ⟨na, .host, 6, 0x80, row6, by decide +kernel⟩,
   ⟨base, 6, by decide +kernel⟩,
   ⟨base, 0x16, by decide +kernel⟩⟩

theorem witness_headerWrites :
    (∃ (s : State) (acc : Accessor) (page : Nat), pageAssigned page = true ∧ page ≠ 4 ∧ page ≠ 5 ∧ MayWrite s acc 2 page) ∧
    (∃ (s : State) (acc : Accessor) (page : Nat), pageAssigned page = true ∧ page ≠ 4 ∧ page ≠ 5 ∧ MayWrite s acc 5 page) :=
  ⟨⟨(base.setWord (regKey 0x12 0x20) 0x7), .keeper, 0x12, by delta MayWrite; decide +kernel⟩,
   ⟨(base.setWord (regKey 0x12 0x20) 0x7), .keeper, 0x12, by delta MayWrite; decide +kernel⟩⟩

theorem witness_lockSequences :
    (∃ (s : State) (acc : Accessor) (page : Nat) (col : Nat) (seq : Byte) (regs : List Nat), sequences page ≠ [] ∧ seq ≠ 0 ∧ seqOf page seq.toNat = some (seq.toNat, col, regs) ∧ MayWrite s acc col page ∧ s.b (lockArmed page) = false) ∧
    (∃ (s : State) (acc : Accessor) (page : Nat), sequences page ≠ [] ∧ s.clocked = true ∧ s.reaches acc page = true ∧ s.b (lockArmed page) = true ∧ s.g (lockOwner page) = ownerOf acc) ∧
    (∃ (s : State) (page : Nat), sequences page ≠ [] ∧ s.clocked = true ∧ s.b (lockArmed page) = true) ∧
    (∃ (s : State) (acc : Accessor) (page : Nat) (col : Nat) (off : Nat) (seq : Byte) (regs : List Nat) (held : List (Nat × Word)), sequences page ≠ [] ∧ seqOf page seq.toNat = some (seq.toNat, col, regs) ∧ SequenceAt s acc col page seq.toNat held ∧ off < 0x400 ∧ regs[held.length]? = some off ∧ held.length + 1 < regs.length) ∧
    (∃ (s : State) (acc : Accessor) (page : Nat) (col : Nat) (off : Nat) (seq : Byte) (regs : List Nat) (held : List (Nat × Word)), sequences page ≠ [] ∧ seqOf page seq.toNat = some (seq.toNat, col, regs) ∧ SequenceAt s acc col page seq.toNat held ∧ off ∈ regs ∧ regs[held.length]? ≠ some off) ∧
    (∃ (s : State) (acc : Accessor) (other : Accessor) (page : Nat) (col : Nat) (off : Nat) (seq : Byte) (regs : List Nat) (held : List (Nat × Word)), sequences page ≠ [] ∧ seqOf page seq.toNat = some (seq.toNat, col, regs) ∧ SequenceAt s acc col page seq.toNat held ∧ off ∈ regs ∧ MayWrite s other col page ∧ ownerOf other ≠ ownerOf acc) :=
  ⟨⟨base, .keeper, 0x34, 9, 1, [0x80,0x88], by delta MayWrite; decide +kernel⟩,
   ⟨(arm base 0x31 1 2 []), .keeper, 0x31, by decide +kernel⟩,
   ⟨(arm base 0x31 1 2 []), 0x31, by decide +kernel⟩,
   ⟨(arm base 0x31 1 2 []), .keeper, 0x31, 9, 0x88, 1, (((seqOf 0x31 1).getD (0,0,[])).2.2), [], by delta SequenceAt; delta MayWrite; decide +kernel⟩,
   ⟨(arm base 0x31 1 2 []), .keeper, 0x31, 9, 0x90, 1, (((seqOf 0x31 1).getD (0,0,[])).2.2), [], by delta SequenceAt; delta MayWrite; decide +kernel⟩,
   ⟨(arm base 0 1 2 []), .keeper, .host, 0, (((seqOf 0 1).getD (0,0,[])).2.1), (((((seqOf 0 1).getD (0,0,[])).2.2).getD 0 0)), 1, (((seqOf 0 1).getD (0,0,[])).2.2), [], by delta SequenceAt; delta MayWrite; decide +kernel⟩⟩

end WitnessD1

namespace WitnessE1

def swp : Sweep := { remaining := [3,4], step := 0, attempt := 1, faulted := false, firstFault := false }
/-- A sweep at channel 1 whose settle time ends, with the reports' fault and whether ON_TEST is granted. -/
def sws (sw : Sweep) (fault onTest : Bool) : State :=
  let b := fieldUp base
  (((({ b with bar := { b.bar with sweep := some sw, testFault := fault } }).p F.FOUT_SWEEPSTAT_ON_TEST 1).p F.FOUT_SWEEPSTAT_CHANNEL 1).p
    F.ITE_PERMIT_GRANT (if onTest then 2 else 0)).p F.PWR_STAT_VFLD_OK 1
def SettleAt (s : State) (sw : Sweep) (onTest : Bool) : Prop :=
  s.bar.sweep = some sw ∧ s.bar.sweepQ = [] ∧
  (s.b F.FOUT_SWEEPSTAT_ON_TEST && (s.g F.ITE_PERMIT_GRANT).testBit (s.g F.FOUT_SWEEPSTAT_CHANNEL) && s.b F.PWR_STAT_VFLD_OK) = onTest

theorem witness_outputWrites :
    (∃ (s : State) (acc : Accessor), MayWrite s acc 2 0x11) ∧
    (∃ (s : State) (acc : Accessor), MayWrite s acc 3 0x12) ∧
    (∃ (s : State) (acc : Accessor) (units : BitVec 4), MayWrite s acc 3 0x13 ∧
      (units.toNat.testBit s.carUnit = false ∨ (s.b F.CAR_STAT_VALID = false ∧ s.b F.CAR_STAT_RELEARNING = false))) ∧
    (∃ (s : State) (acc : Accessor), SequenceAt s acc 3 0x12 1 []) :=
  ⟨⟨base, .keeper, by delta MayWrite; decide +kernel⟩,
   ⟨base, .keeper, by delta MayWrite; decide +kernel⟩,
   ⟨base, .keeper, 15, by delta MayWrite; decide +kernel⟩,
   ⟨(arm base 0x12 1 2 []), .keeper, by delta SequenceAt; delta MayWrite; decide +kernel⟩⟩

theorem witness_sweepAndGather :
    (∃ (s : State) (acc : Accessor) (mask : BitVec 16) (first : Nat) (rest : List Nat), MayWrite s acc 3 0x12 ∧ s.bar.sweep = none ∧ bitsBelow 16 mask.toNat = first :: rest) ∧
    (∃ (s : State) (acc : Accessor) (sw : Sweep), MayWrite s acc 3 0x12 ∧ s.bar.sweep = some sw) ∧
    (∃ (s : State) (acc : Accessor) (count : BitVec 5), MayWrite s acc 3 0x10 ∧ s.b F.FLD_GSTAT_RUNNING = false ∧ 1 ≤ count.toNat ∧ count.toNat ≤ 16) ∧
    (∃ (s : State) (sw : Sweep), SettleAt s sw true ∧ sw.step = 0) ∧
    (∃ (s : State) (sw : Sweep), SettleAt s sw true ∧ sw.step = 1 ∧ (sw.faulted || s.bar.testFault) = true ∧ sw.attempt = 1) ∧
    (∃ (s : State) (sw : Sweep) (next : Nat) (rest : List Nat), SettleAt s sw false ∧ sw.step = 0 ∧ (sw.faulted || s.bar.testFault) = false ∧
      sw.firstFault = false ∧ sw.remaining = next :: rest ∧ next < 16) ∧
    (∃ (s : State) (sw : Sweep), SettleAt s sw true ∧ sw.step = 1 ∧ (sw.faulted || s.bar.testFault) = false ∧ sw.firstFault = false ∧ sw.remaining = []) ∧
    (∃ (s : State) (sw : Sweep), SettleAt s sw true ∧ sw.step = 1 ∧ (sw.faulted || s.bar.testFault) = false ∧ sw.attempt = 2 ∧ sw.firstFault = true) ∧
    (∃ (s : State) (sw : Sweep), SettleAt s sw false ∧ sw.step = 0 ∧ (sw.faulted || s.bar.testFault) = true ∧ sw.attempt = 2 ∧ sw.firstFault = true) ∧
    (∃ (s : State), s.bar.sweep = none ∨ s.bar.sweepQ ≠ []) :=
  ⟨⟨base, .keeper, 6, 1, [2], by delta MayWrite; decide +kernel⟩,
   ⟨{base with bar := {base.bar with sweep := some swp}}, .keeper, swp, by delta MayWrite; decide +kernel⟩,
   ⟨base, .keeper, 3, by delta MayWrite; decide +kernel⟩,
   ⟨sws swp false true, swp, by delta SettleAt; decide +kernel⟩,
   ⟨sws { swp with step := 1 } true true, { swp with step := 1 }, by delta SettleAt; decide +kernel⟩,
   ⟨sws swp false false, swp, 3, [4], by delta SettleAt; decide +kernel⟩,
   ⟨sws { swp with step := 1, remaining := [] } false true, { swp with step := 1, remaining := [] }, by delta SettleAt; decide +kernel⟩,
   ⟨sws { swp with step := 1, attempt := 2, firstFault := true } false true, { swp with step := 1, attempt := 2, firstFault := true }, by delta SettleAt; decide +kernel⟩,
   ⟨sws { swp with attempt := 2, firstFault := true } true false, { swp with attempt := 2, firstFault := true }, by delta SettleAt; decide +kernel⟩,
   ⟨base, by decide +kernel⟩⟩

end WitnessE1

namespace WitnessE2

def fb : State := fieldUp base
def senv : ScanEnv := { frameOk := true, raw := 5, fast := [], temp := 0, tempTenth := 0, vfldMv := 0, hot := 0, padsLow := 0, padsHigh := 0, limit := 0, tableCrcOk := true, loadCrcOk := true, gatherFaults := [] }
def ien (f : Bool) : InEnv := ⟨f, some 0, some 0, []⟩
def wen (ok : Bool) : WatchLanes := ⟨true, ok, some 0, some 0⟩
def fe : FieldEnv := { linkUp := false, transferOk := true, table := ⟨.first,true⟩ }
def tck : TableCheck := ⟨true,true,true⟩
-- an image in memory
def tb (b : State) (ver : Nat) : State :=
  let s := (((b.storeLe 0x10000 4 0x45544951).storeLe 0x10004 2 1).storeLe 0x10008 8 ver)
  (s.p (F.KEY_POL_VALID 96) 1)
def ld : State := let b := base.p F.ITE_LOADSTAT_STATE 4; { b with bar := { b.bar with load := some [1,2,3] } }

theorem witness_barrierFrames :
    (∃ (s : State), s.cpc.on = true ∧ s.cpc.fieldWatch = false) ∧
    (∃ (s : State) (inEnv : InEnv), s.linkRuns = true ∧ s.b F.DBG_STAT_PENDING = false ∧ s.cpc.on = true ∧ s.cpc.fieldWatch = false ∧ inEnv.frameOk = true ∧ inEnv.ackOut = some 0 ∧ s.cpc.heardOut = true ∧ s.cpc.lastOutSeq = some s.bar.out.seq ∧ s.bar.outFails = 0 ∧ s.cpc.inFlight.retry = true ∧ s.bar.lastInSeq = some s.cpc.inFlight.seq) ∧
    (∃ (s : State) (inEnv : InEnv), s.linkRuns = true ∧ s.b F.DBG_STAT_PENDING = false ∧ s.cpc.on = true ∧ s.cpc.fieldWatch = false ∧ inEnv.frameOk = false ∧ inEnv.ackOut = some 0 ∧ (inEnv.ackIn = none ∨ inEnv.ackIn = some 0) ∧ s.cpc.heardOut = true ∧ s.cpc.lastOutSeq = some s.bar.out.seq ∧ s.bar.outFails = 0 ∧ s.bar.inFails = 0 ∧ s.cpc.inFlight.retry = false) :=
  ⟨⟨fb, by decide +kernel⟩,
   ⟨{fb with cpc := {fb.cpc with heardOut := true, lastOutSeq := some fb.bar.out.seq, inFlight := {fb.cpc.inFlight with retry := true}}, bar := {fb.bar with lastInSeq := some fb.cpc.inFlight.seq}}, (ien true), by decide +kernel⟩,
   ⟨{fb with cpc := {fb.cpc with heardOut := true, lastOutSeq := some fb.bar.out.seq}}, (ien false), by decide +kernel⟩⟩

theorem witness_silence :
    (∃ (s : State), s.cpc.on = true ∧ s.cpc.fieldWatch = false) ∧
    (∃ (s : State), s.linkRuns = true ∧ s.bar.sweep = none ∧ s.b F.FLD_GSTAT_RUNNING = false ∧ s.bar.load = none ∧ s.waitingTags = []) ∧
    (∃ (s : State), s.cpc.viso = true) ∧
    (∃ (s : State), s.cpc.viso = false ∧ s.cpc.driven = false) ∧
    (∃ (s : State) (env : FieldEnv), s.cpc.viso = false ∧ s.cpc.driven = true ∧ s.wake.inReset = false ∧ s.g F.RST_BOOT_FSTEP ≠ 0 ∧ env.linkUp = false) :=
  ⟨⟨fb, by decide +kernel⟩,
   ⟨fb, by decide +kernel⟩,
   ⟨fb, by decide +kernel⟩,
   ⟨base, by decide +kernel⟩,
   ⟨(({base with cpc := {base.cpc with driven := true}}).p F.RST_BOOT_FSTEP 3), fe, by decide +kernel⟩⟩

theorem witness_watchFrames :
    (∃ (s : State) (lanes : WatchLanes), s.wake.watch = true ∧ s.cpc.on = true ∧ s.cpc.fieldWatch = true ∧ s.cpc.watchRepeat = false ∧ lanes.inOk = true) ∧
    (∃ (s : State) (lanes : WatchLanes), s.wake.watch = true ∧ s.cpc.on = true ∧ s.cpc.fieldWatch = true ∧ s.cpc.watchRepeat = false ∧ lanes.inOk = false ∧
      (lanes.ackIn = none ∨ lanes.ackIn = some 0) ∧ s.bar.watchLink.inFails = 0) :=
  ⟨⟨{fb with wake := {fb.wake with watch := true}, cpc := {fb.cpc with fieldWatch := true}}, wen true, by decide +kernel⟩,
   ⟨{fb with wake := {fb.wake with watch := true}, cpc := {fb.cpc with fieldWatch := true}}, wen false, by decide +kernel⟩⟩

def u0 : CUnit := ⟨0, 0, 0, 0, false, false, false, 0⟩
def un (x : CUnit) : State := { fb with cpc := { fb.cpc with units := fb.cpc.units.set 2 x } }
/-- Unit 2 of FCNT is in the given mode by its word of the configuration. -/
def unMode (m : Nat) (x : CUnit) : State := { un x with cpc := { (un x).cpc with config := (un x).cpc.config.set 35 (BitVec.ofNat 64 (m + 2 ^ 16)) } }
def live5 (b : State) : State := { b with cpc := { b.cpc with applied := 2 ^ 5, vfldOk := true } }

theorem witness_carapaceEvents :
    (∃ (s : State), s.cpc.on = true ∧ s.cpc.fieldWatch = false) ∧
    (∃ (s : State) (input : Fin 32), s.cpc.on = true ∧ s.cpc.fieldWatch = false ∧ s.cpc.finFilter input.val + 1 ≤ s.cpc.filtCount.getD input.val 0) ∧
    (∃ (s : State) (input : Fin 32), s.cpc.on = true ∧ s.cpc.fieldWatch = true ∧ s.cpc.finFilter input.val + 1 ≤ s.cpc.filtCount.getD input.val 0) ∧
    (∃ (s : State) (unit : Fin 4) (u : CUnit), s.cpc.on = true ∧ s.cpc.fieldWatch = false ∧ s.cpc.unitMode unit.val = 5 ∧
      s.cpc.units[unit.val]? = some u ∧ 2 ^ 32 ≤ u.since) ∧
    (∃ (s : State) (unit : Fin 4) (u : CUnit), s.cpc.on = true ∧ s.cpc.fieldWatch = false ∧ s.cpc.unitMode unit.val = 6 ∧
      s.cpc.units[unit.val]? = some u ∧ 50 * min 1000 (max 1 (s.cpc.cfg (33 + unit.val) 16 10)) ≤ u.gateScans) ∧
    (∃ (s : State), s.cpc.fieldWatch = true) ∧
    (∃ (s : State) (ch : Fin 16), s.cpc.on = true ∧ s.cpc.applied.testBit ch.val = true) ∧
    (∃ (s : State) (ch : Fin 16), s.cpc.on = true ∧ s.cpc.applied.testBit ch.val = false) ∧
    (∃ (s : State) (ch : Fin 16), s.cpc.on = true ∧ s.cpc.applied.testBit ch.val = true ∧ s.cpc.vfldOk = true) :=
  ⟨⟨fb, by decide +kernel⟩,
   ⟨{ fb with cpc := { fb.cpc with filtCount := fb.cpc.filtCount.set 9 256 } }, 9, by decide +kernel⟩,
   ⟨{ fb with cpc := { fb.cpc with fieldWatch := true, filtCount := fb.cpc.filtCount.set 9 256 } }, 9, by decide +kernel⟩,
   ⟨unMode 5 { u0 with since := 2 ^ 32 }, 2, { u0 with since := 2 ^ 32 }, by decide +kernel⟩,
   ⟨unMode 6 { u0 with gateScans := 50 }, 2, { u0 with gateScans := 50 }, by decide +kernel⟩,
   ⟨{ fb with cpc := { fb.cpc with fieldWatch := true } }, by decide +kernel⟩,
   ⟨live5 fb, 5, by decide +kernel⟩,
   ⟨live5 fb, 4, by decide +kernel⟩,
   ⟨live5 fb, 5, by decide +kernel⟩⟩

theorem witness_interlockTable :
    (∃ (s : State) (acc : Accessor), SequenceAt s acc 3 0x14 1 []) ∧
    (∃ (s : State) (acc : Accessor) (check : TableCheck) (v : Word), SequenceAt s acc 7 0x14 2 [(0xc0, v)] ∧ s.tableCause (s.bytes (v.toNat % 2 ^ 32) 10336) check = none ∧ check.writeOk = true) ∧
    (∃ (s : State) (acc : Accessor) (check : TableCheck) (v : Word) (c : Nat), SequenceAt s acc 7 0x14 2 [(0xc0, v)] ∧ s.tableCause (s.bytes (v.toNat % 2 ^ 32) 10336) check = some c ∧ c < 256) ∧
    (∃ (s : State) (acc : Accessor) (check : TableCheck) (v : Word), SequenceAt s acc 4 0x14 3 [(0xc0, v)] ∧ s.tableCause (s.bytes (v.toNat % 2 ^ 32) 10336) check = none ∧ check.writeOk = true) ∧
    (∃ (s : State) (body : List Byte), s.g F.ITE_LOADSTAT_STATE = 4 ∧ s.keeperServes = true ∧ s.fuse.life.dead = false ∧ s.bar.load = some body ∧ s.host.waiting = []) ∧
    (∃ (s : State) (acc : Accessor), SequenceAt s acc 7 0x15 1 [] ∧ s.fuse.life.dead = false) ∧
    (∃ (s : State) (acc : Accessor), SequenceAt s acc 7 0x15 1 [] ∧ s.fuse.life.dead = true) :=
  ⟨⟨(arm base 0x14 1 2 []), .keeper, by delta SequenceAt; delta MayWrite; decide +kernel⟩,
   ⟨(arm (tb base 7) 0x14 2 2 [(0xc0,0x10000)]), .keeper, tck, 0x10000, by delta SequenceAt; delta MayWrite; decide +kernel⟩,
   ⟨(arm (tb base 7) 0x14 2 2 [(0xc0,0x20000)]), .keeper, tck, 0x20000, 1, by delta SequenceAt; delta MayWrite; decide +kernel⟩,
   ⟨(arm (tb base 7) 0x14 3 2 [(0xc0,0x10000)]), .keeper, tck, 0x10000, by delta SequenceAt; delta MayWrite; decide +kernel⟩,
   ⟨livng ld, [1,2,3], by decide +kernel⟩,
   ⟨livng (arm base 0x15 1 2 []), .keeper, by delta SequenceAt; delta MayWrite; decide +kernel⟩,
   ⟨(arm base 0x15 1 2 []), .keeper, by delta SequenceAt; delta MayWrite; decide +kernel⟩⟩

end WitnessE2

namespace WitnessF1

def dr (n st : Nat) (d : DoorState) : State := ((base.p (F.DOR_CFG_EN n) 1).p (F.DOR_STATE_STATE n) st).setDoor n d
def d0 : DoorState := DoorState.fresh
def ds : State := (base.p F.DSE_STAT_RUN 1)
def lv : State := ds.p (F.CAR_LFLAGS_VALID 5) 1
def keyed : State := let s := (({lv with dse := {lv.dse with acks := [(none, 3, [1])]}}).p (F.CB_JOB_CFG_EN 0 3) 1); {s with cb0 := {s.cb0 with keys := [⟨3,[],[],false,0⟩]}}
def dp : State := let s := ((base.p F.DSE_STAT_RUN 1).p F.ITE_STAT_TRIP 1); {s with dse := {s.dse with due := true, passes := 5000}}
def pk : State := let s := (((base.p F.PKG_STAT_LOADING 1).p F.PKG_SRC_ADDR 0x10000).p F.PKG_LEN_LEN 9); {s with dse := {s.dse with pkgKey := some [1]}}
def lv2 := lv.p F.MOD_CUR_LIFT 0
def pn : Nat := 80 + 768 + 388 * 16
def ph : List Byte := leBytes 4 0x454b5051 ++ leBytes 2 1 ++ leBytes 2 0 ++ leBytes 4 (pn - 80) ++ List.replicate 52 0
def pe : State := (pk.p F.PKG_LEN_LEN pn).putBytes 0x10000 ph
/-- A load from external memory that a region of EMC gives to the Keeper. -/
def px : State :=
  let s := (((((((pk.p F.PKG_SRC_ADDR 0x80000040).p F.EMC_SIZE_DATA_MIB 64).p F.EMC_SIZE_DEVICE_MIB 80).p (F.EMC_PART_SIZE 0) 4).p (F.EMC_PART_PR 0) 1).p
    F.EMC_STAT_TRAINED 1).p F.PWR_STAT_VDDQ_OK 1)
  { s with emc := { s.emc with key := some (0, 0, 0, 0) } }

theorem witness_doorEngines :
    (∃ (s : State) (acc : Accessor), MayWrite s acc 1 0x18 ∧ s.b F.CAR_STAT_VALID = false) ∧
    (∃ (s : State) (acc : Accessor) (value : Word), MayWrite s acc 1 0x18 ∧ s.b F.CAR_STAT_VALID = true ∧ s.waitingTags = [] ∧ value.toNat % 2 ^ 32 ≠ s.g F.CAR_SCALE_SCALE) ∧
    (∃ (s : State) (n : Fin 2), s.doorActs n.val = true ∧ (s.doorIs n.val = 4 ∨ s.doorIs n.val = 8) ∧ (s.door n.val).dwellRunning = true ∧ (s.door n.val).dwellHeld = false ∧ s.holdToRun = false) ∧
    (∃ (s : State) (n : Fin 2), s.doorActs n.val = true ∧ s.doorIs n.val = 2 ∧ (s.door n.val).confirming = true ∧ s.doorMute = false ∧ s.g (F.DOR_STATE_LOCKMISS n.val) + 1 < s.g (F.DOR_CFG_LOCKMISS_MAX n.val)) ∧
    (∃ (s : State) (n : Fin 2), s.doorActs n.val = true ∧ s.doorIs n.val = 4 ∧ s.b (F.DOR_STAT_CURTAIN n.val) = true ∧ s.b (F.DOR_CFG_NUDGE_HOLD n.val) = true ∧ s.nudgeAllowed = true) ∧
    (∃ (s : State) (acc : Accessor) (n : Fin 2), MayWrite s acc 2 (0x19 + n.val) ∧ s.doorIs n.val = 9 ∧ (s.door n.val).heldDue = false ∧ (s.door n.val).holdIn = false ∧ s.modeHolds = false) ∧
    (∃ (s : State) (n : Fin 2) (payload : List Byte), s.doorActs n.val = true ∧ s.doorIs n.val = 6 ∧ payload.getD 0 0 = 1) :=
  ⟨⟨base, .keeper, by delta MayWrite; decide +kernel⟩,
   ⟨(base.p F.CAR_STAT_VALID 1), .keeper, 7, by delta MayWrite; decide +kernel⟩,
   ⟨(dr 1 4 {d0 with dwellRunning := true}), 1, by decide +kernel⟩,
   ⟨(((dr 0 2 {d0 with confirming := true}).p (F.DOR_CFG_LOCKMISS_MAX 0) 3).p F.MOD_CUR_LIFT 0), 0, by decide +kernel⟩,
   ⟨((((dr 1 4 d0).p (F.DOR_STAT_CURTAIN 1) 1).p (F.DOR_CFG_NUDGE_HOLD 1) 3).p F.MOD_CUR_LIFT 0), 1, by decide +kernel⟩,
   ⟨(dr 1 9 d0), .keeper, 1, by delta MayWrite; decide +kernel⟩,
   ⟨(dr 1 6 d0), 1, [1,0,1,50,3], by decide +kernel⟩⟩

theorem witness_dseFrames :
    (∃ (s : State), s.b F.DSE_STAT_RUN = true ∧ s.power = .halt ∧ s.dse.intake.length < 32) ∧
    (∃ (s : State) (payload : List Byte), s.b F.DSE_STAT_RUN = true ∧ s.power ≠ .halt ∧ payload.getD 0 0 = 0x11 ∧ s.landNamed (payload.getD 2 0).toNat = true ∧ s.carPermitted (payload.getD 2 0).toNat = true ∧ s.lift ≠ .evacuation) ∧
    (∃ (s : State) (payload : List Byte), s.b F.DSE_STAT_RUN = true ∧ s.power ≠ .halt ∧ payload.getD 2 0 = 0x11 ∧ s.g F.DSE_CARCALLS_CALLS ≠ 0) ∧
    (∃ (s : State), s.b F.DSE_STAT_RUN = true ∧ s.power ≠ .halt) ∧
    (∃ (s : State) (owner : Nat) (ack : List Byte), s.b F.DSE_STAT_RUN = true ∧ s.power ≠ .halt ∧ s.dse.acks = [(none, owner, ack)] ∧ owner < 512 ∧ s.ackRoom owner = true) ∧
    (∃ (s : State) (owner : Nat) (ack : List Byte), s.b F.DSE_STAT_RUN = true ∧ s.power ≠ .halt ∧ s.dse.acks = [(none, owner, ack)] ∧ s.ackRoom owner = false) :=
  ⟨⟨(ds.p F.MOD_CUR_POWER 4), by decide +kernel⟩,
   ⟨lv2, [0x11,2,5,9], by decide +kernel⟩,
   ⟨(lv.p F.DSE_CARCALLS_CALLS 0x20), [0,2,0x11,9], by decide +kernel⟩,
   ⟨lv, by decide +kernel⟩,
   ⟨({lv with dse := {lv.dse with acks := [(none, 3, [1])]}}), 3, [1], by decide +kernel⟩,
   ⟨{keyed with cb0 := {keyed.cb0 with queue := List.replicate 32 (keyed.jobFrame 0 3 .job [])}}, 3, [1], by decide +kernel⟩⟩

theorem witness_dseClock : ∃ (s : State), s.b F.DSE_STAT_RUN = true ∧ s.power ≠ .halt ∧ s.dse.due = true ∧ s.grouped = false ∧ s.b F.PKG_STAT_SWITCH_PENDING = false ∧ s.mayStage = false ∧ s.b F.DSE_DRIVE_CMD = false ∧ s.dse.planned = [] ∧ s.dse.causes = [] ∧ s.g F.DSE_STAT_ENTRIES = 0 :=
  ⟨dp, by decide +kernel⟩

theorem witness_packageLoad :
    (∃ (s : State) (acc : Accessor) (addr : Word) (len : Word), SequenceAt s acc 7 0x1c 1 [(0x80, addr), (0x88, len)] ∧ s.b F.PKG_STAT_LOADING = false) ∧
    (∃ (s : State) (env : PkgEnv), s.b F.PKG_STAT_LOADING = true ∧ s.keeperServes = true ∧ s.host.waiting = [] ∧ s.region (s.g F.PKG_SRC_ADDR) = .ext ∧
      s.emcRefuses (s.g F.PKG_SRC_ADDR) .pkgRead = none ∧ env.read = .lasting) ∧
    (∃ (s : State) (env : PkgEnv) (key : List Byte), s.b F.PKG_STAT_LOADING = true ∧ s.keeperServes = true ∧ s.host.waiting = [] ∧ env.tagOk = true ∧ s.region (s.g F.PKG_SRC_ADDR) = .sram ∧ pkgHeadOk (s.bytes (s.g F.PKG_SRC_ADDR) (min (s.g F.PKG_LEN_LEN) 262224)) (s.g F.PKG_LEN_LEN) = true ∧ leAt (s.bytes (s.g F.PKG_SRC_ADDR) (min (s.g F.PKG_LEN_LEN) 262224)) 0x18 8 = 0 ∧ s.dse.pkgKey = some key) :=
  ⟨⟨(arm base 0x1c 1 2 [(0x80, 5), (0x88,9)]), .keeper, 5, 9, by delta SequenceAt; delta MayWrite; decide +kernel⟩,
   ⟨px, ⟨.lasting,0,true⟩, by decide +kernel⟩,
   ⟨pe, ⟨.ok,0,true⟩, [1], by decide +kernel⟩⟩

end WitnessF1

namespace WitnessF3

def fr : TxFrame := { kind := .software, id := 5, ide := false, fdf := true, brs := false, dlc := 8, job := 0, data := [1,2], failed := 0, tx := false, abort := false }
def stg : State := (base.p F.TSY_CFG_REFID 0x700).p F.GRP_CFG_IDBASE 0x600
def q (l : List TxFrame) : State := {stg with cb1 := {stg.cb1 with queue := l}}
def stj : State := let s := ((stg.p (F.CB_JOB_CFG_EN 1 5) 1).p (F.CB_JOB_CFG_KIND 1 5) 0).p (F.CB_JOB_CFG_BUF 1 5) 8; {s with cb1 := {s.cb1 with keys := [⟨5,[],[],false,0⟩], bufs := [some fr, none, some fr, some {fr with tx := true}, none,none,none,none]}}
def live : State := stg.p (F.CB_STAT_MODE 1) 0
def bf : BusFrame := { id := 9, ide := true, fdf := true, brs := false, esi := false, remote := false, dlc := 8, data := [1,2,3], macOk := true, offset := 0 }
def lq (l : List TxFrame) : State := {live with cb1 := {live.cb1 with queue := l}}
def sr : RateSearch := { dataStage := false, candidates := [2,1,0], good := 1, fdSeen := false, found := false }
def jk : JobKey := ⟨5,[],[],false,0⟩
def dr : RegRow := ⟨0x88, 0x0, 1, 0, 8, 0x0, 0x7f7fffff, 0x0, 0xf0f3e04⟩
def jb : State := let s := ((live.p (F.CB_JOB_CFG_EN 1 5) 1).p (F.CB_JOB_CFG_HB_PERIOD 1 5) 1).p (F.CB_JOB_CFG_TX_HB 1 5) 1; {s with cb1 := {s.cb1 with keys := [jk], payloads := [(5,[7])]}}

theorem witness_canWrites :
    (∃ (s : State) (acc : Accessor) (n : Fin 2) (dest : Fin 8), MayWrite s acc 2 (0x20 + n.val) ∧ s.reservedId n.val (staged s n.val acc) = false ∧ (s.can n.val).bufs[dest.val]? = some none ∧ s.bufOwner n.val dest.val = none ∧ ((staged s n.val acc).fdf = true ∨ (staged s n.val acc).brs = false)) ∧
    (∃ (s : State) (acc : Accessor) (n : Fin 2), MayWrite s acc 2 (0x20 + n.val) ∧ s.reservedId n.val (staged s n.val acc) = false ∧ (s.can n.val).queue.length < 32 ∧ ((staged s n.val acc).fdf = true ∨ (staged s n.val acc).brs = false)) ∧
    (∃ (s : State) (acc : Accessor) (n : Fin 2), MayWrite s acc 2 (0x20 + n.val) ∧ 32 ≤ (s.can n.val).queue.length) ∧
    (∃ (s : State) (acc : Accessor) (n : Fin 2) (job : Fin 64), MayWrite s acc 7 (0x20 + n.val) ∧ job.val < jobCount n.val ∧ s.b (F.CB_JOB_CFG_EN n.val job.val) = true ∧ s.g (F.CB_JOB_CFG_KIND n.val job.val) = 0 ∧ s.jobKeyed n.val job.val = true ∧ s.jobBuf n.val job.val = none ∧ (s.can n.val).queue.length < 32) ∧
    (∃ (s : State) (acc : Accessor) (n : Fin 2) (head : TxFrame) (rest : List TxFrame), MayWrite s acc 2 (0x20 + n.val) ∧ (s.can n.val).queue = head :: rest ∧ head.tx = false) ∧
    (∃ (s : State) (acc : Accessor) (n : Fin 2) (head : TxFrame) (rest : List TxFrame), MayWrite s acc 2 (0x20 + n.val) ∧ (s.can n.val).queue = head :: rest ∧ head.tx = true) ∧
    (∃ (s : State) (acc : Accessor) (n : Fin 2), MayWrite s acc 2 (0x20 + n.val)) :=
  ⟨⟨stg, .host, 1, 3, by delta MayWrite; decide +kernel⟩,
   ⟨stg, .host, 1, by delta MayWrite; decide +kernel⟩,
   ⟨(q (List.replicate 32 fr)), .keeper, 1, by delta MayWrite; decide +kernel⟩,
   ⟨stj, .keeper, 1, 5, by delta MayWrite; decide +kernel⟩,
   ⟨(q [fr,fr]), .keeper, 1, fr, [fr], by delta MayWrite; decide +kernel⟩,
   ⟨(q [{fr with tx := true},fr]), .keeper, 1, {fr with tx := true}, [fr], by delta MayWrite; decide +kernel⟩,
   ⟨stg, .host, 1, by delta MayWrite; decide +kernel⟩⟩

theorem witness_canFrames :
    (∃ (s : State) (n : Fin 2) (f : TxFrame) (place : TxPlace) (key : List Byte), s.canLive = true ∧ (s.can n.val).inTx = none ∧ bestFrame ((s.can n.val).candidates (s.g (F.CB_STAT_MODE n.val))) = some (place, f) ∧ s.frameKey n.val f = some key ∧ f.kind ≠ .reference) ∧
    (∃ (s : State) (n : Fin 2) (f : TxFrame), s.canLive = true ∧ (s.can n.val).inTx = some (.queue, f) ∧ f.kind = .software ∧ f.failed = 0 ∧ s.g (F.CB_STAT_MODE n.val) = 0) ∧
    (∃ (s : State) (n : Fin 2) (f : TxFrame) (lec : Nat), s.canLive = true ∧ (s.can n.val).inTx = some (.queue, f) ∧ f.abort = false ∧ s.limited n.val f = false ∧ s.g (F.CB_ERR_TEC n.val) + 8 < 256 ∧ lec < 8) ∧
    (∃ (s : State) (n : Fin 2) (r : BusFrame) (i : Nat), s.canLive = true ∧ s.g (F.CB_STAT_MODE n.val) = 0 ∧ s.b (F.CB_ERR_REC_P n.val) = false ∧ s.lva.mail = [] ∧ r.remote = false ∧ s.jobOf n.val r = none ∧ (n.val = 0 ∨ r.ide = true) ∧ s.filterOf n.val r = some i ∧ s.b (F.CB_FLT_ACTION n.val i) = false ∧ (s.can n.val).fifo.length < 64) ∧
    (∃ (s : State) (n : Fin 2) (lec : Nat), s.canLive = true ∧ s.g (F.CB_STAT_MODE n.val) = 0 ∧ s.lva.mail = [] ∧ (s.can n.val).search = none ∧ lec < 8) ∧
    (∃ (s : State) (n : Fin 2) (r : BusFrame) (j : Nat), s.canLive = true ∧ s.g (F.CB_STAT_MODE n.val) = 0 ∧ s.b (F.CB_ERR_REC_P n.val) = false ∧ s.lva.mail = [] ∧ r.remote = false ∧ s.jobOf n.val r = some j ∧ s.jobKeyed n.val j = false) ∧
    (∃ (s : State) (acc : Accessor) (n : Fin 2), s.clocked = true ∧ (acc = .host ∨ acc = .keeper) ∧ s.mayRead acc (readCol (0x20 + n.val) 0xd0) (0x20 + n.val) = true) :=
  ⟨⟨(lq [fr]), 1, fr, .queue, [], by decide +kernel⟩,
   ⟨(lq [{fr with tx:= true}, fr]), 1, {fr with tx:= true}, by decide +kernel⟩,
   ⟨((lq [{fr with tx:= true}, fr]).p (F.CB_CFG_LIMITED 1) 0), 1, {fr with tx:= true}, 2, by decide +kernel⟩,
   ⟨(((lq []).p (F.CB_FLT_EN 1 3) 1).p (F.CB_FLT_IDE 1 3) 1), 1, bf, 3, by decide +kernel⟩,
   ⟨(lq [fr]), 1, 2, by decide +kernel⟩,
   ⟨((((lq []).p (F.CB_JOB_CFG_EN 1 7) 1).p (F.CB_JOB_CFG_IDE 1 7) 1).p (F.CB_JOB_ID_RXID 1 7) 9), 1, bf, 7, by decide +kernel⟩,
   ⟨(lq [fr]), .keeper, 1, by decide +kernel⟩⟩

theorem witness_canClocks :
    (∃ (s : State) (n : Fin 2), s.canLive = true ∧ (s.can n.val).recovering = true ∧ s.g (F.CB_ERR_STATE n.val) = 2) ∧
    (∃ (s : State) (n : Fin 2), s.canLive = true ∧ s.b (F.CB_CFG_KRECOVER n.val) = true ∧ s.bus n.val = .busOff) ∧
    (∃ (s : State) (n : Fin 2) (x : RateSearch) (a : Nat) (b : Nat) (l : List Nat), s.canLive = true ∧ (s.can n.val).search = some x ∧ x.found = false ∧ x.dataStage = false ∧ x.candidates = a :: b :: l ∧ b < 4) ∧
    (∃ (s : State) (n : Fin 2) (row : RegRow), s.clocked = true ∧ s.reaches .keeper (0x20 + n.val) = true ∧ (s.can n.val).inTx = none ∧ rowAt (0x20 + n.val) 0x88 = some row) ∧
    (∃ (s : State) (n : Fin 2) (row : RegRow), s.clocked = true ∧ s.reaches .keeper (0x20 + n.val) = true ∧ (s.can n.val).inTx.isSome = true ∧ rowAt (0x20 + n.val) 0x90 = some row) ∧
    (∃ (s : State) (n : Fin 2) (job : Fin 64) (key : JobKey) (payload : List Byte), s.canLive = true ∧ s.g (F.CB_STAT_MODE n.val) = 0 ∧ s.b (F.CB_JOB_CFG_EN n.val job.val) = true ∧ s.jobKey n.val job.val = some key ∧ key.announcing = false ∧ s.b (F.CB_JOB_CFG_HB_PERIOD n.val job.val) = true ∧ s.b (F.CB_JOB_CFG_TX_HB n.val job.val) = true ∧ s.parksOnly n.val job.val = false ∧
      (n.val = 0 → job.val = 0 → s.mayStage = true ∧ s.lift ≠ .inspection) ∧ s.jobPayload n.val job.val = some payload ∧ s.jobBuf n.val job.val = none ∧ (s.can n.val).queue.length < 32) ∧
    (∃ (s : State) (n : Fin 2) (job : Fin 64), s.canLive = true ∧ s.b (F.CB_JOB_CFG_HB_PERIOD n.val job.val) = true ∧ s.b (F.CB_JOB_STAT_UP n.val job.val) = true ∧ (n.val = 1 ∨ job.val ≠ 1 ∧ job.val ≠ 2)) ∧
    (∃ (s : State), s.wake.inReset = false) ∧ (∃ (s : State), s.wake.inReset = true) ∧ (∃ (s : State), s.canLive = false) :=
  ⟨⟨{live.p (F.CB_ERR_STATE 1) 2 with cb1 := {live.cb1 with recovering := true}}, 1, by decide +kernel⟩,
   ⟨((live.p (F.CB_CFG_KRECOVER 1) 1).p F.MOD_CUR_CB1 5), 1, by decide +kernel⟩,
   ⟨{live with cb1 := {live.cb1 with search := some sr}}, 1, sr, 2, 1, [0], by decide +kernel⟩,
   ⟨{live.p (F.CB_ERR_STATE 1) 2 with cb1 := {live.cb1 with recovering := true}}, 1, ((rowAt 0x21 0x88).getD dr), by decide +kernel⟩,
   ⟨(lq [{fr with tx:= true}, fr]), 1, ((rowAt 0x21 0x90).getD dr), by decide +kernel⟩,
   ⟨jb, 1, 5, jk, [7], by decide +kernel⟩,
   ⟨(jb.p (F.CB_JOB_STAT_UP 1 5) 1), 1, 5, by decide +kernel⟩,
   ⟨live, by decide +kernel⟩, ⟨State.reset, by decide +kernel⟩, ⟨State.reset, by decide +kernel⟩⟩

end WitnessF3

namespace WitnessF5

def rf : TxFrame := { kind := .reference, id := 5, ide := false, fdf := true, brs := false, dlc := 8, job := 0, data := [1,2], failed := 0, tx := false, abort := false }
def fo : State := {base.p F.MOD_CUR_TIME 2 with cb1 := {base.cb1 with timeKey := some [1]}}
def gr : State := {(base.p F.GRP_CFG_EN 1).p F.GRP_CFG_MEMBERS 3 with cb1 := {base.cb1 with groupKey := some [1]}}
def mem : State := ((((gr.p F.MOD_CUR_GROUP 2).p (F.DSE_CALL0_VALID 4) 1).p F.DSE_STAT_ENTRIES 1).p (F.DSE_CALL0_KIND 4) 1).p (F.DSE_CALL0_FROM 4) 1

theorem witness_cycleBoundaries :
    (∃ (s : State), s.canLive = true ∧ s.cb0.timeKey = none ∧ s.leadsTime = false ∧ s.tsy.stepTo = none ∧ ((s.g F.TSY_COUNT_COUNT + 1) % 2 ^ 32) < s.tsy.floorAt + 65536) ∧
    (∃ (s : State) (step : Nat), s.canLive = true ∧ s.cb0.timeKey = none ∧ s.leadsTime = false ∧ s.tsy.stepTo = some step ∧ above32 step ((s.g F.TSY_COUNT_COUNT + 1) % 2 ^ 32) = true ∧ step < 2 ^ 32 ∧ step < s.tsy.floorAt + 65536) ∧
    (∃ (s : State) (key : List Byte), s.canLive = true ∧ s.cb0.timeKey = none ∧ s.leadsTime = true ∧ s.cb1.timeKey = some key ∧ s.cb1.refs = [] ∧ s.tsy.stepTo = none ∧ ((s.g F.TSY_COUNT_COUNT + 1) % 2 ^ 32) < s.tsy.floorAt + 65536) ∧
    (∃ (s : State) (bus : Fin 2), s.canLive = true ∧ (s.can bus.val).refs.any (fun f => !f.tx) = true) :=
  ⟨⟨base, by decide +kernel⟩,
   ⟨{base with tsy := {base.tsy with stepTo := some 9}}, 9, by decide +kernel⟩,
   ⟨{base.p F.MOD_CUR_TIME 0 with cb1 := {base.cb1 with timeKey := some [1]}}, [1], by decide +kernel⟩,
   ⟨{base with cb1 := {base.cb1 with refs := [rf]}}, 1, by decide +kernel⟩⟩

theorem witness_references :
    (∃ (s : State) (payload : List Byte) (fresh : Nat) (offset : Int) (key : List Byte), s.canLive = true ∧ s.timeRole = .follower ∧ s.cb1.timeKey = some key ∧ s.cb1.lastRef = none ∧ s.b F.TSY_STAT_SEARCHING = false ∧ offset.natAbs ≤ s.guardUs ∧ offset.natAbs ≤ 1000 ∧ above32 ((payload.getD 0 0).toNat * 2 ^ 24 + fresh % 2 ^ 24) (s.g F.TSY_COUNT_COUNT) = false) ∧
    (∃ (s : State) (payload : List Byte) (fresh : Nat) (key : List Byte) (last : Nat), s.canLive = true ∧ s.timeRole ≠ .free ∧ s.cb1.timeKey = some key ∧ s.cb1.lastRef = some last ∧ above32 ((payload.getD 0 0).toNat * 2 ^ 24 + fresh % 2 ^ 24) last = false) ∧
    (∃ (s : State), s.canLive = true ∧ s.expected = true ∧ s.tsy.hit = false ∧ s.g F.TSY_STAT_MISSRUN = 0 ∧ s.tsy.wakeMisses = none ∧ s.b F.TSY_STAT_SEARCHING = false ∧ s.b F.TSY_CFG_MASTER_OK = false ∧ s.tsy.timerWake = false) ∧
    (∃ (s : State), s.canLive = true ∧ s.expected = true ∧ s.tsy.hit = false ∧ s.g F.TSY_STAT_MISSRUN = 1 ∧ s.tsy.wakeMisses = none ∧ s.b F.TSY_STAT_SEARCHING = false ∧ s.b F.TSY_CFG_MASTER_OK = false ∧ s.tsy.timerWake = false) ∧
    (∃ (s : State), s.b F.TSY_STAT_SEARCHING = true ∧ 3 ≤ s.tsy.searchCycles ∧ s.b F.TSY_CFG_MASTER_OK = false) ∧
    (∃ (payload : List Byte), (payload.getD 1 0).toNat.testBit 0 = true) :=
  ⟨⟨fo, [0,0x1b,0,0,0x85], 0, (-20), [1], by decide +kernel⟩,
   ⟨{fo with cb1 := {fo.cb1 with lastRef := some 7}}, [0,0x1a,0,0,0x85], 3, [1], 7, by decide +kernel⟩,
   ⟨fo, by decide +kernel⟩,
   ⟨(fo.p F.TSY_STAT_MISSRUN 1), by decide +kernel⟩,
   ⟨{fo.p F.TSY_STAT_SEARCHING 1 with tsy := {fo.tsy with searchCycles := 3}}, by decide +kernel⟩,
   ⟨[0,0x1b,0,0,0x85], by decide +kernel⟩⟩

theorem witness_groupFrames :
    (∃ (s : State), s.canLive = true ∧ s.power = .run ∧ s.b F.GRP_CFG_EN = true ∧ s.cb1.groupKey.isSome = true) ∧
    (∃ (s : State) (fresh : Nat), GroupFresh s fresh ∧ s.leadsTime = false) ∧
    (∃ (s : State) (fresh : Nat), GroupFresh s fresh) ∧
    (∃ (s : State) (station : Fin 8), s.b (F.GRP_PEER_PRESENT station.val) = true ∧ s.group ≠ .leader) ∧
    (∃ (s : State) (fresh : Nat) (payload : List Byte) (rec : Nat), GroupFresh s fresh ∧ s.group = .member ∧ payload.getD 1 0 = 1 ∧ rec = leAt payload 2 4 ∧ rec.testBit 14 = false) ∧
    (∃ (s : State) (station : Fin 8) (fresh : Nat) (payload : List Byte) (rec : Nat) (e : Nat), GroupFresh s fresh ∧ s.group = .member ∧ station.val = s.g F.GRP_STAT_LEADER ∧ payload.getD 1 0 = 1 ∧ rec = leAt payload 2 3 ∧ s.findCall (rec % 4) (rec / 4 % 64) (rec / 256 % 64) = some e ∧ 1 ≤ rec / 2 ^ 17 % 4) ∧
    (∃ (s : State) (station : Fin 8) (fresh : Nat), GroupFresh s fresh ∧ s.grouped = true ∧ station.val ≠ s.g F.GRP_STAT_LEADER) :=
  ⟨⟨gr, by decide +kernel⟩,
   ⟨gr, 0, by delta GroupFresh; decide +kernel⟩,
   ⟨gr, 0, by delta GroupFresh; decide +kernel⟩,
   ⟨((((gr.p F.GRP_CFG_MEMBERS 1).p F.TSY_STAT_SYNC 1).p F.MOD_CUR_GROUP 2).p (F.GRP_PEER_PRESENT 1) 1), 1, by decide +kernel⟩,
   ⟨mem, 0, [0,1,5,0,9,0], 0x090005, by delta GroupFresh; decide +kernel⟩,
   ⟨(mem.p F.GRP_STAT_LEADER 1), 1, 0, [0,1,5,0x40,0x04,0], 0x044005, 4, by delta GroupFresh; decide +kernel⟩,
   ⟨((((gr.p F.GRP_CFG_MEMBERS 1).p F.TSY_STAT_SYNC 1).p F.MOD_CUR_GROUP 2).p (F.GRP_PEER_PRESENT 1) 1), 1, 0, by delta GroupFresh; decide +kernel⟩⟩

end WitnessF5

namespace WitnessG1

def rs : State := (((base.p F.RST_COUNT_WARM 7).p F.PWR_BTIME_S 99).p F.KEY_ROOT_PRESENT 1).p (F.KEY_POL_VALID 3) 1
def lk : State := (rs.p F.CLK_STAT_PLL_LOCK 0)
def pl (b w : Bool) : State := {lk with wake := {lk.wake with pllStarted := true, bootPending := b, waking := w, watch := w, recorded := [3,5]}}
def be : BootEnv := { keeper := ⟨.first,false⟩, microcodeOk := true, training := ⟨0,.first,0⟩, appletsOk := [] }
def fen : FieldEnv := { linkUp := true, table := ⟨.first,true⟩, transferOk := true }
def bf1 : State := {fieldUp ((rs.p F.RST_BOOT_STEP 8).p F.RST_BOOT_FSTEP 0) with fuse := {rs.fuse with fuseP := true}}

theorem witness_resetCommands :
    (∃ (s : State) (acc : Accessor), SequenceAt s acc 1 3 1 []) ∧
    (∃ (s : State) (acc : Accessor), SequenceAt s acc 7 3 2 []) :=
  ⟨⟨(arm rs 3 1 2 []), .keeper, by delta SequenceAt; delta MayWrite; decide +kernel⟩,
   ⟨(arm rs 3 2 2 []), .keeper, by delta SequenceAt; delta MayWrite; decide +kernel⟩⟩

theorem witness_boot :
    (∃ (s : State), (s.wake.inReset = false ∧ s.wake.pllStarted = true ∧ s.b F.CLK_STAT_PLL_LOCK = false) ∧ s.wake.bootPending = false ∧ s.wake.waking = false) ∧
    (∃ (s : State) (env : BootEnv), (s.wake.inReset = false ∧ s.wake.pllStarted = true ∧ s.b F.CLK_STAT_PLL_LOCK = false) ∧ s.wake.bootPending = true ∧ env.keeper.read = .first ∧ env.keeper.signatureOk = false ∧ s.g F.RST_BOOT_FAIL_AT = 0) ∧
    (∃ (s : State) (env : BootEnv), (s.wake.inReset = false ∧ s.wake.pllStarted = true ∧ s.b F.CLK_STAT_PLL_LOCK = false) ∧ s.wake.bootPending = true ∧ env.keeper.read = .first ∧ env.keeper.signatureOk = true ∧
      s.nvm.keeperValid = true ∧ s.fuse.keeperFloor ≤ s.nvm.keeperVersion) ∧
    (∃ (s : State), (s.wake.inReset = false ∧ s.wake.pllStarted = true ∧ s.b F.CLK_STAT_PLL_LOCK = false) ∧ s.wake.bootPending = false ∧ s.wake.waking = true) ∧
    (∃ (s : State) (field : FieldEnv), s.canLive = true ∧ 4 ≤ s.g F.RST_BOOT_STEP ∧ s.g F.RST_BOOT_FSTEP = 0 ∧ field.linkUp = true ∧ s.cpc.viso = true ∧ s.fuse.life ≠ .blank ∧ s.nvm.table = none ∧ s.g F.RST_BOOT_FAIL_AT = 0) ∧
    (∃ (s : State) (field : FieldEnv) (img : List Byte), s.canLive = true ∧ 4 ≤ s.g F.RST_BOOT_STEP ∧ s.g F.RST_BOOT_FSTEP = 0 ∧ field.linkUp = true ∧ s.cpc.viso = true ∧ s.fuse.life.dead = false ∧ s.nvm.table = some img ∧ field.table = ⟨.first, true⟩ ∧ field.transferOk = true ∧ s.slotValid 96 = true) :=
  ⟨⟨(pl false false), by decide +kernel⟩,
   ⟨(pl true false), be, by decide +kernel⟩,
   ⟨{ pl true false with nvm := { (pl true false).nvm with keeperValid := true, keeperVersion := 9 } }, { be with keeper := ⟨.first,true⟩ }, by decide +kernel⟩,
   ⟨(pl false true), by decide +kernel⟩,
   ⟨bf1, fen, by decide +kernel⟩,
   ⟨({bf1.p (F.KEY_POL_VALID 96) 1 with nvm := {bf1.nvm with table := some ([3, 5])}}), fen, ([3, 5]), by decide +kernel⟩⟩

theorem witness_outputPads :
    (∃ (s : State), s.wake.inReset = false ∨ s.g F.RST_CAUSE_TYPE ≠ 2) ∧ (∃ (s : State), s.wake.inReset = false) ∧
    (∃ (s : State), s.wake.inReset = false ∧ s.wake.pllStarted = true ∧ s.b F.CLK_STAT_PLL_LOCK = false ∧ s.wake.watch = false) ∧
    (∃ (s : State), s.wake.inReset = false ∧ s.wake.pllStarted = true ∧ s.b F.CLK_STAT_PLL_LOCK = false ∧ s.wake.watch = true ∧ s.wake.bootPending = false ∧ s.wake.waking = true) :=
  ⟨⟨rs, by decide +kernel⟩, ⟨rs, by decide +kernel⟩, ⟨pl true false, by decide +kernel⟩, ⟨pl false true, by decide +kernel⟩⟩

theorem witness_resets :
    (∃ (s : State), s.wake.inReset = false ∨ s.g F.RST_CAUSE_TYPE ≠ 2) ∧
    (∃ (s : State), s.wake.inReset = true ∧ s.g F.RST_CAUSE_TYPE = 2) ∧
    (∃ (s : State), s.wake.inReset = true ∧ s.power ≠ .batteryHold) ∧
    (∃ (s : State), s.wake.inReset = false) ∧
    (∃ (s : State), s.wake.inReset = false ∧ s.wake.pllStarted = true ∧ s.b F.CLK_STAT_PLL_LOCK = false) ∧
    (∃ (s : State), s.canLive = true) :=
  ⟨⟨rs, by decide +kernel⟩, ⟨{rs.p F.RST_CAUSE_TYPE 2 with wake := {rs.wake with inReset := true}}, by decide +kernel⟩,
   ⟨{rs with wake := {rs.wake with inReset := true}}, by decide +kernel⟩,
   ⟨rs, by decide +kernel⟩,
   ⟨(pl false false), by decide +kernel⟩,
   ⟨rs, by decide +kernel⟩⟩

end WitnessG1

namespace WitnessG2

def tr : Training := ⟨0,.first,0⟩
def sp : State := (base.p F.PWR_STAT_VDDQ_OK 1).p F.PWR_STAT_PCIE_OK 1
def oos : State := {base with fuse := {base.fuse with fuseP := true}}
def mi : ModeInput := { active := false, level := true, frames := 9 }
def wt : State := {oos with wake := {oos.wake with watch := true, timerArmed := true}}
def mi2 : ModeInput := { active := false, level := true, frames := 255 }

theorem witness_supplies :
    (∃ (s : State), s.b F.PWR_STAT_VDDQ_OK = true) ∧
    (∃ (s : State), s.b F.PWR_STAT_VDDQ_OK = false ∧ s.b F.SYS_STAT_FENCE_UP = false ∧ s.emc.scrubOwed = false) ∧
    (∃ (s : State) (training : Training), s.b F.PWR_STAT_VDDQ_OK = false ∧ s.b F.SYS_STAT_FENCE_UP = true ∧ s.emc.scrubOwed = false ∧ deviceMib training.density ≠ 0 ∧ training.density < 8 ∧ training.attempts = .first ∧ (s.tenancy = .molting ∨ s.bat.opRoot = none)) ∧
    (∃ (s : State) (training : Training) (root : Nat), s.b F.PWR_STAT_VDDQ_OK = false ∧ s.b F.SYS_STAT_FENCE_UP = true ∧ s.emc.scrubOwed = false ∧
      deviceMib training.density ≠ 0 ∧ training.attempts = .first ∧ s.tenancy ≠ .molting ∧ s.bat.opRoot = some root ∧ s.bat.rootFailing = []) ∧
    (∃ (s : State), s.b F.PWR_STAT_PCIE_OK = true) ∧
    (∃ (s : State), s.b F.PWR_STAT_PCIE_OK = false) ∧
    (∃ (s : State), s.b F.PWR_STAT_VBAT_LOW = false) ∧
    (∃ (s : State), s.canLive = true) ∧
    (∃ (s : State) (a : Nat) (b : Nat), s.canLive = true ∧ a < 65536 ∧ b < 65536) :=
  ⟨⟨(sp.p F.PCI_LINK_UP 1), by decide +kernel⟩,
   ⟨((base.p F.PWR_STAT_VDDQ_OK 0).p F.PWR_STAT_PCIE_OK 0), by decide +kernel⟩,
   ⟨((base.p F.PWR_STAT_VDDQ_OK 0).p F.SYS_STAT_FENCE_UP 1), ⟨2,.first,0⟩, by decide +kernel⟩,
   ⟨{ (base.p F.PWR_STAT_VDDQ_OK 0).p F.SYS_STAT_FENCE_UP 1 with bat := { base.bat with opRoot := some 7 } }, ⟨2,.first,0⟩, 7, by decide +kernel⟩,
   ⟨(sp.p F.PCI_LINK_UP 1), by decide +kernel⟩,
   ⟨((base.p F.PWR_STAT_VDDQ_OK 0).p F.PWR_STAT_PCIE_OK 0), by decide +kernel⟩,
   ⟨(sp.p F.PCI_LINK_UP 1), by decide +kernel⟩,
   ⟨(sp.p F.PCI_LINK_UP 1), by decide +kernel⟩,
   ⟨(sp.p F.PCI_LINK_UP 1), 3010, 24007, by decide +kernel⟩⟩

theorem witness_liftModeByRank : ∃ (s : State), s.canLive = true ∧ 3 ∉ s.mod.held ∧ 3 ∉ s.mod.fresh ∧ s.b F.DBG_STAT_PENDING = false :=
  ⟨oos, by decide +kernel⟩

theorem witness_modeRequests :
    (∃ (s : State) (acc : Accessor) (index : Fin 11) (value : Byte), MayWrite s acc 2 8 ∧ index.val ∉ [1, 2, 8, 9] ∧ value ≠ 0xff) ∧
    (∃ (s : State) (acc : Accessor) (index : Fin 11), MayWrite s acc 2 8 ∧ index.val ∈ [1, 2, 8, 9]) ∧
    (∃ (s : State) (acc : Accessor) (index : Fin 11), MayWrite s acc 2 8 ∧ index.val ∉ [1, 2, 8, 9] ∧ index.val ∈ s.mod.held) ∧
    (∃ (s : State) (input : Fin 8) (m : ModeInput), s.mod.inputs[input.val]? = some m ∧ max 1 (s.g F.MOD_CFG_IN_STABLE) ≤ m.frames ∧ m.active ≠ m.level) ∧
    (∃ (s : State), s.canLive = true ∧ s.lift = .secureDegraded ∧ s.rescueActive = false ∧ s.inputOn 5 = false ∧ s.mod.positionLost = false ∧ 3 ∉ s.mod.held ∧ 3 ∉ s.mod.fresh ∧ s.mod.keysAbsent = true ∧ (s.bat.zeroized = true ∨ s.bat.lock = true)) :=
  ⟨⟨{oos with mod := {oos.mod with inputs := oos.mod.inputs.set 3 mi, held := [4]}}, .keeper, 4, 2, by delta MayWrite; decide +kernel⟩,
   ⟨{oos with mod := {oos.mod with inputs := oos.mod.inputs.set 3 mi, held := [4]}}, .keeper, 9, by delta MayWrite; decide +kernel⟩,
   ⟨{oos with mod := {oos.mod with inputs := oos.mod.inputs.set 3 mi, held := [4]}}, .keeper, 4, by delta MayWrite; decide +kernel⟩,
   ⟨{oos with mod := {oos.mod with inputs := oos.mod.inputs.set 3 mi2, held := [4]}}, 3, mi2, by decide +kernel⟩,
   ⟨{oos.p F.MOD_CUR_LIFT 9 with bat := {oos.bat with lock := true}, mod := {oos.mod with positionLost := false, keysAbsent := true}}, by decide +kernel⟩⟩

theorem witness_fireflyWakes :
    (∃ (s : State) (n : Nat), s.wake.watch = true ∧ s.watched n = true ∧ n ∉ s.wake.recorded) ∧
    (∃ (s : State) (n : Nat), s.wake.watch = true ∧ s.watched n = false) ∧
    (∃ (s : State), s.wake.watch = true ∧ s.wake.timerArmed = true ∧ s.watched 3 = true ∧ 3 ∉ s.wake.recorded) :=
  ⟨⟨((wt.p (F.FFY_SLOT_EN 0) 1).p (F.FFY_SLOT_SRC 0) 13), 13, by decide +kernel⟩,
   ⟨wt, 3, by decide +kernel⟩,
   ⟨((wt.p (F.FFY_SLOT_EN 0) 1).p (F.FFY_SLOT_SRC 0) 3), by decide +kernel⟩⟩

end WitnessG2

namespace WitnessH1

def q1 (n : Nat) (en : Nat) : State := { (base.p ⟨(F.ICU_SRCCFG_BYTES (n/8)).key, 8*(n%8), 8⟩ en) with icu := {base.icu with queue := [n, 20, 5]}}
def q2 (g : Nat) : State := let s := (q1 130 0x99).p (F.ICU_GSTAT_RUNNING g) 1; {s with icu := {s.icu with pend0 := 0xff0 ||| srcAdd 0 130, pend1 := srcAdd 0 130, msixPending := true, msixMasked := true}}
def q3 : State := let s := (base.p F.ICU_STAT_T1GATE 1); {s with icu := {s.icu with pend0 := 0xff0, rel0 := 0xffff, insv0 := 0x800, pend1 := 0xf000, rel1 := 0x7000, line1 := true, msixPending := true, msixMasked := true, msixEnabled := true}}
def lg : State := (((base.p F.LOG_BAD_BAD 0x8).p F.LOG_SAT_SAT 0xff).p (F.LOG_CLASS_COUNT 3) 9).p (F.LOG_CLASS_COUNT 4) 9

theorem witness_intakeAndGroups :
    (∃ (s : State) (n : Nat) (rest : List Nat), s.icu.arriving = [] ∧ s.wake.watch = false ∧ s.icu.queue = n :: rest ∧ sourceAssigned n = true) ∧
    (∃ (s : State) (n : Nat) (rest : List Nat), s.icu.arriving = [] ∧ s.wake.watch = false ∧ s.icu.queue = n :: rest ∧ sourceAssigned n = false) ∧
    (∃ (s : State) (grp : Fin 16), s.icu.arriving = [] ∧ s.wake.watch = false ∧ s.b (F.ICU_GSTAT_RUNNING grp.val) = true ∧ s.groupTime grp.val ≤ s.g (F.ICU_GSTAT_ELAPSED grp.val)) ∧
    (∃ (s : State), s.icu.arriving = [] ∧ s.icu.line1 = s.requestLine true) :=
  ⟨⟨(q1 130 0x99), 130, [20,5], by decide +kernel⟩,
   ⟨(q1 29 0x99), 29, [20,5], by decide +kernel⟩,
   ⟨((q2 1).p (F.ICU_GSTAT_ELAPSED 1) ((q2 1).groupTime 1)), 1, by decide +kernel⟩,
   ⟨(q1 130 0x99), by decide +kernel⟩⟩

theorem witness_routing :
    (∃ (s : State) (acc : Accessor) (grp : Fin 16), s.icu.arriving = [] ∧ MayWrite s acc (if grp.val < 8 then 7 else 2) 5) ∧
    (∃ (s : State) (acc : Accessor), s.icu.arriving = [] ∧ MayWrite s acc 2 5) :=
  ⟨⟨(q2 9), .keeper, 9, by delta MayWrite; decide +kernel⟩,
   ⟨(q2 9), .keeper, by delta MayWrite; decide +kernel⟩⟩

theorem witness_claimsAndCompletes :
    (∃ (s : State), s.icu.arriving = [] ∧ s.clocked = true ∧ s.mayRead .keeper 7 5 = true) ∧
    (∃ (s : State), s.icu.arriving = [] ∧ s.clocked = true ∧ s.mayRead .host 0 5 = true) ∧
    (∃ (s : State) (acc : Accessor), s.icu.arriving = [] ∧ s.clocked = true ∧ s.mayRead acc 0 5 = true ∧ acc ≠ .host) ∧
    (∃ (s : State) (acc : Accessor) (source : Nat), s.icu.arriving = [] ∧ s.clocked = true ∧ MayWrite s acc 7 5 ∧ source < 512) ∧
    (∃ (s : State) (acc : Accessor) (source : Nat), s.icu.arriving = [] ∧ s.clocked = true ∧ MayWrite s acc 2 5 ∧ source < 512) :=
  ⟨⟨q3, by decide +kernel⟩,
   ⟨q3, by decide +kernel⟩,
   ⟨q3, .keeper, by decide +kernel⟩,
   ⟨q3, .keeper, 11, by delta MayWrite; decide +kernel⟩,
   ⟨q3, .keeper, 11, by delta MayWrite; decide +kernel⟩⟩

theorem witness_logClearsAndLabel :
    (∃ (s : State) (acc : Accessor), MayWrite s acc 5 4 ∧ s.icu.arriving = [] ∧ s.logUpsets = []) ∧
    (∃ (s : State) (acc : Accessor) (c : Nat), MayWrite s acc 5 4 ∧ s.icu.arriving = [] ∧ s.logUpsets = [] ∧ c < 64 ∧ c ≠ 45 ∧ s.isBadClass c = false) ∧
    (∃ (s : State) (acc : Accessor), MayWrite s acc 5 4 ∧ s.icu.arriving = []) ∧
    (∃ (s : State) (acc : Accessor) (v0 : Word), SequenceAt s acc 1 0 1 [(0x90, v0)]) :=
  ⟨⟨(lg.p F.LOG_SELF_COUNT 4), .keeper, by delta MayWrite; decide +kernel⟩,
   ⟨(lg.p F.LOG_SELF_COUNT 4), .keeper, 9, by delta MayWrite; decide +kernel⟩,
   ⟨(lg.p F.LOG_SELF_COUNT 4), .keeper, by delta MayWrite; decide +kernel⟩,
   ⟨(arm base 0 1 2 [(0x90, 7)]), .keeper, 7, by delta SequenceAt; delta MayWrite; decide +kernel⟩⟩

end WitnessH1

namespace WitnessK1

def kb : State := let s := ((base.p F.SYS_STAT_FENCE_UP 1).p (F.DOR_CFG_EN 0) 1).p (F.CB_JOB_STAT_KEYED 0 3) 1; {s with cb0 := {s.cb0 with keys := [⟨3,[],[],false,1⟩]}, key := {s.key with eph := s.key.eph.set 2 (some ⟨true,[1]⟩), slots := [(2,⟨[1],[]⟩),(70,⟨[1],[]⟩),(81,⟨[2],[]⟩)]}}
def kk (s : State) : State := (((((s.p (F.KEY_POL_VALID 2) 1).p (F.KEY_POL_VALID 70) 1).p (F.KEY_POL_VALID 81) 1).p (F.KEY_POL_TYPE 81) 2).p F.PKG_STAT_LOADING 1)
def kl (l : Nat) := (kk kb).p F.TMP_LEVEL_LEVEL l
def lk : State := {kb with bat := {kb.bat with lock := true}}
def kz : State := {kl 0 with fuse := {base.fuse with tmpFloor := 0}}

theorem witness_fenceLink :
    (∃ (s : State), s.b F.SYS_STAT_FENCE_UP = true) ∧
    (∃ (s : State), s.b F.SYS_STAT_FENCE_UP = true ∧ s.wake.inReset = false ∧ s.tmpLevel 9 = 0) ∧
    (∃ (s : State), s.b F.SYS_STAT_FENCE_UP = true ∧ s.wake.inReset = false ∧ s.tmpLevel 9 = 1 ∧ s.bat.lock = false) :=
  ⟨⟨(kk kb), by decide +kernel⟩,
   ⟨kz, by decide +kernel⟩,
   ⟨(kk kb), by decide +kernel⟩⟩

theorem witness_tamperAnomalies :
    (∃ (s : State) (sensors : BitVec 11), newAnomalies s sensors ≠ 0 ∧ s.wake.inReset = false ∧ (∀ i < 11, (newAnomalies s sensors).testBit i → s.tmpLevel i = 0)) ∧
    (∃ (s : State) (sensors : BitVec 11), newAnomalies s sensors = 0) ∧
    (∃ (s : State) (sensors : BitVec 11), s.wake.inReset = false ∧ s.bat.lock = false ∧ (∃ i < 11, (newAnomalies s sensors).testBit i ∧ s.tmpLevel i = 1) ∧ (∀ i < 11, (newAnomalies s sensors).testBit i → s.tmpLevel i < 2)) ∧
    (∃ (s : State) (sensors : BitVec 11), s.wake.inReset = false ∧ s.wake.watch = false ∧ (∃ i < 11, (newAnomalies s sensors).testBit i ∧ s.tmpLevel i = 2)) ∧
    (∃ (s : State) (sensors : BitVec 11), s.wake.inReset = true ∧ (∃ i < 11, (newAnomalies s sensors).testBit i ∧ s.tmpLevel i = 2)) :=
  ⟨⟨kz, 0x4a, by decide +kernel⟩,
   ⟨(kk kb), 0, by decide +kernel⟩,
   ⟨(kk kb), 0x4a, by decide +kernel⟩,
   ⟨(kl 0x80), 0x4a, by decide +kernel⟩,
   ⟨{kl 0x80 with wake := {base.wake with inReset := true}}, 0xa, by decide +kernel⟩⟩

theorem witness_tamperRegisters :
    (∃ (s : State) (acc : Accessor), MayWrite s acc 9 0x33) ∧
    (∃ (s : State) (acc : Accessor), MayWrite s acc 9 0x33 ∧ s.bat.lock = true ∧ s.lockStands = true) ∧
    (∃ (s : State) (acc : Accessor), MayWrite s acc 9 0x33 ∧ s.bat.lock = true ∧ s.lockStands = false ∧ s.bat.molting = false ∧ (s.bat.zeroized = true ∨ s.tenancy = .molting)) ∧
    (∃ (s : State) (acc : Accessor), MayWrite s acc 9 0x33 ∧ s.bat.lock = true ∧ s.lockStands = false ∧ s.bat.zeroized = false ∧ s.tenancy ≠ .molting ∧ s.bat.opRoot ≠ none ∧ s.bat.rootFailing = []) ∧
    (∃ (s : State), s.wake.inReset = false) :=
  ⟨⟨lk, .keeper, by delta MayWrite; decide +kernel⟩,
   ⟨((lk.p F.TMP_LEVEL_LEVEL 4).p F.TMP_STAT_ACTIVE 2), .keeper, by delta MayWrite; decide +kernel⟩,
   ⟨({lk with fuse := {lk.fuse with tmpFloor := 0x2a5}, bat := {lk.bat with zeroized := true}}), .keeper, by delta MayWrite; decide +kernel⟩,
   ⟨{lk with bat := {lk.bat with opRoot := some 3}}, .keeper, by delta MayWrite; decide +kernel⟩,
   ⟨lk, by decide +kernel⟩⟩

theorem witness_karpexRegisters :
    (∃ (s : State) (acc : Accessor), MayWrite s acc 9 0x30) ∧
    (∃ (s : State) (acc : Accessor), MayWrite s acc 9 0x30 ∧ s.core.nvm = none) ∧
    (∃ (s : State) (a : Nat) (w : Word), s.core.nvm = some (1, a, w)) ∧
    (∃ (s : State) (a : Nat) (w : Word), s.core.nvm = some (2, a, w)) ∧
    (∃ (s : State) (acc : Accessor) (i : Fin 32), MayWrite s acc 9 0x32 ∧ s.ctr i.val < 0xffffffff) ∧
    (∃ (s : State) (acc : Accessor) (i : Fin 32), MayWrite s acc 9 0x32 ∧ s.ctr i.val = 0xffffffff) ∧
    (∃ (s : State) (acc : Accessor) (i : Fin 32) (v : BitVec 32), MayWrite s acc 9 0x32 ∧ s.ctr i.val < v.toNat) ∧
    (∃ (s : State) (acc : Accessor) (i : Fin 32) (v : BitVec 32), MayWrite s acc 9 0x32 ∧ v.toNat ≤ s.ctr i.val) :=
  ⟨⟨(kb.p (F.CTR_VAL_VALUE 5) 77), .keeper, by delta MayWrite; decide +kernel⟩,
   ⟨(kb.p (F.CTR_VAL_VALUE 5) 77), .keeper, by delta MayWrite; decide +kernel⟩,
   ⟨{kb with core := {kb.core with nvm := some (1, 0x1238, 0x1122334455667788)}}, 0x1238, 0x1122334455667788, by decide +kernel⟩,
   ⟨{kb with core := {kb.core with nvm := some (2, 0x1238, 0x1122334455667788)}}, 0x1238, 0x1122334455667788, by decide +kernel⟩,
   ⟨(kb.p (F.CTR_VAL_VALUE 5) 77), .keeper, 5, by delta MayWrite; decide +kernel⟩,
   ⟨(kb.p (F.CTR_VAL_VALUE 5) 0xffffffff), .keeper, 5, by delta MayWrite; decide +kernel⟩,
   ⟨(kb.p (F.CTR_VAL_VALUE 5) 77), .keeper, 5, 99, by delta MayWrite; decide +kernel⟩,
   ⟨(kb.p (F.CTR_VAL_VALUE 5) 0xffffffff), .keeper, 5, 99, by delta MayWrite; decide +kernel⟩⟩

end WitnessK1

namespace WitnessK2

def seq1 (x : State) (a b : Word) : State := arm x 0x31 1 2 [(0x88,a),(0x90,b)]
def ok : KeyCheck := ⟨true,true,true,true⟩
def g0 : State := let s := ((base.p F.KEY_ROOT_PRESENT 1).p F.KEY_STAT_BAD_ANY 0); {s with key := {s.key with handles := [], slots := [(2,⟨[1],[]⟩),(70,⟨[1],[true,true]⟩),(80,⟨[2],[]⟩)]}}
def gk : State := ((g0.p (F.KEY_POL_VALID 2) 1).p (F.KEY_POL_VALID 70) 1).p (F.KEY_POL_VALID 80) 1
def blob (slot typ uses seq : Nat) : List Byte := leBytes 4 0x4d494b51 ++ leBytes 1 slot ++ leBytes 1 typ ++ leBytes 2 uses ++ leBytes 1 0 ++ leBytes 4 seq ++ List.replicate 115 0 ++ List.replicate 220 7
def ib (b : List Byte) : State := (seq1 gk 0x20000000 0x30020).putBytes 0x20000000 b
def gd : State := let s := seq1 (gk.p (F.KEY_POL_USES 2) 0x20) 0 0; {s with bat := {s.bat with opRoot := some 4}}
def gc : State := {(gd.p (F.KEY_POL_VALID 99) 1) with bat := {gd.bat with zeroized := true}}

theorem witness_slotCommands :
    (∃ (s : State) (acc : Accessor) (slot : Byte) (check : KeyCheck) (src : Word) (pol : Word), KeySequence s acc src pol ∧ slotClass slot.toNat = 0 ∧ usesOk (pol.toNat / 64 % 4) (pol.toNat / 65536 % 1024) = true ∧ (pol.toNat / 64 % 4 = 2 ∨ s.b F.KEY_ROOT_PRESENT = true) ∧ s.b (F.KEY_POL_BAD slot.toNat) = false ∧ (slot.toNat < 64 ∨ check.programOk = true)) ∧
    (∃ (s : State) (acc : Accessor) (slot : Byte) (src : Word) (pol : Word), KeySequence s acc src pol ∧ (slotClass slot.toNat ≠ 0 ∨ usesOk (pol.toNat / 64 % 4) (pol.toNat / 65536 % 1024) = false)) ∧
    (∃ (s : State) (acc : Accessor) (slot : Byte) (check : KeyCheck) (src : Word) (pol : Word), KeySequence s acc src pol ∧ (slot.toNat < 64 ∨ check.programOk = true)) ∧
    (∃ (s : State) (acc : Accessor) (slot : Byte) (src : Word) (pol : Word) (k : KeySlot), KeySequence s acc src pol ∧ s.slotValid slot.toNat = true ∧ s.slotOf slot.toNat = { k with failing := [] }) ∧
    (∃ (s : State) (acc : Accessor) (slot : Byte) (src : Word) (pol : Word) (k : KeySlot) (rest : List Bool), KeySequence s acc src pol ∧ s.slotValid slot.toNat = true ∧ s.slotOf slot.toNat = { k with failing := true :: true :: rest }) :=
  ⟨⟨(seq1 gk 0x20000000 0x2080060), .keeper, 2, ok, 0x20000000, 0x2080060, by delta KeySequence; delta SequenceAt; delta MayWrite; decide +kernel⟩,
   ⟨(seq1 gk 0x20000000 0x300a0), .keeper, 2, 0x20000000, 0x300a0, by delta KeySequence; delta SequenceAt; delta MayWrite; decide +kernel⟩,
   ⟨(seq1 gk 0x20000000 0x300a0), .keeper, 2, ok, 0x20000000, 0x300a0, by delta KeySequence; delta SequenceAt; delta MayWrite; decide +kernel⟩,
   ⟨(seq1 gk 0x20000000 0x300a0), .keeper, 2, 0x20000000, 0x300a0, ⟨[1],[]⟩, by delta KeySequence; delta SequenceAt; delta MayWrite; decide +kernel⟩,
   ⟨(seq1 gk 0x20000000 0x30020), .keeper, 70, 0x20000000, 0x30020, ⟨[1],[]⟩, [], by delta KeySequence; delta SequenceAt; delta MayWrite; decide +kernel⟩⟩

theorem witness_imports :
    (∃ (s : State) (acc : Accessor) (check : KeyCheck) (src : Word) (pol : Word) (au : Nat × Nat), KeySequence s acc src pol ∧ impAuthority (impSlot (s.bytes (src.toNat % 2 ^ 32) 352)) = some au ∧ s.slotValid au.1 = true ∧ (s.slotOf au.1).failing = [] ∧ s.bat.rootFailing = [] ∧ s.bat.opRoot.isSome = true ∧ s.impCause (s.bytes (src.toNat % 2 ^ 32) 352) check true = none) ∧
    (∃ (s : State) (acc : Accessor) (src : Word) (pol : Word), KeySequence s acc src pol ∧ s.bat.lock = true) ∧
    (∃ (s : State) (acc : Accessor) (src : Word) (pol : Word), KeySequence s acc src pol ∧ s.bat.lock = false ∧ impFieldsOk (s.bytes (src.toNat % 2 ^ 32) 352) = false) ∧
    (∃ (s : State) (acc : Accessor) (check : KeyCheck) (src : Word) (pol : Word) (au : Nat × Nat), KeySequence s acc src pol ∧ s.bat.lock = false ∧ impFieldsOk (s.bytes (src.toNat % 2 ^ 32) 352) = true ∧ (impType (s.bytes (src.toNat % 2 ^ 32) 352) = 2 ∨ impType (s.bytes (src.toNat % 2 ^ 32) 352) = 0xff) ∧ impAuthority (impSlot (s.bytes (src.toNat % 2 ^ 32) 352)) = some au ∧ s.slotValid au.1 = true ∧ (s.slotOf au.1).failing = [] ∧ (check.signatureOk = false ∨ impSeq (s.bytes (src.toNat % 2 ^ 32) 352) ≤ s.ctr au.2)) :=
  ⟨⟨{ib (blob 9 2 0x100 9) with bat := {gk.bat with opRoot := some 1}}, .keeper, ok, 0x20000000, 0x30020, (80,8), by delta KeySequence; delta SequenceAt; delta MayWrite; decide +kernel⟩,
   ⟨{ib (blob 9 0 0x3 9) with bat := {gk.bat with lock := true}}, .keeper, 0x20000000, 0x30020, by delta KeySequence; delta SequenceAt; delta MayWrite; decide +kernel⟩,
   ⟨{ib (List.replicate 352 5) with bat := {gk.bat with opRoot := some 1}}, .keeper, 0x20000000, 0x30020, by delta KeySequence; delta SequenceAt; delta MayWrite; decide +kernel⟩,
   ⟨{ib (blob 9 2 0x100 9) with bat := {gk.bat with opRoot := some 1}}, .keeper, ⟨false,true,true,true⟩, 0x20000000, 0x30020, (80,8), by delta KeySequence; delta SequenceAt; delta MayWrite; decide +kernel⟩⟩

theorem witness_rootsAndDelivery :
    (∃ (s : State) (acc : Accessor) (src : Word) (pol : Word), KeySequence s acc src pol ∧ s.bat.lock = true) ∧
    (∃ (s : State) (acc : Accessor) (src : Word) (pol : Word), KeySequence s acc src pol ∧ s.bat.lock = false ∧ s.tenancy = .molting) ∧
    (∃ (s : State) (acc : Accessor) (slot : Byte) (arg : BitVec 16) (src : Word) (pol : Word), KeySequence s acc src pol ∧ s.bat.lock = false ∧ s.tenancy ≠ .molting ∧ s.bat.zeroized = false ∧ s.slotValid slot.toNat = true ∧ (s.g (F.KEY_POL_USES slot.toNat)).testBit 5 = true ∧ (s.slotOf slot.toNat).failing = [] ∧ jobNumberOk arg.toNat = true ∧ s.bat.rootFailing = [] ∧ s.bat.opRoot.isSome = true) ∧
    (∃ (s : State) (acc : Accessor) (check : KeyCheck) (src : Word) (pol : Word), KeySequence s acc src pol ∧ (s.fuse.life = .blank ∨ s.bat.zeroized = true) ∧ s.b F.KEY_ROOT_PRESENT = false ∧ check.programOk = true) ∧
    (∃ (s : State) (acc : Accessor) (src : Word) (pol : Word), KeySequence s acc src pol ∧ s.bat.zeroized = true ∧ s.b F.KEY_ROOT_PRESENT = true ∧ s.commitReady = true ∧ s.bat.molting = false ∧ s.bat.rootFailing = [] ∧ s.bat.opRoot.isSome = true) ∧
    (∃ (s : State) (acc : Accessor) (src : Word) (pol : Word), KeySequence s acc src pol ∧ s.bat.zeroized = true ∧ s.b F.KEY_ROOT_PRESENT = true ∧ s.commitReady = false) :=
  ⟨⟨{gc with bat := {gc.bat with lock := true}}, .keeper, 0, 0, by delta KeySequence; delta SequenceAt; delta MayWrite; decide +kernel⟩,
   ⟨gd.p F.MOD_CUR_TENANCY 2, .keeper, 0, 0, by delta KeySequence; delta SequenceAt; delta MayWrite; decide +kernel⟩,
   ⟨gd, .keeper, 2, 3, 0, 0, by delta KeySequence; delta SequenceAt; delta MayWrite; decide +kernel⟩,
   ⟨(gd.p F.KEY_ROOT_PRESENT 0), .keeper, ok, 0, 0, by delta KeySequence; delta SequenceAt; delta MayWrite; decide +kernel⟩,
   ⟨gc, .keeper, 0, 0, by delta KeySequence; delta SequenceAt; delta MayWrite; decide +kernel⟩,
   ⟨(gc.p (F.KEY_POL_VALID 99) 0), .keeper, 0, 0, by delta KeySequence; delta SequenceAt; delta MayWrite; decide +kernel⟩⟩

theorem witness_fuseCommands :
    (∃ (s : State) (acc : Accessor) (arg : BitVec 16) (check : KeyCheck) (src : Word) (pol : Word), KeySequence s acc src pol ∧ arg.toNat < 3 ∧ s.lifeReady arg.toNat check = true ∧ check.programOk = true) ∧
    (∃ (s : State) (acc : Accessor) (arg : BitVec 16) (check : KeyCheck) (src : Word) (pol : Word), KeySequence s acc src pol ∧ arg.toNat = 3 ∧ s.fuse.life ≠ .returned ∧ check.programOk = true) ∧
    (∃ (s : State) (acc : Accessor) (arg : BitVec 16) (check : KeyCheck) (src : Word) (pol : Word), KeySequence s acc src pol ∧ s.lifeReady arg.toNat check = false) ∧
    (∃ (s : State) (acc : Accessor) (arg : BitVec 16) (check : KeyCheck) (src : Word) (pol : Word), KeySequence s acc src pol ∧ s.lifeReady arg.toNat check = true ∧ check.programOk = false) ∧
    (∃ (s : State) (acc : Accessor) (arg : BitVec 16) (check : KeyCheck) (src : Word) (pol : Word), KeySequence s acc src pol ∧ s.fuse.keeperFloor < arg.toNat ∧ arg.toNat ≤ 1024 ∧ check.programOk = true) ∧
    (∃ (s : State) (acc : Accessor) (arg : BitVec 16) (src : Word) (pol : Word), KeySequence s acc src pol ∧ (arg.toNat ≤ s.fuse.keeperFloor ∨ 1024 < arg.toNat)) ∧
    (∃ (s : State) (acc : Accessor) (arg : BitVec 16) (check : KeyCheck) (src : Word) (pol : Word), KeySequence s acc src pol ∧ s.fuse.keeperFloor < arg.toNat ∧ arg.toNat ≤ 1024 ∧ check.programOk = false) ∧
    (∃ (s : State) (acc : Accessor) (arg : BitVec 16) (check : KeyCheck) (src : Word) (pol : Word), KeySequence s acc src pol ∧ arg.toNat % 16 ≤ 10 ∧ s.fuse.tmpFloor / 4 ^ (arg.toNat % 16) % 4 < arg.toNat / 16 % 4 ∧ arg.toNat / 16 % 4 ≤ 2 ∧ s.fuse.tmpFloor < 4 ^ 11 ∧ check.programOk = true) ∧
    (∃ (s : State) (acc : Accessor) (arg : BitVec 16) (src : Word) (pol : Word), KeySequence s acc src pol ∧ (10 < arg.toNat % 16 ∨ 2 < arg.toNat / 16 % 4 ∨ arg.toNat / 16 % 4 ≤ s.fuse.tmpFloor / 4 ^ (arg.toNat % 16) % 4)) ∧
    (∃ (s : State) (acc : Accessor) (arg : BitVec 16) (check : KeyCheck) (src : Word) (pol : Word), KeySequence s acc src pol ∧ arg.toNat % 16 ≤ 10 ∧ s.fuse.tmpFloor / 4 ^ (arg.toNat % 16) % 4 < arg.toNat / 16 % 4 ∧ arg.toNat / 16 % 4 ≤ 2 ∧ s.fuse.tmpFloor < 4 ^ 11 ∧ check.programOk = false) :=
  ⟨⟨((gd.p (F.KEY_POL_VALID 96) 1).p (F.KEY_POL_VALID 102) 1), .keeper, 1, ok, 0, 0, by delta KeySequence; delta SequenceAt; delta MayWrite; decide +kernel⟩,
   ⟨gd, .keeper, 3, ok, 0, 0, by delta KeySequence; delta SequenceAt; delta MayWrite; decide +kernel⟩,
   ⟨gd, .keeper, 2, ok, 0, 0, by delta KeySequence; delta SequenceAt; delta MayWrite; decide +kernel⟩,
   ⟨((gd.p (F.KEY_POL_VALID 96) 1).p (F.KEY_POL_VALID 102) 1), .keeper, 1, { ok with programOk := false }, 0, 0, by delta KeySequence; delta SequenceAt; delta MayWrite; decide +kernel⟩,
   ⟨gd, .keeper, 1024, ok, 0, 0, by delta KeySequence; delta SequenceAt; delta MayWrite; decide +kernel⟩,
   ⟨gd, .keeper, 1025, 0, 0, by delta KeySequence; delta SequenceAt; delta MayWrite; decide +kernel⟩,
   ⟨gd, .keeper, 1, { ok with programOk := false }, 0, 0, by delta KeySequence; delta SequenceAt; delta MayWrite; decide +kernel⟩,
   ⟨{gd with fuse := {gd.fuse with tmpFloor := 0}}, .keeper, 0x1a, ok, 0, 0, by delta KeySequence; delta SequenceAt; delta MayWrite; decide +kernel⟩,
   ⟨{gd with fuse := {gd.fuse with tmpFloor := 0}}, .keeper, 0x1b, 0, 0, by delta KeySequence; delta SequenceAt; delta MayWrite; decide +kernel⟩,
   ⟨{gd with fuse := {gd.fuse with tmpFloor := 0}}, .keeper, 0x22, { ok with programOk := false }, 0, 0, by delta KeySequence; delta SequenceAt; delta MayWrite; decide +kernel⟩⟩

end WitnessK2

namespace WitnessM1

def om : State := let s := ((base.p F.MOD_CUR_LIFECYCLE 2).p (F.KEY_POL_VALID 102) 1).p (F.KEY_POL_VALID 181) 1; {((s.p F.MOD_CUR_LIFT 0).putBytes 0x20000000 (ord 1)) with bat := {s.bat with moltTarget := 0}}
def tm (x : State) : State := arm x 0x34 1 2 [(0x80,0x20000000)]
def o2 : State := let s := (((om.p (F.KEY_POL_VALID 178) 1).p F.MOD_CUR_LIFT LiftMode.outOfService.code)); {s with nvm := {s.nvm with config1 := some ((List.range 2176).map cfgByte)}}
def of : State := {(o2.p F.TEN_STAT_STEP 8).p F.MOD_CUR_TENANCY 1 with bat := {o2.bat with molting := true}, nvm := {o2.nvm with applets := []}}
def mp : State := {((o2.p F.TEN_STAT_STEP 3).p F.MOD_CUR_TENANCY 2).p F.EMC_STAT_TRAINED 1 with bat := {o2.bat with molting := true, moltTarget := 1, opRoot := some 5}}
def sd : State := ((mp.p F.TEN_STAT_STEP 5).p F.EMC_SCRUB_RUNNING 1).putBytes 0x80000010 [1,2,3]
def tc (x : State) : State := let s := arm x 0x34 2 2 [(0x90,0x20001000)]; {s with mem := cfgMem}
def atx (x : State) : State := arm x 0x35 1 2 [(0x80,0x20000000),(0x88,16)]
def at2 (x : State) : State := arm x 0x35 2 2 []
def em : State := {(om.p F.EMC_STAT_TRAINED 1).p F.PWR_STAT_VDDQ_OK 1 with emc := {om.emc with delivered := some (1,2,3,4)}}
theorem tc_mem (x : State) : (tc x).mem = cfgMem := by dsimp only [tc]

theorem witness_moltOrders :
    (∃ (s : State) (acc : Accessor) (addr : Word) (signatureOk : Bool) (o : List Byte), SequenceAt s acc 9 0x34 1 [(0x80, addr)] ∧ o = s.bytes (addr.toNat % 2 ^ 32) 160 ∧ s.ten.deferred = none ∧ s.orderCause o signatureOk = none ∧ [0x31, 0x14, 0x36].all (fun p => !s.b (lockArmed p)) = true ∧ s.bar.load = none ∧ s.b F.PKG_STAT_LOADING = false) ∧
    (∃ (s : State) (acc : Accessor) (addr : Word) (signatureOk : Bool) (o : List Byte), SequenceAt s acc 9 0x34 1 [(0x80, addr)] ∧ o = s.bytes (addr.toNat % 2 ^ 32) 160 ∧ s.ten.deferred = none ∧ s.orderCause o signatureOk = none ∧ s.b F.PKG_STAT_LOADING = true) ∧
    (∃ (s : State) (acc : Accessor) (addr : Word) (signatureOk : Bool) (c : Nat × Nat) (o : List Byte), SequenceAt s acc 9 0x34 1 [(0x80, addr)] ∧ o = s.bytes (addr.toNat % 2 ^ 32) 160 ∧ s.ten.deferred = none ∧ s.host.waiting = [] ∧ s.orderCause o signatureOk = some c) ∧
    (∃ (s : State) (signatureOk : Bool) (o : List Byte), s.ten.deferred = some o ∧ s.orderBlocked = false ∧ s.orderCause o signatureOk = none) ∧
    (∃ (s : State) (signatureOk : Bool) (c : Nat × Nat) (o : List Byte), s.ten.deferred = some o ∧ s.orderBlocked = false ∧ s.orderCause o signatureOk = some c) ∧
    (∃ (s : State) (o : List Byte), s.ten.deferred = some o ∧ s.orderBlocked = true) ∧
    (∃ (s : State), s.bat.molting = true ∧ s.tenancy ≠ .molting ∧ s.g F.TEN_STAT_STEP = 8 ∧ s.keeperServes = true ∧ s.nvm.applets = [] ∧ s.host.waiting = []) :=
  ⟨⟨(tm o2), .keeper, 0x20000000, true, (ord 1), by delta SequenceAt; delta MayWrite; decide +kernel, by decide +kernel, by decide +kernel, by simp only [State.orderCause, ord_target, cfg_ready (s := (tm o2)) rfl (by decide +kernel) (by decide +kernel)]; decide +kernel, by decide +kernel⟩,
   ⟨(tm (o2.p F.PKG_STAT_LOADING 1)), .keeper, 0x20000000, true, (ord 1), by delta SequenceAt; delta MayWrite; decide +kernel, by decide +kernel, by decide +kernel, by simp only [State.orderCause, ord_target, cfg_ready (s := (tm (o2.p F.PKG_STAT_LOADING 1))) rfl (by decide +kernel) (by decide +kernel)]; decide +kernel, by decide +kernel⟩,
   ⟨(tm om), .keeper, 0x20000000, true, (6,2), (ord 1), by delta SequenceAt; delta MayWrite; decide +kernel, by decide +kernel, by decide +kernel, by decide +kernel, by decide +kernel⟩,
   ⟨{o2 with ten := {o2.ten with deferred := some (ord 1)}}, true, (ord 1), by decide +kernel, by decide +kernel, by simp only [State.orderCause, ord_target, cfg_ready (s := {o2 with ten := {o2.ten with deferred := some (ord 1)}}) rfl (by decide +kernel) (by decide +kernel)]; decide +kernel⟩,
   ⟨{om with ten := {om.ten with deferred := some (ord 1)}}, true, (6,2), (ord 1), by decide +kernel⟩,
   ⟨{o2.p F.PKG_STAT_LOADING 1 with ten := {o2.ten with deferred := some (ord 1)}}, (ord 1), by decide +kernel⟩,
   ⟨of, by decide +kernel⟩⟩

theorem witness_moltSteps :
    (∃ (s : State), s.bat.molting = true ∧ s.tenancy = .molting ∧ s.g F.TEN_STAT_STEP = 3 ∧ s.bat.zeroized = false) ∧
    (∃ (s : State), s.bat.molting = true ∧ s.tenancy = .molting ∧ s.g F.TEN_STAT_STEP = 3 ∧ s.bat.zeroized = false ∧ s.bat.lock = false ∧ s.b F.EMC_STAT_TRAINED = true ∧ s.bat.rootFailing = [] ∧ s.bat.opRoot.isSome = true) ∧
    (∃ (s : State), s.bat.molting = true ∧ s.tenancy = .molting ∧ s.g F.TEN_STAT_STEP = 3 ∧ s.bat.lock = true) ∧
    (∃ (s : State), s.b F.EMC_SCRUB_RUNNING = true) :=
  ⟨⟨mp, by decide +kernel⟩,
   ⟨mp, by decide +kernel⟩,
   ⟨{mp with bat := {mp.bat with lock := true}}, by decide +kernel⟩,
   ⟨sd, by decide +kernel⟩⟩

theorem witness_tenantConfigurations :
    (∃ (s : State) (acc : Accessor) (addr : Word) (signatureOk : Bool), SequenceAt s acc 9 0x34 2 [(0x90, addr)] ∧ s.configCause (s.bytes (addr.toNat % 2 ^ 32) 2272) signatureOk = none) ∧
    (∃ (s : State) (acc : Accessor) (addr : Word) (signatureOk : Bool), SequenceAt s acc 9 0x34 2 [(0x90, addr)] ∧ s.configCause (s.bytes (addr.toNat % 2 ^ 32) 2272) signatureOk = none ∧ (s.tenancy = .molting ∨ (leAt (s.bytes (addr.toNat % 2 ^ 32) 2272) 6 1) ≠ s.tenantNo ∨ s.lift ≠ .outOfService)) ∧
    (∃ (s : State) (acc : Accessor) (addr : Word) (signatureOk : Bool), SequenceAt s acc 9 0x34 2 [(0x90, addr)] ∧ s.configCause (s.bytes (addr.toNat % 2 ^ 32) 2272) signatureOk = none ∧ s.tenancy ≠ .molting ∧ (leAt (s.bytes (addr.toNat % 2 ^ 32) 2272) 6 1) = s.tenantNo ∧ s.lift = .outOfService) ∧
    (∃ (s : State) (acc : Accessor) (addr : Word) (signatureOk : Bool) (c : Nat), SequenceAt s acc 9 0x34 2 [(0x90, addr)] ∧ s.configCause (s.bytes (addr.toNat % 2 ^ 32) 2272) signatureOk = some c) :=
  ⟨⟨(tc o2), .keeper, 0x20001000, true, by delta SequenceAt; delta MayWrite; decide +kernel, by rw [cfg_cause_at (s := (tc o2)) (by simp only [tc_mem]) true]; decide +kernel⟩,
   ⟨(tc o2), .keeper, 0x20001000, true, by delta SequenceAt; delta MayWrite; decide +kernel, by rw [cfg_cause_at (s := (tc o2)) (by simp only [tc_mem]) true]; decide +kernel, by rw [cfg_tenant_at (s := (tc o2)) (by simp only [tc_mem])]; decide +kernel⟩,
   ⟨((tc o2).p F.MOD_CUR_TENANCY 1), .keeper, 0x20001000, true, by delta SequenceAt; delta MayWrite; decide +kernel, by rw [cfg_cause_at (s := ((tc o2).p F.MOD_CUR_TENANCY 1)) (by simp only [State.p_mem, tc_mem]) true]; decide +kernel, by decide +kernel, by rw [cfg_tenant_at (s := ((tc o2).p F.MOD_CUR_TENANCY 1)) (by simp only [State.p_mem, tc_mem])]; decide +kernel, by decide +kernel⟩,
   ⟨((tc o2).p (F.CTR_VAL_VALUE 12) 78), .keeper, 0x20001000, true, 4, by delta SequenceAt; delta MayWrite; decide +kernel, by rw [cfg_cause_at (s := ((tc o2).p (F.CTR_VAL_VALUE 12) 78)) (by simp only [State.p_mem, tc_mem]) true]; decide +kernel⟩⟩

theorem witness_measurementsAndEmc :
    (∃ (s : State) (acc : Accessor) (entry : BitVec 4) (src : Word) (len : Word), SequenceAt s acc 9 0x35 1 [(0x80, src), (0x88, len)] ∧ (entry.toNat ≤ 13 ∧ (entry.toNat < 2 → s.b F.KPX_CTL_ROMOFF = false)) ∧ entry.toNat ≠ 3 ∧ entry.toNat ≠ 4) ∧
    (∃ (s : State) (acc : Accessor) (entry : BitVec 4) (src : Word) (len : Word), SequenceAt s acc 9 0x35 1 [(0x80, src), (0x88, len)] ∧ (¬ (entry.toNat ≤ 13 ∧ (entry.toNat < 2 → s.b F.KPX_CTL_ROMOFF = false)) ∨ entry.toNat = 3 ∨ entry.toNat = 4)) ∧
    (∃ (s : State) (acc : Accessor) (entry : BitVec 4), SequenceAt s acc 9 0x35 2 [] ∧ entry.toNat = 3) ∧
    (∃ (s : State) (acc : Accessor) (entry : BitVec 4), SequenceAt s acc 9 0x35 2 [] ∧ entry.toNat = 4) ∧
    (∃ (s : State) (acc : Accessor) (entry : BitVec 4), SequenceAt s acc 9 0x35 2 [] ∧ (entry.toNat ≤ 13 ∧ (entry.toNat < 2 → s.b F.KPX_CTL_ROMOFF = false)) ∧ s.b (F.ATT_INFO_PRESENT entry.toNat) = true) ∧
    (∃ (s : State) (acc : Accessor) (k : Nat × Nat × Nat × Nat), s.clocked = true ∧ s.reaches acc 0x2b = true ∧ isKeeper acc = true ∧ s.emc.delivered = some k) ∧
    (∃ (s : State) (acc : Accessor), s.clocked = true ∧ s.reaches acc 0x2b = true ∧ isKeeper acc = true) ∧
    (∃ (s : State) (acc : Accessor), s.clocked = true ∧ s.reaches acc 0x2b = true ∧ isKeeper acc = true ∧ s.emc.key.isSome = true ∧ s.b F.EMC_STAT_TRAINED = true) ∧
    (∃ (s : State), s.b F.EMC_STAT_TRAINED = true ∧ s.b F.EMC_STAT_SELFREF = false) :=
  ⟨⟨(atx om), .keeper, 5, 0x20000000, 16, by delta SequenceAt; delta MayWrite; decide +kernel⟩,
   ⟨(atx om), .keeper, 15, 0x20000000, 16, by delta SequenceAt; delta MayWrite; decide +kernel⟩,
   ⟨(at2 om), .keeper, 3, by delta SequenceAt; delta MayWrite; decide +kernel⟩,
   ⟨(at2 (om.p (F.ATT_INFO_PRESENT 4) 1)), .keeper, 4, by delta SequenceAt; delta MayWrite; decide +kernel⟩,
   ⟨(at2 (om.p (F.ATT_INFO_PRESENT 4) 1)), .keeper, 4, by delta SequenceAt; delta MayWrite; decide +kernel⟩,
   ⟨em, .keeper, (1,2,3,4), by decide +kernel⟩,
   ⟨(atx om), .keeper, by decide +kernel⟩,
   ⟨{em with emc := {em.emc with key := some (1,2,3,4), written := some (1,2,3,4)}}, .keeper, by decide +kernel⟩,
   ⟨em, by decide +kernel⟩⟩

end WitnessM1

namespace WitnessN1

def hb : State := ((base.p F.PWR_STAT_PCIE_OK 1).p F.SYS_STAT_FENCE_UP 1)
def hb4 : State := (hb.p F.RST_BOOT_STEP 4)
def lu : State := (hb4.p F.PCI_LINK_UP 1).p F.PCI_LINK_BME 1
def sp : State := (lu.p F.RST_BOOT_STEP 8).p (F.ATT_INFO_PRESENT 3) 1
def pl : List Byte := [1,4,5,0,0,0,0,0] ++ leBytes 8 0x1000 ++ leBytes 8 0x2000
def ic : ImageCheck := ⟨.first,true⟩
def sp2 : State := {(sp.p F.PCI_SPDM_SESSION 2).p F.MOD_CUR_LIFT 0 with host := {sp.host with doeError := false, session := 9}}
def rg : State := let s := (((sp2.p F.HBX_STATE_STATE 2).p F.HBX_RINGCFG_H2D_LOG2 4).p F.HBX_RINGCFG_D2H_LOG2 4); {s with host := {s.host with hbxKeys := some (hbxDerive 9), expect := 7, next := 8, outbox := [⟨1,0x8001,0,0,5,[1,2,3]⟩,⟨1,1,1,1,1,[]⟩]}}
def ent (seq : Nat) : H2dEntry := ⟨seq, 20, 2, 0x100, true, [10,10], none, true, leBytes 4 0x20 ++ leBytes 4 77 ++ leBytes 4 4 ++ leBytes 4 0 ++ [1,2,3,4]⟩
def rr : State := (rg.p F.HBX_H2D_TAIL_INDEX 3).p F.HBX_D2H_TAIL_INDEX 3
def rx : State := (match execRecoveryObject 0x10 1 [5,6] ic 5 (sp2.p F.RST_BOOT_RECOVERY 1) with | .next t => t | _ => sp2)

theorem witness_hostLink :
    (∃ (s : State), s.pcieLive = true ∧ s.b F.PCI_LINK_UP = false) ∧
    (∃ (s : State), s.pcieUp = true) ∧
    (∃ (s : State), s.pcieReady = true) ∧
    (∃ (s : State), s.pcieReady = false) ∧
    (∃ (s : State), s.wake.inReset = false) ∧
    (∃ (s : State), s.pcieUp = true ∧ s.pcieReady = true) :=
  ⟨⟨(hb.p F.RST_BOOT_STEP 4), by decide +kernel⟩,
   ⟨({(lu.p F.RST_BOOT_STEP 4).p F.PCI_SPDM_SESSION 2 with host := {lu.host with hbxKeys := some [], outbox := [⟨1,1,1,1,1,[]⟩]}}), by decide +kernel⟩,
   ⟨sp, by decide +kernel⟩, ⟨lu, by decide +kernel⟩,
   ⟨(hb.p F.RST_BOOT_STEP 4), by decide +kernel⟩, ⟨sp, by decide +kernel⟩⟩

theorem witness_dataObjects :
    (∃ (s : State) (index : Byte), s.pcieReady = true ∧ s.host.doeError = false ∧ index.toNat < 3) ∧
    (∃ (s : State), s.pcieReady = true ∧ s.host.doeError = false) ∧
    (∃ (s : State) (check : ImageCheck), s.pcieReady = true ∧ s.host.doeError = false ∧ s.b F.RST_BOOT_RECOVERY = true ∧ check.read = .lasting) ∧
    (∃ (s : State), s.pcieReady = true) ∧
    (∃ (s : State) (block : Byte), SpdmAt s ∧ 1 ≤ block.toNat ∧ block.toNat ≤ 14 ∧ s.b (F.ATT_INFO_PRESENT (block.toNat - 1)) = true) ∧
    (∃ (s : State), SpdmAt s ∧ s.life ≠ .returned) ∧
    (∃ (s : State), SpdmAt s) ∧
    (∃ (s : State), SpdmAt s ∧ s.g F.PCI_SPDM_SESSION = 0 ∧ s.life ≠ .returned) ∧
    (∃ (s : State), SpdmAt s ∧ s.g F.PCI_SPDM_SESSION = 2) ∧
    (∃ (s : State) (payload : List Byte), SpdmAt s ∧ s.g F.PCI_SPDM_SESSION = 2 ∧ s.setUpCause payload = none) ∧
    (∃ (s : State) (payload : List Byte) (c : Nat), SpdmAt s ∧ s.g F.PCI_SPDM_SESSION = 2 ∧ s.setUpCause payload = some c) ∧
    (∃ (s : State) (data : List Byte) (off : BitVec 32) (flags : BitVec 32) (check : ImageCheck), s.pcieReady = true ∧ s.host.doeError = false ∧ s.b F.RST_BOOT_RECOVERY = true ∧ check.read = .first ∧ data.length ≤ 4080 ∧ off.toNat + data.length ≤ 0x40000 ∧ flags.getLsbD 0 = false) ∧
    (∃ (s : State) (data : List Byte) (off : BitVec 32) (flags : BitVec 32) (check : ImageCheck) (version : Nat), s.pcieReady = true ∧ s.host.doeError = false ∧ s.b F.RST_BOOT_RECOVERY = true ∧ check.read = .first ∧ data.length ≤ 4080 ∧ off.toNat + data.length ≤ 0x40000 ∧ flags.getLsbD 0 = true ∧ check.signatureOk = true ∧ s.fuse.keeperFloor ≤ version) :=
  ⟨⟨sp, 1, by decide +kernel⟩,
   ⟨sp, by decide +kernel⟩,
   ⟨(sp2.p F.RST_BOOT_RECOVERY 1), ⟨.lasting, true⟩, by decide +kernel⟩,
   ⟨sp, by decide +kernel⟩,
   ⟨sp, 4, by delta SpdmAt; decide +kernel⟩,
   ⟨sp, by delta SpdmAt; decide +kernel⟩,
   ⟨sp, by delta SpdmAt; decide +kernel⟩,
   ⟨sp, by delta SpdmAt; decide +kernel⟩,
   ⟨sp2, by delta SpdmAt; decide +kernel⟩,
   ⟨sp2, pl, by delta SpdmAt; decide +kernel⟩,
   ⟨sp2, [], 1, by delta SpdmAt; decide +kernel⟩,
   ⟨(sp2.p F.RST_BOOT_RECOVERY 1), [5,6], 0x10, 0, ic, by decide +kernel⟩,
   ⟨(sp2.p F.RST_BOOT_RECOVERY 1), [5,6], 0x10, 1, ic, 5, by decide +kernel⟩⟩

theorem witness_hbxRings :
    (∃ (s : State) (acc : Accessor) (index : BitVec 16), MayWrite s acc 2 0x28 ∧ (s.g F.HBX_STATE_STATE = 0 ∨ (index.toNat + 65536 - s.g F.HBX_H2D_HEAD_INDEX) % 65536 ≤ 2 ^ s.g F.HBX_RINGCFG_H2D_LOG2)) ∧
    (∃ (s : State) (acc : Accessor) (index : BitVec 16), MayWrite s acc 2 0x28 ∧ s.g F.HBX_STATE_STATE ≠ 0 ∧ 2 ^ s.g F.HBX_RINGCFG_H2D_LOG2 < (index.toNat + 65536 - s.g F.HBX_H2D_HEAD_INDEX) % 65536) ∧
    (∃ (s : State) (acc : Accessor) (index : BitVec 16), MayWrite s acc 2 0x28 ∧ (s.g F.HBX_STATE_STATE = 0 ∨ (index.toNat + 65536 - s.g F.HBX_D2H_HEAD_INDEX) % 65536 ≤ 2 ^ s.g F.HBX_RINGCFG_D2H_LOG2)) ∧
    (∃ (s : State) (e : H2dEntry), s.hbxRuns = true ∧ s.g F.HBX_H2D_TAIL_INDEX ≠ s.g F.HBX_H2D_HEAD_INDEX ∧ h2dCause e s.host.expect = none ∧ s.host.expect < 2 ^ 64 - 1 ∧ 16 ≤ e.message.length ∧ zeroAt e.message 2 2 = true ∧ zeroAt e.message 0xc 4 = true ∧ leAt e.message 8 4 + 16 = e.message.length ∧ commandKnown (leAt e.message 0 2) = true ∧ s.host.inbox.length < 8) ∧
    (∃ (s : State) (e : H2dEntry) (c : Nat), s.hbxRuns = true ∧ s.g F.HBX_H2D_TAIL_INDEX ≠ s.g F.HBX_H2D_HEAD_INDEX ∧ h2dCause e s.host.expect = some c ∧ s.host.expect < 2 ^ 64 - 1) ∧
    (∃ (s : State) (m : Message) (rest : List Message), s.hbxRuns = true ∧ s.g F.HBX_D2H_TAIL_INDEX ≠ s.g F.HBX_D2H_HEAD_INDEX ∧ s.host.outbox = m :: rest ∧ s.host.next < 2 ^ 64 - 1) ∧
    (∃ (s : State) (acc : Accessor), s.clocked = true ∧ s.icu.arriving = [] ∧ s.mayRead acc 0 0x28 = true ∧ (acc = .host ∨ acc = .keeper ∨ acc = .mgmt)) ∧
    (∃ (s : State) (acc : Accessor) (source : BitVec 9), MayWrite s acc 2 0x28 ∧ s.icu.arriving = [] ∧ 320 ≤ source.toNat ∧ source.toNat ≤ 335) :=
  ⟨⟨rr, .keeper, 16, by delta MayWrite; decide +kernel⟩,
   ⟨rr, .host, 17, by delta MayWrite; decide +kernel⟩,
   ⟨rr, .keeper, 16, by delta MayWrite; decide +kernel⟩,
   ⟨rr, (ent 7), by decide +kernel⟩,
   ⟨rr, (ent 6), 1, by decide +kernel⟩,
   ⟨rr, ⟨1,0x8001,0,0,5,[1,2,3]⟩, [⟨1,1,1,1,1,[]⟩], by decide +kernel⟩,
   ⟨rr, .host, by decide +kernel⟩,
   ⟨rr, .keeper, 322, by delta MayWrite; decide +kernel⟩⟩

end WitnessN1

namespace WitnessO1a

def kb : State := let s := ((((base.p F.SYS_STAT_FENCE_UP 1).p F.HBX_STATE_STATE 2).p (F.MGT_SESS_STATE 1) 2).p (F.MGT_SESS_IDLE 1) 5); {s with host := {s.host with hbxKeys := some [], outbox := [⟨1,1,1,1,1,[]⟩]}, ten := {s.ten with moltReport := [1,2]}, bat := {s.bat with lastResort := 3}}
def hc (b : List Byte) : Cmd := ⟨1, 77, b⟩
def mc (b : List Byte) : Cmd := ⟨0x11, 78, b⟩
def hs (num : Nat) (b : List Byte) : State := {kb with host := {kb.host with inbox := [(num, hc b), (3, hc [])]}}
def row0 : RegRow := (rowAt 6 0x80).getD ⟨0,0,0,0,0,0,0,0,0⟩
def ra : List Byte := leBytes 8 (0x10000000+0x6000+0x80)

theorem witness_channelCommands :
    (∃ (s : State) (c : Cmd), Serves s 0x01 c ∧ c.body = []) ∧
    (∃ (s : State) (c : Cmd), Serves s 0x01 c ∧ c.body ≠ []) ∧
    (∃ (s : State) (c : Cmd), Serves s 0x02 c ∧ 32 ≤ c.body.length ∧ c.body.length ≤ 64 ∧ s.life ≠ .returned) ∧
    (∃ (s : State) (c : Cmd), Serves s 0x03 c ∧ c.channel ≠ 1 ∧ 8 ≤ c.body.length ∧ c.body.length ≤ 64) ∧
    (∃ (s : State) (c : Cmd), Serves s 0x03 c ∧ c.channel = 1) ∧
    (∃ (s : State) (c : Cmd), Serves s 0x04 c ∧ c.body = [] ∧ s.life ≠ .returned ∧ s.ten.moltReport ≠ []) ∧
    (∃ (s : State) (c : Cmd) (i : Nat), Serves s 0x10 c ∧ c.body.length = 3 ∧ i = leAt c.body 0 1 ∧ i ≤ 10 ∧ i ∉ [1, 2, 8, 9] ∧ leAt c.body 1 1 ≠ 0xff) ∧
    (∃ (s : State) (c : Cmd) (page : Nat) (off : Nat), Serves s 0x11 c ∧ leAt c.body 0 8 = 0x10000000 + 0x1000 * page + off ∧ c.body.length = 8 ∧ off < 0x1000 ∧ off % 8 = 0 ∧ pageAssigned page = true ∧ page ≤ 0x2b ∧ page ∉ [4, 5, 0x20, 0x21, 0x28, 0x2a] ∧ s.mayRead (cmdAccessor c) (readCol page (s.absOff (cmdAccessor c) page off)) page = true) ∧
    (∃ (s : State) (c : Cmd), Serves s 0x11 c ∧ c.channel = 1 ∧ c.body.length = 8 ∧ 0x800000 ≤ leAt c.body 0 8 ∧ leAt c.body 0 8 < 0x880000 ∧
      leAt c.body 0 8 % 8 = 0) ∧
    (∃ (s : State) (c : Cmd) (page : Nat) (off : Nat) (row : RegRow), Serves s 0x12 c ∧ leAt c.body 0 8 = 0x10000000 + 0x1000 * page + off ∧ c.body.length = 16 ∧ setting page off = true ∧ page ≠ 0x2a ∧ rowAt page off = some row ∧ row.wcol < 8 ∧ row.wcol ≠ 4 ∧ row.wcol ≠ 7 ∧ MayWrite s (cmdAccessor c) row.wcol page) ∧
    (∃ (s : State) (c : Cmd) (i : Nat), Serves s 0x41 c ∧ c.channel ≠ 1 ∧ c.body = [1, 0, 0, 0, 0, 0, 0, 0] ++ leBytes 8 i ++ List.replicate 32 0) ∧
    (∃ (s : State) (c : Cmd), Serves s 0x42 c ∧ c.channel ≠ 1 ∧ c.body = [] ∧ s.icu.arriving = []) ∧
    (∃ (s : State) (c : Cmd) (page : Nat), Serves s 0x43 c ∧ c.channel ≠ 1 ∧ c.body.length = 2 ∧ page = leAt c.body 0 1 ∧ pageAssigned page = true ∧ page ∉ [4, 5] ∧ leAt c.body 1 1 < 16 ∧ s.mayRead .mgmt 0 page = true) ∧
    (∃ (s : State) (c : Cmd), Serves s 0x45 c ∧ c.channel ≠ 1 ∧ c.body = [3] ∧ s.b (lockArmed 3) = false) ∧
    (∃ (s : State) (c : Cmd), Serves s 0x45 c ∧ c.channel = 1) ∧
    (∃ (s : State) (c : Cmd), Serves s 0x46 c ∧ c.channel ≠ 1 ∧ c.body.length = 41) ∧
    (∃ (s : State) (c : Cmd), Serves s 0xf0 c ∧ c.channel ≠ 1 ∧ 4 ≤ c.body.length ∧ leAt c.body 0 4 + (c.body.length - 4) ≤ 266240) :=
  ⟨⟨(hs 1 []), (hc []), by delta Serves; decide +kernel⟩,
   ⟨(kb), (mc (List.replicate 40 1)), by delta Serves; decide +kernel⟩,
   ⟨(hs 2 (List.replicate 40 1)), (hc (List.replicate 40 1)), by delta Serves; decide +kernel⟩,
   ⟨(kb), (mc (List.replicate 40 1)), by delta Serves; decide +kernel⟩,
   ⟨(hs 3 (List.replicate 40 1)), (hc (List.replicate 40 1)), by delta Serves; decide +kernel⟩,
   ⟨(kb), (mc []), by delta Serves; decide +kernel⟩,
   ⟨(kb), (mc [3,2,1]), 3, by delta Serves; decide +kernel⟩,
   ⟨((kb.p F.MOD_CUR_DEBUG 0).setWord (regKey 6 0x80) 0x55), (mc ra), 6, 0x80, by delta Serves; decide +kernel⟩,
   ⟨(hs 0x11 (leBytes 8 0x800000)), (hc (leBytes 8 0x800000)), by delta Serves; decide +kernel⟩,
   ⟨kb, (mc (ra ++ leBytes 8 0x1234567)), 6, 0x80, row0, by delta Serves; delta MayWrite; decide +kernel⟩,
   ⟨kb, (mc ([1, 0, 0, 0, 0, 0, 0, 0] ++ leBytes 8 0x15 ++ List.replicate 32 0)), 0x15, by delta Serves; decide +kernel⟩,
   ⟨(kb), (mc []), by delta Serves; decide +kernel⟩,
   ⟨(kb.p (hdrTrouble 6 2) 5), (mc [6, 4]), 6, by delta Serves; decide +kernel⟩,
   ⟨kb, (mc [3]), by delta Serves; decide +kernel⟩,
   ⟨(hs 0x45 [3]), (hc [3]), by delta Serves; decide +kernel⟩,
   ⟨kb, (mc (List.replicate 41 1)), by delta Serves; decide +kernel⟩,
   ⟨kb, (mc ([1, 0, 0, 0, 0, 0, 0, 0] ++ leBytes 8 0x15 ++ List.replicate 32 0)), by delta Serves; decide +kernel⟩⟩

end WitnessO1a

namespace WitnessO1b

def om : State := let s := ((base.p F.MOD_CUR_LIFECYCLE 2).p (F.KEY_POL_VALID 102) 1).p (F.KEY_POL_VALID 181) 1; {((s.p F.MOD_CUR_LIFT 0).putBytes 0x20000000 (ord 1)) with bat := {s.bat with moltTarget := 0}}
def o2 : State := let s := (((om.p (F.KEY_POL_VALID 178) 1).p F.MOD_CUR_LIFT LiftMode.outOfService.code)); {s with nvm := {s.nvm with config1 := some ((List.range 2176).map cfgByte)}}
def ok : KeyCheck := ⟨true,true,true,true⟩
def g0 : State := let s := ((base.p F.KEY_ROOT_PRESENT 1).p F.KEY_STAT_BAD_ANY 0); {s with key := {s.key with handles := [], slots := [(2,⟨[1],[]⟩),(70,⟨[1],[true,true]⟩),(80,⟨[2],[]⟩)]}}
def gk : State := ((g0.p (F.KEY_POL_VALID 2) 1).p (F.KEY_POL_VALID 70) 1).p (F.KEY_POL_VALID 80) 1
def img0 : List Byte := leBytes 4 0x41564c51 ++ leBytes 2 1 ++ [0,0] ++ leBytes 4 5 ++ leBytes 4 0 ++ leBytes 8 0 ++ leBytes 8 0x1234 ++ leBytes 4 4 ++ leBytes 4 0 ++ leBytes 4 0 ++ leBytes 2 0 ++ leBytes 2 64 ++ leBytes 2 0 ++ leBytes 2 0 ++ leBytes 2 0 ++ leBytes 2 10 ++ leBytes 4 0xfe ++ leBytes 2 0x4f8 ++ leBytes 2 0 ++ leBytes 2 3 ++ leBytes 2 0x103 ++ leBytes 2 0xffff ++ leBytes 2 0xffff ++ leBytes 4 0 ++ leBytes 4 (0x10 + 256*(0x80/8)) ++ List.replicate 24 0 ++ List.replicate 24 0 ++ leBytes 4 0 ++ List.replicate 96 0
def ap : State := let s := ((((((base.p F.KPX_STATUS_PRIV 1).p F.KPX_ASLOT_SLOT 2).p F.KPX_ASLOT_MAPPED 1).p F.LVA_STAT_RESIDENT 4).p F.MOD_CUR_LIFECYCLE 2).p F.SYS_STAT_FENCE_UP 1); {s with nvm := {s.nvm with applets := [(2,img0)]}, core := {s.core with x := List.replicate 16 0, pc := 0}}
def up (x : State) : State := let s := ((((x.p F.SYS_STAT_FENCE_UP 1).p F.HBX_STATE_STATE 2).p (F.MGT_SESS_STATE 1) 2).p (F.MGT_SESS_IDLE 1) 5); {s with host := {s.host with hbxKeys := some [], outbox := [⟨1,1,1,1,1,[]⟩]}}
def hc (b : List Byte) : Cmd := ⟨1, 77, b⟩
def mc (b : List Byte) : Cmd := ⟨0x11, 78, b⟩
def hs (x : State) (num : Nat) (b : List Byte) : State := {x with host := {x.host with inbox := [(num, hc b), (3, hc [])]}}
def stg (x : State) (b : List Byte) : State := x.setMgt 1 {x.mgtOf 1 with staging := b}
def tt : TableCheck := ⟨true,true,true⟩
def lc : LoadCheck := ⟨true,true⟩
def sb (n : Nat) (b : List Byte) : List Byte := leBytes 8 n ++ b
def aps : State := up ap
def al : State := ((aps.p (F.KEY_POL_VALID 97) 1).p (F.KEY_POL_VALID 102) 1)
def rec : List Byte := (List.range 10336).map (fun i => if i < 8 then ([0x51, 0x49, 0x54, 0x45, 1] : List Byte).getD i 0 else 0)
def tb (x : State) : State := ((x.p F.MOD_CUR_TENANCY 0).p (F.KEY_POL_VALID 96) 1).p F.MOD_CUR_LIFECYCLE 2
def tl : State := stg (tb (up om)) (leBytes 8 1 ++ rec)
def pr : List Byte := leBytes 4 0x524b5051 ++ leBytes 2 1 ++ leBytes 1 0 ++ [0] ++ leBytes 8 base.fuse.serial.toNat ++ leBytes 4 0 ++ List.replicate 332 0
def rl0 : State := let x := up om; ((((x.p (F.KEY_POL_VALID (slotPackage 0)) 1).p (F.KEY_POL_USES (slotPackage 0)) 0x200).p (F.KEY_POL_VALID (slotAuthority 0)) 1))
def rl : State := {rl0 with key := {rl0.key with slots := (rl0.key.slots.filter (·.1 < slotPackage 0)) ++ [(slotPackage 0,⟨[1],[]⟩)] ++ (rl0.key.slots.filter (·.1 > slotPackage 0))}, ten := {rl0.ten with reports := [0]}}
def pg : State := (((((((up (om.p F.EMC_STAT_TRAINED 1)).p (F.EMC_PART_KW 1) 1).p (F.EMC_PART_PR 1) 1).p (F.EMC_PART_BASE 1) 1).p (F.EMC_PART_SIZE 1) 1).p F.EMC_SIZE_DATA_MIB 64).p F.PWR_STAT_VDDQ_OK 1).p F.MOD_CUR_TENANCY 0
def pg2 : State := {pg with emc := {pg.emc with key := some (1,2,3,4), written := some (1,2,3,4)}}
theorem up_o2 : (up o2).nvm.config1 = some ((List.range 2176).map cfgByte) := by
  have a (x : State) : (up x).nvm = x.nvm := rfl
  rw [a]; rfl
theorem given_hc (s : State) {b : List Byte} (h : b.isEmpty = false) : givenBody s (hc b) = some b := by simp [givenBody, State.takeBody, hc, h]
theorem given_stg (x : State) {b : List Byte} (h : b.isEmpty = false) : givenBody (stg x b) (mc []) = some b := by
  have e : ((stg x b).mgtOf 1).staging = b := rfl
  have g : givenBody (stg x b) (mc []) = if ((stg x b).mgtOf 1).staging.isEmpty then none else some ((stg x b).mgtOf 1).staging := rfl
  rw [g, e, h]; rfl

theorem witness_operationCommands :
    (∃ (s : State) (c : Cmd) (slot : Nat) (img : List Byte) (data : List Byte), Serves s 0x20 c ∧ slotBody c.body = some (slot, data) ∧ s.appletImage slot = some img ∧ data.length ≤ imgInCap img ∧ s.resident slot = true ∧ s.slotFaulted slot = false ∧ imgEntry img 1 ≠ 0xffff ∧ s.lva.queue.length < 32) ∧
    (∃ (s : State) (c : Cmd) (slot : Nat) (data : List Byte), Serves s 0x20 c ∧ slotBody c.body = some (slot, data) ∧ s.appletImage slot = none) ∧
    (∃ (s : State) (c : Cmd) (slot : Nat) (img : List Byte) (load : LoadCheck), Serves s 0x21 c ∧ s.b (lockArmed 0x36) = false ∧ (givenBody s c).bind slotBody = some (slot, img) ∧ s.appletCause slot img load = none) ∧
    (∃ (s : State) (c : Cmd) (slot : Nat) (img : List Byte) (load : LoadCheck) (cause : Nat), Serves s 0x21 c ∧ s.b (lockArmed 0x36) = false ∧ (givenBody s c).bind slotBody = some (slot, img) ∧ s.appletCause slot img load = some cause ∧ cause < 256) ∧
    (∃ (s : State) (c : Cmd) (slot : Nat), Serves s 0x22 c ∧ c.channel ≠ 1 ∧ c.body = [BitVec.ofNat 8 slot] ∧ slot < 8 ∧ s.lva.running = none ∧ s.lva.queue.all (fun v => v.slot != slot) = true) ∧
    (∃ (s : State) (c : Cmd), Serves s 0x44 c ∧ s.tenancy = .owner ∧ c.body.length = 8 ∧ s.mayRead .keeper 0 0x36 = true) ∧
    (∃ (s : State) (c : Cmd), Serves s 0x44 c ∧ s.tenancy ≠ .owner) ∧
    (∃ (s : State) (c : Cmd) (img : List Byte) (ok : Bool), Serves s 0x30 c ∧ s.b (lockArmed 0x34) = false ∧ givenBody s c = some img ∧ img.length = 2272 ∧ s.configCause img ok = none ∧ (s.tenancy = .molting ∨ leAt img 6 1 ≠ s.tenantNo ∨ s.lift ≠ .outOfService)) ∧
    (∃ (s : State) (c : Cmd) (img : List Byte) (ok : Bool) (cause : Nat), Serves s 0x30 c ∧ s.b (lockArmed 0x34) = false ∧ givenBody s c = some img ∧ img.length = 2272 ∧ s.configCause img ok = some cause) ∧
    (∃ (s : State) (c : Cmd) (ok : Bool), Serves s 0x31 c ∧ s.b (lockArmed 0x34) = false ∧ c.body.length = 160 ∧ s.bat.molting = false ∧ s.ten.deferred = none ∧ s.orderCause c.body ok = none ∧ s.orderBlocked = false) ∧
    (∃ (s : State) (c : Cmd) (ok : Bool) (cause : Nat) (addr : Nat), Serves s 0x31 c ∧ s.b (lockArmed 0x34) = false ∧ c.body.length = 160 ∧ s.bat.molting = false ∧ s.ten.deferred = none ∧ s.host.waiting = [] ∧ s.orderCause c.body ok = some (cause, addr) ∧ cause < 256) ∧
    (∃ (s : State) (c : Cmd) (img : List Byte) (check : TableCheck), Serves s 0x32 c ∧ s.b (lockArmed 0x14) = false ∧ s.bar.load = none ∧ givenBody s c = some (1 :: List.replicate 7 0 ++ img) ∧ img.length = 10336 ∧ s.mayWrite .keeper 7 0x14 = true ∧ s.tableCause img check = none ∧ check.writeOk = true ∧ s.host.waiting = []) ∧
    (∃ (s : State) (c : Cmd) (img : List Byte) (check : TableCheck) (cause : Nat), Serves s 0x32 c ∧ s.b (lockArmed 0x14) = false ∧ s.bar.load = none ∧ givenBody s c = some (1 :: List.replicate 7 0 ++ img) ∧ img.length = 10336 ∧ s.mayWrite .keeper 7 0x14 = true ∧ s.tableCause img check = some cause ∧ cause < 256 ∧ s.host.waiting = []) ∧
    (∃ (s : State) (c : Cmd) (ok : Bool) (tag : Bool), Serves s 0x33 c ∧ c.body.length = 352 ∧ s.releaseCause c.body ok tag = none ∧ (s.slotOf (slotPackage (leAt c.body 6 1))).failing = []) ∧
    (∃ (s : State) (c : Cmd) (ok : Bool) (tag : Bool) (cause : Nat), Serves s 0x33 c ∧ c.body.length = 352 ∧ s.releaseCause c.body ok tag = some cause ∧ cause < 256) ∧
    (∃ (s : State) (c : Cmd) (img : List Byte) (addr : Nat), Serves s 0x34 c ∧ s.b (lockArmed 0x1c) = false ∧ s.b F.PKG_STAT_LOADING = false ∧ givenBody s c = some img ∧ s.mayWrite .keeper 7 0x1c = true ∧ s.pkgPlace img.length = some addr ∧ addr < 2 ^ 32 ∧ img.length < 2 ^ 32 ∧ s.emcRefuses addr .keeperStore = none) ∧
    (∃ (s : State) (c : Cmd) (img : List Byte), Serves s 0x34 c ∧ s.b (lockArmed 0x1c) = false ∧ s.b F.PKG_STAT_LOADING = false ∧ givenBody s c = some img ∧ s.mayWrite .keeper 7 0x1c = true ∧ s.pkgPlace img.length = none) ∧
    (∃ (s : State) (c : Cmd) (slot : Nat), Serves s 0x40 c ∧ c.channel ≠ 1 ∧ s.b (lockArmed 0x31) = false ∧ c.body = [4, BitVec.ofNat 8 slot, 0, 0] ∧ slot < 256 ∧ s.slotValid slot = true ∧ (s.slotOf slot).failing = []) ∧
    (∃ (s : State) (c : Cmd) (slot : Nat), Serves s 0x40 c ∧ c.channel ≠ 1 ∧ s.b (lockArmed 0x31) = false ∧ c.body = [3, BitVec.ofNat 8 slot, 0, 0]) :=
  ⟨⟨(hs aps 0x20 (sb 2 [1,2])), (hc (sb 2 [1,2])), 2, img0, [1,2], by delta Serves; decide +kernel⟩,
   ⟨aps, (mc (sb 3 [1,2])), 3, [1,2], by delta Serves; decide +kernel⟩,
   ⟨(hs al 0x21 (sb 3 img0)), (hc (sb 3 img0)), 3, img0, lc, by delta Serves; decide +kernel⟩,
   ⟨(stg al (sb 3 img0)), (mc []), 3, img0, ⟨false,true⟩, 4, by delta Serves; decide +kernel⟩,
   ⟨aps, (mc [2]), 2, by delta Serves; decide +kernel⟩,
   ⟨aps, (mc (leBytes 8 0xa5)), by delta Serves; decide +kernel⟩,
   ⟨(hs ((up om).p F.MOD_CUR_TENANCY 1) 0x44 (leBytes 8 0xa5)), (hc (leBytes 8 0xa5)), by delta Serves; decide +kernel⟩,
   ⟨(stg (up o2) cfg), (mc []), cfg, true, by delta Serves; decide +kernel, by decide +kernel, given_stg _ (by decide +kernel), by simp only [cfg, List.length_map, List.length_range], by rw [cfg_cause _ _]; decide +kernel, by rw [cfg_tenant]; decide +kernel⟩,
   ⟨(hs ((up o2).p (F.CTR_VAL_VALUE 12) 78) 0x30 cfg), (hc cfg), cfg, true, 4, by delta Serves; decide +kernel, by decide +kernel, given_hc _ (by decide +kernel), by simp only [cfg, List.length_map, List.length_range], by rw [cfg_cause _ _]; decide +kernel⟩,
   ⟨(up o2), (mc (ord 1)), true, by delta Serves; decide +kernel, by decide +kernel, by decide +kernel, by decide +kernel, by decide +kernel, by simp only [State.orderCause, mc, ord_target, cfg_ready (s := (up o2)) (up_o2) (by decide +kernel) (by decide +kernel)]; decide +kernel, by decide +kernel⟩,
   ⟨(up o2), (mc (ord 1)), false, 4, 1, by delta Serves; decide +kernel, by decide +kernel, by decide +kernel, by decide +kernel, by decide +kernel, by decide +kernel, by decide +kernel, by decide +kernel⟩,
   ⟨tl, (mc []), rec, tt, by delta Serves; decide +kernel, by decide +kernel, by decide +kernel, rfl, by simp only [rec, List.length_map, List.length_range], by decide +kernel, by simp only [State.tableCause, bodySerial, bodyVersion, bodyNrule, leAt, rec, slice_table, List.length_map, List.length_range]; decide +kernel, by decide +kernel, by decide +kernel⟩,
   ⟨tl, (mc []), rec, ⟨true,false,true⟩, 3, by delta Serves; decide +kernel, by decide +kernel, by decide +kernel, rfl, by simp only [rec, List.length_map, List.length_range], by decide +kernel, by simp only [State.tableCause, bodySerial, bodyVersion, bodyNrule, leAt, rec, slice_table, List.length_map, List.length_range]; decide +kernel, by decide +kernel, by decide +kernel⟩,
   ⟨rl, (mc pr), true, true, by delta Serves; decide +kernel⟩,
   ⟨(hs rl 0x33 pr), (hc pr), true, false, 7, by delta Serves; decide +kernel⟩,
   ⟨pg2, (mc (List.replicate 64 3)), (List.replicate 64 3), 0x81000000, by delta Serves; decide +kernel⟩,
   ⟨(stg (up o2) cfg), (mc []), cfg, by delta Serves; decide +kernel⟩,
   ⟨(up gk), (mc [4,2,0,0]), 2, by delta Serves; decide +kernel⟩,
   ⟨(up gk), (mc [3,2,0,0]), 2, by delta Serves; decide +kernel⟩⟩

end WitnessO1b

namespace WitnessP1a

def up (x : State) : State := ((((((x.p F.SYS_STAT_FENCE_UP 1).p F.SYS_STAT_KEEPER_UP 1).p (F.MGT_SESS_STATE 1) 2).p (F.MGT_SESS_IDLE 1) 5).p F.MGT_STAT_LINK 1).p F.MGT_STAT_SESSIONS 1)
def wk (x : State) : State := {x with wake := {x.wake with mgtUp := true}}
def mb : State := wk (up base)
def n0 : Fin 4 := 0
def kk (x : State) (n : Nat) : State := let s := (x.p (F.KEY_POL_VALID n) 1).p (F.KEY_POL_USES n) 0x80; {s with key := {s.key with slots := [(n,⟨[1],[]⟩)]}}

theorem witness_managementPort :
    (∃ (s : State) (up : Bool), s.mgtLive = true ∧ s.b F.MGT_STAT_LINK ≠ up) ∧
    (∃ (s : State), s.mgtLink = true) ∧
    (∃ (s : State) (target : Bool), s.mgtLink = true ∧ target = true) ∧
    (∃ (s : State) (target : Bool), s.mgtLink = true ∧ target = false) ∧
    (∃ (s : State) (data : List Byte), s.mgtLink = true ∧ data.length + 48 ≤ 1280) ∧
    (∃ (s : State), s.mgtLink = true ∧ s.keeperServes = true ∧ (List.range 4).all s.sessionUp = false) ∧
    (∃ (s : State) (n : Fin 4), s.mgtLink = true ∧ s.keeperServes = true ∧ (∀ m < n.val, s.g (F.MGT_SESS_STATE m) ≠ 0) ∧ s.g (F.MGT_SESS_STATE n) = 0 ∧ s.slotValid 80 = true ∧ (s.slotOf 80).failing = []) ∧
    (∃ (s : State) (identity : List Byte) (n : Fin 4) (slot : Nat), s.mgtLink = true ∧ s.keeperServes = true ∧ (∀ m < n.val, s.g (F.MGT_SESS_STATE m) ≠ 0) ∧ s.g (F.MGT_SESS_STATE n) = 0 ∧ identity = [0x51, 0x50, 0x53, 0x4b, BitVec.ofNat 8 slot] ∧ ((8 ≤ slot ∧ slot < 16) ∨ (80 ≤ slot ∧ slot < 96)) ∧ (s.g (F.KEY_POL_USES slot)).testBit 7 = true ∧ s.slotValid slot = true ∧ (s.slotOf slot).failing = []) ∧
    (∃ (s : State), s.mgtLink = true ∧ s.keeperServes = true ∧ s.slotValid 80 = true ∧ (s.slotOf 80).failing = []) ∧
    (∃ (s : State), s.mgtLink = true ∧ s.keeperServes = true ∧ (∀ m < 4, s.g (F.MGT_SESS_STATE m) = 2)) ∧
    (∃ (s : State) (n : Fin 4), s.mgtLink = true ∧ s.keeperServes = true ∧ s.sessionUp n = true) ∧
    (∃ (s : State) (n : Fin 4), s.mgtLive = true ∧ s.sessionUp n = true) :=
  ⟨⟨mb, false, by decide +kernel⟩,
   ⟨mb, by decide +kernel⟩,
   ⟨mb, true, by decide +kernel⟩,
   ⟨mb, false, by decide +kernel⟩,
   ⟨mb, [1,2], by decide +kernel⟩,
   ⟨mb, by decide +kernel⟩,
   ⟨(kk mb 80), 0, by decide +kernel⟩,
   ⟨(kk (mb.p (F.MGT_SESS_STATE 0) 2) 8), [0x51,0x50,0x53,0x4b,8], 2, 8, by decide +kernel⟩,
   ⟨(kk mb 80), by decide +kernel⟩,
   ⟨([0,1,2,3].foldl (fun (x : State) n => x.p (F.MGT_SESS_STATE n) 2) mb), by decide +kernel⟩,
   ⟨mb, 1, by decide +kernel⟩,
   ⟨mb, 1, by decide +kernel⟩⟩

end WitnessP1a

namespace WitnessP1b

def db : State := {base.p F.RST_BOOT_STEP 8 with dbg := {base.dbg with ir := 0x10}, fuse := {base.fuse with dproto := true}}
def r6 : RegRow := (rowAt 6 0x80).getD ⟨0,0,0,0,0,0,0,0,0⟩
def hp : State := let s := (((db.p F.MOD_CUR_DEBUG 3).p F.KPX_STAT_HALTED 1).p F.DBG_STAT_HALTED 1); {s with core := {s.core with x := List.replicate 16 7}}
def tok (sc ten : Nat) : List Byte := leBytes 4 0x47424451 ++ leBytes 2 1 ++ leBytes 1 ten ++ leBytes 1 sc ++ leBytes 8 base.fuse.serial.toNat ++ List.replicate 16 9 ++ leBytes 4 77 ++ List.replicate 28 0 ++ List.replicate 96 1
def tk (x : State) (sc : Nat) : State := let s := (x.p F.MOD_CUR_LIFECYCLE 2).p (F.KEY_POL_VALID (slotConsent 0)) 1; {s with dbg := {s.dbg with nonce := some (List.replicate 16 9), token := (List.range 20).map (fun i => BitVec.ofNat 64 (leAt (tok sc 0) (8*i) 8))}}
def hq (x : State) : State := (((x.p F.MOD_CUR_DEBUG 3).p F.MOD_CUR_LIFT 6).p F.CAR_STAT_DZ 1)
def bl : State := arm (hq db) 0x31 1 2 []
def add : List Byte := leBytes 4 (1 * 2^22 + 2*2^18 + 3*2^14)
def img0 : List Byte := []
def st : State := let s := (((((hq db).p F.KPX_STAT_HALTED 1).p F.DBG_STAT_HALTED 1).p F.KPX_STATUS_PRIV 1).p F.KPX_ASLOT_SLOT 2).p F.KPX_ASLOT_MAPPED 1 |>.p F.MOD_CUR_POWER 4; ({s with core := {s.core with x := (List.range 16).map (fun i => BitVec.ofNat 64 (i*i)), pc := 0}, mem := (List.range 4).map (fun i => (codeBase 2 + i, add.getD i 0))})

theorem witness_tapInstructions : ∃ (s : State), s.wake.inReset = false :=
  ⟨base, by decide +kernel⟩

theorem witness_dpaccAccesses :
    (∃ (s : State), s.dpSelected = true ∧ (s.wake.watch = true ∨ s.canLive = false ∨ s.g F.RST_BOOT_STEP < 3)) ∧
    (∃ (s : State) (addr : BitVec 32), DpAt s ∧ addr.toNat = 0xf0000048) ∧
    (∃ (s : State) (addr : BitVec 32) (k : Nat), DpAt s ∧ k < 16 ∧ addr.toNat = 0xf0000200 + 8 * k) ∧
    (∃ (s : State) (addr : BitVec 32) (page : Nat) (off : Nat), DpAt s ∧ addr.toNat = 0x10000000 + 0x1000 * page + off ∧ off < 0x1000 ∧ off % 8 = 0 ∧ pageAssigned page = true ∧ page ≤ 0x2b ∧ page ∉ [4, 5, 0x20, 0x21, 0x28] ∧ s.mayRead .debug (readCol page (s.absOff .debug page off)) page = true) ∧
    (∃ (s : State) (addr : BitVec 32) (page : Nat) (off : Nat), DpAt s ∧ addr.toNat = 0x10000000 + 0x1000 * page + off ∧ off < 0x1000 ∧ off % 8 = 0 ∧ (page = 0x30 ∨ page = 0x36) ∧ s.scopeFine = false) ∧
    (∃ (s : State) (addr : BitVec 32) (k : Nat), DpAt s ∧ k < 20 ∧ addr.toNat = 0xf0000100 + 8 * k) ∧
    (∃ (s : State) (addr : BitVec 32) (k : Nat), DpAt s ∧ k < 4 ∧ addr.toNat = 0xf0000300 + 8 * k ∧ s.debug = .haltPermitted) ∧
    (∃ (s : State) (addr : BitVec 32) (page : Nat) (off : Nat) (row : RegRow), DpAt s ∧ addr.toNat = 0x10000000 + 0x1000 * page + off ∧ setting page off = true ∧ rowAt page off = some row ∧ row.wcol < 8 ∧ row.km = 0) ∧
    (∃ (s : State), DpAt s ∧ s.debug ≠ .closed) :=
  ⟨⟨(db.p F.RST_BOOT_STEP 2), by decide +kernel⟩,
   ⟨db, 0xf0000048, by delta DpAt; decide +kernel⟩,
   ⟨hp, 0xf0000208, 1, by delta DpAt; decide +kernel⟩,
   ⟨(hp.setWord (regKey 6 0x80) 0x123), 0x10006080, 6, 0x80, by delta DpAt; decide +kernel⟩,
   ⟨db, 0x10030080, 0x30, 0x80, by delta DpAt; decide +kernel⟩,
   ⟨db, 0xf0000108, 1, by delta DpAt; decide +kernel⟩,
   ⟨hp, 0xf0000308, 1, by delta DpAt; decide +kernel⟩,
   ⟨(hp.setWord (regKey 6 0x80) 0x123), 0x10006080, 6, 0x80, r6, by delta DpAt; decide +kernel⟩,
   ⟨hp, by delta DpAt; decide +kernel⟩⟩

theorem witness_debugCommands :
    (∃ (s : State), DpAt s) ∧
    (∃ (s : State) (ok : Bool), DpAt s ∧ s.tokenCause s.dpToken ok = none) ∧
    (∃ (s : State) (ok : Bool) (cause : Nat), DpAt s ∧ s.tokenCause s.dpToken ok = some cause) ∧
    (∃ (s : State), DpAt s ∧ s.haltRefusal = none ∧ s.haltBlocked = false) ∧
    (∃ (s : State), DpAt s ∧ s.haltRefusal = none ∧ s.haltBlocked = true) ∧
    (∃ (s : State) (cause : Nat), DpAt s ∧ s.haltRefusal = some cause) ∧
    (∃ (s : State), s.canLive = true ∧ s.b F.DBG_STAT_PENDING = true ∧ s.haltRefusal = none ∧ s.haltBlocked = false) ∧
    (∃ (s : State) (cause : Nat), s.canLive = true ∧ s.b F.DBG_STAT_PENDING = true ∧ s.haltRefusal = some cause) ∧
    (∃ (s : State), s.b F.DBG_STAT_PENDING = false ∨ (s.haltRefusal = none ∧ s.haltBlocked = true)) ∧
    (∃ (s : State), DpAt s ∧ s.debug = .haltPermitted ∧ s.b F.DBG_STAT_PENDING = true) ∧
    (∃ (s : State), DpAt s ∧ s.debug = .haltPermitted ∧ s.b F.DBG_STAT_PENDING = false) ∧
    (∃ (s : State), DpAt s ∧ s.debug = .haltPermitted ∧ s.b F.KPX_STAT_HALTED = true) ∧
    (∃ (s : State), DpAt s ∧ s.debug = .haltPermitted ∧ s.b F.KPX_STAT_HALTED = false) ∧
    (∃ (s : State), DpAt s ∧ s.debug ≠ .haltPermitted) ∧
    (∃ (s : State) (w : Nat) (rd : Fin 16) (rs1 : Fin 16) (rs2 : Fin 16), DpAt s ∧ s.b F.KPX_STAT_HALTED = true ∧ s.b F.DBG_STAT_HALTED = true ∧ s.atApplet = true ∧ s.power = .halt ∧ s.fetch .ok = .value w ∧ decodeLarva (BitVec.ofNat 32 w) = some (.a 0 rd rs1 rs2)) ∧
    (∃ (s : State), DpAt s ∧ (s.b F.KPX_STAT_HALTED = false ∨ s.atApplet = false)) ∧
    (∃ (s : State), DpAt s ∧ s.debug ≠ .closed) ∧ (∃ (s : State), DpAt s ∧ s.debug = .closed) :=
  ⟨⟨(tk db 1), by delta DpAt; decide +kernel⟩,
   ⟨(tk db 1), true, by delta DpAt; decide +kernel⟩,
   ⟨(tk db 1), false, 5, by delta DpAt; decide +kernel⟩,
   ⟨(hq db), by delta DpAt; decide +kernel⟩,
   ⟨bl, by delta DpAt; decide +kernel⟩,
   ⟨((hq db).p F.MOD_CUR_DEBUG 2), 0x10, by delta DpAt; decide +kernel⟩,
   ⟨((hq db).p F.DBG_STAT_PENDING 1), by decide +kernel⟩,
   ⟨(((hq db).p F.MOD_CUR_DEBUG 2).p F.DBG_STAT_PENDING 1), 0x10, by decide +kernel⟩,
   ⟨bl, by decide +kernel⟩,
   ⟨((hq db).p F.DBG_STAT_PENDING 1), by delta DpAt; decide +kernel⟩,
   ⟨(hq db), by delta DpAt; decide +kernel⟩,
   ⟨st, by delta DpAt; decide +kernel⟩,
   ⟨(hq db), by delta DpAt; decide +kernel⟩,
   ⟨((hq db).p F.MOD_CUR_DEBUG 2), by delta DpAt; decide +kernel⟩,
   ⟨st, (leAt add 0 4), 1, 2, 3, by delta DpAt; decide +kernel⟩,
   ⟨(tk db 1), by delta DpAt; decide +kernel⟩,
   ⟨(hq db), by delta DpAt; decide +kernel⟩, ⟨((hq db).p F.MOD_CUR_DEBUG 0), by delta DpAt; decide +kernel⟩⟩

end WitnessP1b

namespace WitnessS1

def img0 : List Byte := leBytes 4 0x41564c51 ++ leBytes 2 1 ++ [0,0] ++ leBytes 4 5 ++ leBytes 4 0 ++ leBytes 8 0 ++ leBytes 8 0x1234 ++ leBytes 4 4 ++ leBytes 4 0 ++ leBytes 4 0 ++ leBytes 2 0 ++ leBytes 2 64 ++ leBytes 2 0 ++ leBytes 2 0 ++ leBytes 2 0 ++ leBytes 2 10 ++ leBytes 4 0xfe ++ leBytes 2 0x4f8 ++ leBytes 2 0 ++ leBytes 2 3 ++ leBytes 2 0x103 ++ leBytes 2 0xffff ++ leBytes 2 0xffff ++ leBytes 4 0 ++ leBytes 4 (0x10 + 256*(0x80/8)) ++ List.replicate 24 0 ++ List.replicate 24 0 ++ leBytes 4 0 ++ List.replicate 96 0
def ap : State := let s := ((((((base.p F.KPX_STATUS_PRIV 1).p F.KPX_ASLOT_SLOT 2).p F.KPX_ASLOT_MAPPED 1).p F.LVA_STAT_RESIDENT 4).p F.MOD_CUR_LIFECYCLE 2).p F.SYS_STAT_FENCE_UP 1); {s with nvm := {s.nvm with applets := [(2,img0)]}, core := {s.core with x := List.replicate 16 0, pc := 0}}
def apx (x : State) (l : List (Nat × Word)) : State := {x with core := {x.core with x := l.foldl (fun a p => a.set p.1 p.2) x.core.x}}
def blk (x : State) (inp inl out cap aux auxl : Nat) : State := x.storeLe (dataBase 2) 8 inp |>.storeLe (dataBase 2 + 8) 8 inl |>.storeLe (dataBase 2 + 16) 8 out |>.storeLe (dataBase 2 + 24) 8 cap |>.storeLe (dataBase 2 + 32) 8 aux |>.storeLe (dataBase 2 + 40) 8 auxl
def b1 (inl cap auxl : Nat) (l : List (Nat × Word)) : State := apx (blk ap 0x10100 inl 0x10200 cap 0x10300 auxl) ([(2,0x10000)] ++ l)
def kx (x : State) (uses : Nat) : State := let s := (((x.p (F.KEY_POL_VALID 20) 1).p (F.KEY_POL_USES 20) uses).p (F.KEY_POL_APPLET 20) 1); {s with key := {s.key with slots := [(20,⟨[9,9],[]⟩)], handles := [⟨2, 77, .slot 20⟩, ⟨2,78,.eph 0⟩], eph := s.key.eph.set 0 (some ⟨true,[4]⟩)}}
def bb (x : State) : Block := x.block.getD ⟨0,[],0,0,[]⟩
def t1 : State := kx (b1 32 100 16 [(1,77)]) 0x3f
def t2 : State := kx (b1 32 100 97 [(1,77)]) 0x3ff
def t3 : State := kx (b1 32 100 193 [(1,78)]) 0x3ff
def t4 : State := kx (b1 32 10 60 [(1,77)]) 0x3ff
def t5 : State := kx (b1 32 4000 40 [(1,77)]) 0x3ff
def row0 : RegRow := (rowAt 0x10 0x80).getD ⟨0,0,0,0,0,0,0,0,0⟩
def img1 (p o : Nat) : List Byte := (img0.take 0x4c) ++ leBytes 4 (p + 256*(o/8)) ++ (img0.drop 0x50)
def row1 : RegRow := (rowAt 0x12 0xa8).getD ⟨0,0,0,0,0,0,0,0,0⟩
def pw : State := let s := apx ap [(1,0x10000000+0x1000*6+0x80),(2,0x123456)]; {s with nvm := {s.nvm with applets := [(2,img1 6 0x80)]}}
def te (e0 e1 e2: Nat) : List Byte := (img0.take 0x30) ++ leBytes 2 e0 ++ leBytes 2 e1 ++ leBytes 2 e2 ++ img0.drop 0x36
def ae (k : Nat) : State := {ap.p F.KPX_STATUS_PRIV 0 with lva := {ap.lva with queue := [⟨2,k,0x11,9,[1,2,3]⟩, ⟨2,0,0,0,[]⟩]}}
def ax (k : Nat) : State := {(apx ap [(1,0x12345)]).p F.HBX_STATE_STATE 2 with lva := {ap.lva with running := some ⟨2,k,1,9,[1,2,3]⟩}, host := {ap.host with hbxKeys := some [[1]]}}
def ll : State := (arm ((ap.p (F.KEY_POL_VALID 97) 1).p (F.KEY_POL_VALID 102) 1) 0x36 1 2 [(0x88,0x20000000)]).putBytes 0x20000000 img0

theorem witness_blockServices :
    (∃ (s : State) (b : Block), s.block = some b ∧ CallAt s 0x023) ∧
    (∃ (s : State) (b : Block), s.block = some b ∧ CallAt s 0x028) ∧
    (∃ (s : State) (b : Block) (key : List Byte), s.block = some b ∧ CallAt s 0x020 ∧ keyInHand s (s.xr 1) 0 key = true ∧ b.inp.length + 28 ≤ b.cap) ∧
    (∃ (s : State) (b : Block) (key : List Byte), s.block = some b ∧ CallAt s 0x021 ∧ keyInHand s (s.xr 1) 0 key = true ∧ 28 ≤ b.inp.length ∧ b.inp.length ≤ b.cap + 28) ∧
    (∃ (s : State) (b : Block) (key : List Byte), s.block = some b ∧ CallAt s 0x022 ∧ keyInHand s (s.xr 1) 1 key = true) ∧
    (∃ (s : State) (b : Block) (key : List Byte), s.block = some b ∧ CallAt s 0x024 ∧ keyInHand s (s.xr 1) 2 key = true ∧ 96 ≤ b.cap) ∧
    (∃ (s : State) (b : Block), s.block = some b ∧ CallAt s 0x025 ∧ b.aux.length = 193) ∧
    (∃ (s : State) (b : Block) (key : List Byte) (r : Nat), s.block = some b ∧ CallAt s 0x026 ∧ keyInHand s (s.xr 1) 3 key = true ∧ b.aux.length = 97 ∧ s.myHandles.length < 16 ∧ r < 32 ∧ (∀ h ∈ s.key.handles, h.key ≠ .eph r) ∧ (∀ q < r, ∃ h ∈ s.key.handles, h.key = .eph q)) ∧
    (∃ (s : State) (b : Block) (key : List Byte) (r : Nat), s.block = some b ∧ CallAt s 0x027 ∧ keyInHand s (s.xr 1) 4 key = true ∧ s.myHandles.length < 16 ∧ r < 32 ∧ (∀ h ∈ s.key.handles, h.key ≠ .eph r) ∧ (∀ q < r, ∃ h ∈ s.key.handles, h.key = .eph q)) ∧
    (∃ (s : State) (b : Block), s.block = some b ∧ CallAt s 0x050 ∧ 32 ≤ b.aux.length ∧ b.aux.length ≤ 64 ∧ s.life ≠ .returned ∧ (s.issueFull b.aux).1.length ≤ b.cap) ∧
    (∃ (s : State) (b : Block), s.block = some b ∧ CallAt s 0x051 ∧ 8 ≤ b.inp.length ∧ b.inp.length ≤ 64) :=
  ⟨⟨t1, (bb t1), by decide +kernel, callAt_of (by decide +kernel)⟩,
   ⟨t1, (bb t1), by decide +kernel, callAt_of (by decide +kernel)⟩,
   ⟨t1, (bb t1), [9,9], by decide +kernel, callAt_of (by decide +kernel), by decide +kernel⟩,
   ⟨t1, (bb t1), [9,9], by decide +kernel, callAt_of (by decide +kernel), by decide +kernel⟩,
   ⟨t1, (bb t1), [9,9], by decide +kernel, callAt_of (by decide +kernel), by decide +kernel⟩,
   ⟨t1, (bb t1), [9,9], by decide +kernel, callAt_of (by decide +kernel), by decide +kernel⟩,
   ⟨t3, (bb t3), by decide +kernel, callAt_of (by decide +kernel), by decide +kernel⟩,
   ⟨t2, (bb t2), [9,9], 1, by decide +kernel, callAt_of (by decide +kernel), by decide +kernel⟩,
   ⟨t1, (bb t1), [9,9], 1, by decide +kernel, callAt_of (by decide +kernel), by decide +kernel⟩,
   ⟨t5, (bb t5), by decide +kernel, callAt_of (by decide +kernel), by decide +kernel⟩,
   ⟨t1, (bb t1), by decide +kernel, callAt_of (by decide +kernel), by decide +kernel⟩⟩

theorem witness_registerServices :
    (∃ (s : State), CallAt s 0x010 ∧ s.suspended = false ∧ s.zeroized = false ∧ ((s.xr 1).toNat) < 256 ∧ slotClass ((s.xr 1).toNat) = 2 + s.tenantNo ∧ s.slotValid ((s.xr 1).toNat) = true ∧ s.b (F.KEY_POL_APPLET ((s.xr 1).toNat)) = true ∧ s.myHandles.length < 16 ∧ (s.slotOf ((s.xr 1).toNat)).failing = []) ∧
    (∃ (s : State), CallAt s 0x010 ∧ s.suspended = true) ∧
    (∃ (s : State), CallAt s 0x011 ∧ (∃ h ∈ s.myHandles, h.number = ((s.xr 1).toNat))) ∧
    (∃ (s : State), CallAt s 0x011 ∧ s.handleOf (s.xr 1) = none) ∧
    (∃ (s : State), CallAt s 0x030 ∧ ((s.xr 1).toNat) < 32) ∧
    (∃ (s : State), CallAt s 0x031 ∧ ((16 ≤ ((s.xr 1).toNat) ∧ ((s.xr 1).toNat) < 24 ∧ s.tenancy = .owner) ∨ (24 ≤ ((s.xr 1).toNat) ∧ ((s.xr 1).toNat) < 32 ∧ s.tenancy = .contractor)) ∧ s.ctr ((s.xr 1).toNat) < 0xffffffff) ∧
    (∃ (s : State), CallAt s 0x031 ∧ ((s.xr 1).toNat) < 16) ∧
    (∃ (s : State) (key : List Byte), CallAt s 0x040 ∧ jobNumberOk ((s.xr 1).toNat) = true ∧ ((s.xr 1).toNat) ∈ imgJobs s.caller ∧ keyInHand s (s.xr 2) 5 key = true) ∧
    (∃ (s : State), CallAt s 0x060) ∧
    (∃ (s : State), CallAt s 0x070 ∧ ((s.xr 1).toNat) ≤ 10 ∧ (imgGrantMod s.caller).testBit ((s.xr 1).toNat) = true) ∧
    (∃ (s : State), CallAt s 0x070 ∧ ((s.xr 1).toNat) ≤ 10 ∧ (imgGrantMod s.caller).testBit ((s.xr 1).toNat) = false) ∧
    (∃ (s : State) (page : Nat) (off : Nat) (row : RegRow), CallAt s 0x071 ∧ ((s.xr 1).toNat) = 0x10000000 + 0x1000 * page + off ∧ setting page off = true ∧ page + 256 * (off / 8) ∈ imgPagew s.caller ∧ page + 256 * (off / 8) ≠ 0 ∧ rowAt page off = some row ∧ row.wcol < 8 ∧ MayWrite s .keeper row.wcol page) ∧
    (∃ (s : State), CallAt s 0x080) ∧
    (∃ (s : State) (m : Nat), CallAt s 0x001 ∧ s.core.x.getD 1 0 = BitVec.ofNat 64 (0x10 + m) ∧ m < 4 ∧ s.sessionUp m = true ∧ (s.xr 3).toNat ≤ 1024 ∧ inWindows (s.xr 2).toNat (s.xr 3).toNat = true) ∧
    (∃ (s : State), CallAt s 0x001 ∧ 1024 < (s.xr 3).toNat) ∧
    (∃ (s : State), CoreAt s ∧ s.atApplet = true ∧ s.b F.KPX_STATUS_INTRAP = false ∧ s.granted 0x028 = false) ∧
    (∃ (s : State), CallAt s 0x028 ∧ s.block = none) :=
  ⟨⟨(kx (apx ap [(1,20)]) 0x3ff), callAt_of (by decide +kernel), by decide +kernel⟩,
   ⟨{kx (apx ap [(1,20)]) 0x3ff with bat := {ap.bat with lock := true}}, callAt_of (by decide +kernel), by decide +kernel⟩,
   ⟨(kx (apx ap [(1,77)]) 0x3ff), callAt_of (by decide +kernel), by decide +kernel⟩,
   ⟨(kx (apx ap [(1,20)]) 0x3ff), callAt_of (by decide +kernel), by decide +kernel⟩,
   ⟨(kx (apx ap [(1,20)]) 0x3ff), callAt_of (by decide +kernel), by decide +kernel⟩,
   ⟨(kx (apx ap [(1,20)]) 0x3ff), callAt_of (by decide +kernel), by decide +kernel⟩,
   ⟨(kx (apx ap [(1,3),(2,77)]) 0x3ff), callAt_of (by decide +kernel), by decide +kernel⟩,
   ⟨(kx (apx ap [(1,3),(2,77)]) 0x3ff), [9,9], callAt_of (by decide +kernel), by decide +kernel⟩,
   ⟨(kx (apx ap [(1,20)]) 0x3ff), callAt_of (by decide +kernel)⟩,
   ⟨(kx (apx ap [(1,3),(2,77)]) 0x3ff), callAt_of (by decide +kernel), by decide +kernel⟩,
   ⟨(kx (apx ap [(1,0),(2,77)]) 0x3ff), callAt_of (by decide +kernel), by decide +kernel⟩,
   ⟨pw, 6, 0x80, ((rowAt 6 0x80).getD row1), callAt_of (by decide +kernel), by delta MayWrite; decide +kernel⟩,
   ⟨(kx (apx ap [(1,20)]) 0x3ff), callAt_of (by decide +kernel)⟩,
   ⟨((kx (apx ap [(1,0x11),(2,0x10100),(3,5)]) 0x3ff).p (F.MGT_SESS_STATE 1) 2), 1, callAt_of (by decide +kernel), by decide +kernel⟩,
   ⟨((kx (apx ap [(1,0x11),(2,0x10100),(3,0x501)]) 0x3ff).p (F.MGT_SESS_STATE 1) 2), callAt_of (by decide +kernel), by decide +kernel⟩,
   ⟨{ap with nvm := {ap.nvm with applets := []}}, coreAt_of (by decide +kernel), by decide +kernel⟩,
   ⟨(kx (apx ap [(1,20)]) 0x3ff), callAt_of (by decide +kernel), by decide +kernel⟩⟩

theorem witness_appletEntries :
    (∃ (s : State) (slot : Fin 8) (img : List Byte), s.appletImage slot.val = some img ∧ s.resident slot.val = true ∧ s.slotFaulted slot.val = false ∧ imgTickMs img ≠ 0 ∧ imgEntry img 2 ≠ 0xffff ∧ s.lva.queue.length < 32 ∧ s.lva.queue.all (fun w => w.slot != slot.val || w.kind != 2) = true) ∧
    (∃ (s : State) (img : List Byte) (v : Invocation) (rest : List Invocation), s.lva.queue = v :: rest ∧ s.lva.running = none ∧ s.power = .run ∧ s.b F.KPX_STAT_LOCKUP = false ∧ s.b F.SYS_STAT_FENCE_UP = true ∧ v.slot < 8 ∧ s.appletImage v.slot = some img) ∧
    (∃ (s : State) (v : Invocation), CallAt s 0x000 ∧ s.lva.running = some v ∧ v.slot < 8 ∧ (v.kind = 1 → v.channel = 1 ∧ s.channelUp 1 = true)) ∧
    (∃ (s : State) (acc : Accessor) (slot : Fin 8) (img : List Byte) (addr : Word) (check : LoadCheck), SequenceAt s acc 9 0x36 1 [(0x88, addr)] ∧ img = s.imageAt (addr.toNat % 2 ^ 32) ∧ s.appletCause slot.val img check = none) ∧
    (∃ (s : State) (acc : Accessor) (slot : Fin 8) (img : List Byte) (addr : Word) (check : LoadCheck) (c : Nat), SequenceAt s acc 9 0x36 1 [(0x88, addr)] ∧ img = s.imageAt (addr.toNat % 2 ^ 32) ∧ s.appletCause slot.val img check = some c) :=
  ⟨⟨ap, 2, img0, by decide +kernel⟩,
   ⟨(ae 1), img0, ⟨2,1,0x11,9,[1,2,3]⟩, [⟨2,0,0,0,[]⟩], by decide +kernel⟩,
   ⟨(ax 1), ⟨2,1,1,9,[1,2,3]⟩, callAt_of (by decide +kernel), by decide +kernel⟩,
   ⟨ll, .keeper, 3, img0, 0x20000000, ⟨true,true⟩, by delta SequenceAt; delta MayWrite; decide +kernel⟩,
   ⟨ll, .keeper, 3, img0, 0x20000000, ⟨false,true⟩, 4, by delta SequenceAt; delta MayWrite; decide +kernel⟩⟩

end WitnessS1

end Sys2Proof
end

section
/-!
PROOF. Requests on the mode axes (O26). The statement's last clause quantifies over every state, also over one that no run of the 641 builds: a
work item of DSE's intake queue may name a bus that is neither CB0 nor CB1. Only Halt's end makes that matter (R378): the evaluation that ends
Halt takes the queue, the call is refused, its acknowledge finds the transmit queue full, and that is counted in LOG class 40 + bus (R206).
-/
namespace Sys2Proof
open Sys2Proof.Machine

/-- The bus number whose LOG class 40 + bus has its entry where MOD_SEQ lies: the entry of class `i` is at LOG_CLASS0 + 8 i. -/
def strayBus : Nat := (F.MOD_SEQ_SEQ.key - (F.LOG_CLASS_COUNT 0).key) / 8 - 40

/-- The registers of the counterexample: clocked, halted in Out of Service, with job 0 of the stray bus enabled and sent through the queue. -/
def strayRegs : State :=
  let s := { State.reset with wake := { Wake.held with inReset := false } }
  let halted := ((((s.p F.CLK_STAT_PLL_LOCK 1).p F.MOD_CUR_POWER Power.halt.code).p F.MOD_CUR_LIFT LiftMode.outOfService.code).p
    F.MOD_CUR_DEBUG DebugScope.haltPermitted.code).p F.KPX_STAT_HALTED 1
  (halted.p (F.CB_JOB_CFG_EN strayBus 0) 1).p (F.CB_JOB_CFG_BUF strayBus 0) 8

/-- The counterexample: DSE's intake queue holds a car call from the stray bus, whose job is keyed and whose transmit queue is full. -/
def strayIntake : State :=
  { strayRegs with
    cb1 := { strayRegs.cb1 with keys := [⟨0, [], [], false, 0⟩], queue := List.replicate 32 (strayRegs.jobFrame 1 0 .job []) }
    dse := { strayRegs.dse with intake := [.call strayBus 0 [0x11]] } }

theorem strayIntake_live : strayIntake.canLive = true := by decide +kernel
theorem strayIntake_notDeferred : 3 ∉ strayIntake.mod.held := by decide +kernel
theorem strayIntake_notAsked : 3 ∉ strayIntake.mod.fresh := by decide +kernel
theorem strayIntake_noHaltWaits : strayIntake.b F.DBG_STAT_PENDING = false := by decide +kernel
theorem strayIntake_seq : strayIntake.g F.MOD_SEQ_SEQ = 0 := by decide +kernel

theorem exec_modEvaluation (s : State) : exec .modEvaluation s = .next (effModEvaluation s).settle := rfl

/-- One evaluation advances MOD_SEQ twice: for the end of Halt, and by the stray count. -/
theorem strayIntake_evaluated_seq : (effModEvaluation strayIntake).settle.g F.MOD_SEQ_SEQ = 2 := by decide +kernel

/-- Refutes O26: an evaluation may advance MOD_SEQ by more than one where DSE's intake queue names a bus that the 641 does not have. -/
theorem not_modeRequests : ¬ Obligations.modeRequests := by
  unfold Obligations.modeRequests
  rintro ⟨-, evaluation⟩
  obtain ⟨t, ht, -, -, -, hseq⟩ :=
    evaluation strayIntake strayIntake_live strayIntake_notDeferred strayIntake_notAsked strayIntake_noHaltWaits
  rw [exec_modEvaluation] at ht
  injection ht with ht
  rw [← ht, strayIntake_evaluated_seq, strayIntake_seq] at hseq
  split at hseq <;> exact absurd hseq (by decide)

end Sys2Proof
end

section
/-!
PROOF. What a command leaves whose last act is the core's: an instruction that completes, and an exception. The doorbells that settle
after it change nothing of the core (R219).
-/
namespace Sys2Proof
open Sys2Proof.Machine

/-- A core that runs at pc runs the instruction of a Larva row. -/
theorem CoreAt.coreRow_eq {s : State} (h : CoreAt s) (op : LarvaOp) (env : CoreEnv) : s.coreRow op env = s.runOp op env := by
  obtain ⟨hready, hdue, hbp, hfetch⟩ := h
  exact coreRow_run s op env hready hdue hbp hfetch

/-- A core that runs at pc comes to what the command runs there: no interrupt, breakpoint or failed fetch comes first. -/
theorem CoreAt.coreCycle_eq {s : State} (h : CoreAt s) (run : State → State) : s.coreCycle run = run s := by
  obtain ⟨-, hdue, hbp, v, hfetch⟩ := h
  have hstop : (s.bpHit && !s.core.passed) = false := by rcases hbp with hb | hb <;> simp [hb]
  simp [State.coreCycle, hdue, hstop, hfetch]

/-- The frame of an effect on the core stays its frame when the doorbells have settled. -/
theorem quiet_settle {P : Nat → Prop} {s u : State} (h : Quiet P { s with core := u.core } u) :
    Quiet P { s with core := u.settle.core } u.settle := by
  rw [State.settle_core]
  exact Quiet.trans h (Still.quiet (still_settle u))

/-- A command that ends with an instruction completing, after the general registers became `x`, runs as `Runs` says. -/
theorem runs_of_coreTo {i : Instr} {s : State} {x : List Word} {pc : Word}
    (h : exec i s = .next (({ s with core := { s.core with x := x } } : State).coreTo pc).settle) : Runs i s x pc := by
  refine ⟨_, h, ?_, ?_, quiet_settle (quiet_coreTo _ pc)⟩
  · rw [State.settle_core, coreTo_core]
  · rw [g_settle _ _ (by decide) (by decide), instret_coreTo, State.g_core]

/-- An exception touches the trap registers and the core. -/
theorem quiet_exception (s : State) (cause : Nat) (pc addr : Word) (word : BitVec 32) (h : s.b F.KPX_STATUS_INTRAP = false)
    (hc : cause < 32) :
    Quiet trapKeys { s with core := (s.exception cause pc addr word).core } (s.exception cause pc addr word) := by
  obtain ⟨-, -, -, -, -, -, -, -, -, hword, hstate⟩ := exception_entry s cause pc addr word h hc
  refine ⟨fun k hk _ _ => ?_, by rw [hstate]⟩
  simp only [trapKeys, not_or] at hk
  obtain ⟨hpc, hcause, haddr, hwd, hpriv⟩ := hk
  exact hword k hpc hcause haddr hwd hpriv

/-- A command that ends with an exception, where none is being handled, enters it as R515 lists. -/
theorem trapped_of_exception {i : Instr} {s : State} {cause : Nat} {pc addr : Word} {word : BitVec 32}
    (h : s.b F.KPX_STATUS_INTRAP = false) (hc : cause < 32) (he : exec i s = .next (s.exception cause pc addr word).settle) :
    Gives i s (Trapped s cause pc addr word) := by
  obtain ⟨hpc, hcause, haddr, hword, hret, hpriv, hintrap, hinten, hcore, -, -⟩ := exception_entry s cause pc addr word h hc
  have keeps (f : Fld) (h4 : f.key / 0x100000 ≠ 4) (h5 : f.key / 0x100000 ≠ 5) := g_settle (s.exception cause pc addr word) f h4 h5
  refine ⟨_, he, ?_, ?_, ?_, ?_, ?_, ?_, ?_, ?_, ?_, quiet_settle (quiet_exception s cause pc addr word h hc)⟩
  · rw [keeps _ (by decide) (by decide), hpc]
  · rw [keeps _ (by decide) (by decide), hcause]
  · rw [keeps _ (by decide) (by decide), haddr]
  · rw [keeps _ (by decide) (by decide), hword]
  · rw [keeps _ (by decide) (by decide), hret]
  · rw [keeps _ (by decide) (by decide), hpriv]
  · rw [keeps _ (by decide) (by decide), hintrap]
  · rw [keeps _ (by decide) (by decide), hinten]
  · rw [State.settle_core, hcore]

/-- At Keeper privilege a fault of an instruction is its exception, and ends no entry (R518). -/
theorem coreFault_keeper {s : State} (h : s.atApplet = false) (cause : Nat) (addr : Word) (word : BitVec 32) :
    s.coreFault cause addr word = s.exception cause s.core.pc addr word := by
  simp [State.coreFault, h]

end Sys2Proof
end

section
/-!
PROOF. The branches (O3): what `branchTaken` compares for each OP, and where a taken and an untaken branch go on.
-/
namespace Sys2Proof
open Sys2Proof.Machine

theorem branchTaken_ifeq (a b : Word) : branchTaken 0x20 a b = true ↔ a = b := beq_iff_eq
theorem branchTaken_ifne (a b : Word) : branchTaken 0x21 a b = true ↔ a ≠ b := bne_iff_ne
theorem branchTaken_iflt (a b : Word) : branchTaken 0x22 a b = true ↔ a.toInt < b.toInt := BitVec.slt_iff_toInt_lt
theorem branchTaken_ifge (a b : Word) : branchTaken 0x23 a b = true ↔ b.toInt ≤ a.toInt := by
  simp [branchTaken, BitVec.slt]
theorem branchTaken_ifltu (a b : Word) : branchTaken 0x24 a b = true ↔ a.toNat < b.toNat := BitVec.ult_iff_toNat_lt
theorem branchTaken_ifgeu (a b : Word) : branchTaken 0x25 a b = true ↔ b.toNat ≤ a.toNat := by
  simp [branchTaken, BitVec.ult]

/-- An offset in words, sign-extended, as a number of bytes. -/
theorem wordOffset_eq (off : BitVec 18) : (4 : Word) * off.signExtend 64 = BitVec.ofInt 64 (4 * off.toInt) := by
  rw [BitVec.ofInt_mul]
  rfl

/-- A B-format row goes to its target when its comparison holds, and else on to the next instruction (R512). -/
theorem runs_branch {i : Instr} {s : State} {op : Nat} {rs1 rs2 : Fin 16} {off : BitVec 18} {c : Prop} (h : CoreAt s)
    (hi : exec i s = .next (s.coreRow (.b op rs1 rs2 off) CoreEnv.plain).settle)
    (hc : branchTaken op (s.xr rs1) (s.xr rs2) = true ↔ c) :
    (c → Runs i s s.core.x (s.core.pc + BitVec.ofInt 64 (4 * off.toInt))) ∧ (¬ c → Runs i s s.core.x (s.core.pc + 4)) := by
  have hrun : exec i s = .next (s.runB op rs1 rs2 off).settle := by
    rw [hi, h.coreRow_eq]
    rfl
  rw [State.runB, wordOffset_eq] at hrun
  constructor <;> intro holds
  · rw [if_pos (hc.mpr holds)] at hrun
    exact runs_of_coreTo hrun
  · rw [if_neg (mt hc.mp holds)] at hrun
    exact runs_of_coreTo hrun

/-- Settles O3: each of the six rows is a B-format row with the comparison that its OP makes. -/
theorem branches : Obligations.branches := by
  unfold Obligations.branches
  intro s rs1 rs2 off h
  exact ⟨runs_branch h rfl (branchTaken_ifeq _ _), runs_branch h rfl (branchTaken_ifne _ _),
    runs_branch h rfl (branchTaken_iflt _ _), runs_branch h rfl (branchTaken_ifge _ _),
    runs_branch h rfl (branchTaken_ifltu _ _), runs_branch h rfl (branchTaken_ifgeu _ _)⟩

end Sys2Proof
end

section
/-!
PROOF. The system instructions and the core's own events (O6): TRET, IDLE and DSTOP at Keeper privilege, IDLE_RESUME, ILLEGAL,
INTERRUPT and BREAKPOINT_MATCH.
-/
namespace Sys2Proof
open Sys2Proof.Machine

/-! ## TRET (R515, R516) -/

theorem trapReturn_priv (s : State) : s.trapReturn.g F.KPX_STATUS_PRIV = s.g F.KPX_STATUS_RETPRIV := by
  unfold State.trapReturn
  rw [State.g_core, g_p_disjoint _ _ (by decide) (by decide), g_p_same _ _ _ (by decide)]
  exact Nat.mod_eq_of_lt (g_lt s F.KPX_STATUS_RETPRIV)

theorem trapReturn_intrap (s : State) : s.trapReturn.g F.KPX_STATUS_INTRAP = 0 := by
  unfold State.trapReturn
  rw [State.g_core, g_p_same _ _ _ (by decide), Nat.zero_mod]

theorem trapReturn_inten (s : State) : s.trapReturn.g F.KPX_STATUS_INTEN = s.g F.KPX_STATUS_INTEN := by
  unfold State.trapReturn
  rw [State.g_core, g_p_disjoint _ _ (by decide) (by decide), g_p_disjoint _ _ (by decide) (by decide)]

theorem trapReturn_core (s : State) :
    s.trapReturn.core = { s.core with pc := BitVec.ofNat 64 (s.g F.KPX_TRAPPC_PC), passed := false, held := false } := rfl

/-- A return from a trap touches KPX_STATUS and the core. -/
theorem quiet_trapReturn (s : State) :
    Quiet (fun k => k = F.KPX_STATUS_PRIV.key) { s with core := s.trapReturn.core } s.trapReturn :=
  Quiet.trans (quiet_p { s with core := s.trapReturn.core } F.KPX_STATUS_PRIV _) (quiet_p _ F.KPX_STATUS_INTRAP _)

/-- TRET touches KPX_STATUS, the count of instructions and the core. -/
theorem quiet_tret (s : State) :
    Quiet (fun k => k = F.KPX_STATUS_PRIV.key ∨ k = F.KPX_INSTRET_COUNT.key)
      { s with core := (s.wrapInc F.KPX_INSTRET_COUNT).trapReturn.core } (s.wrapInc F.KPX_INSTRET_COUNT).trapReturn := by
  have counted : Quiet (fun k => k = F.KPX_INSTRET_COUNT.key) { s with core := (s.wrapInc F.KPX_INSTRET_COUNT).trapReturn.core }
      { s.wrapInc F.KPX_INSTRET_COUNT with core := (s.wrapInc F.KPX_INSTRET_COUNT).trapReturn.core } :=
    quiet_p { s with core := (s.wrapInc F.KPX_INSTRET_COUNT).trapReturn.core } F.KPX_INSTRET_COUNT _
  exact Quiet.trans (Quiet.mono counted (fun _ => Or.inr)) (Quiet.mono (quiet_trapReturn _) (fun _ => Or.inl))

/-- TRET at Keeper privilege is counted and returns from the trap. -/
theorem exec_tret_keeper {s : State} (h : CoreAt s) (hk : s.atApplet = false) (code : BitVec 12) :
    exec (.tret code) s = .next (s.wrapInc F.KPX_INSTRET_COUNT).trapReturn.settle := by
  change Host.Outcome.next (s.coreRow (.s 2 code) CoreEnv.plain).settle = _
  rw [h.coreRow_eq]
  simp [State.runOp, State.runS, hk]

theorem gives_tret {s : State} (h : CoreAt s) (hk : s.atApplet = false) (code : BitVec 12) :
    Gives (.tret code) s (fun t =>
      t.g F.KPX_STATUS_PRIV = s.g F.KPX_STATUS_RETPRIV ∧ t.g F.KPX_STATUS_INTRAP = 0 ∧ t.g F.KPX_STATUS_INTEN = s.g F.KPX_STATUS_INTEN ∧
      t.core = { s.core with pc := BitVec.ofNat 64 (s.g F.KPX_TRAPPC_PC), passed := false, held := false } ∧
      Quiet (fun k => k = F.KPX_STATUS_PRIV.key ∨ k = F.KPX_INSTRET_COUNT.key) { s with core := t.core } t) := by
  have counted (f : Fld) (hf : f.key ≠ F.KPX_INSTRET_COUNT.key) : (s.wrapInc F.KPX_INSTRET_COUNT).g f = s.g f := g_p_ne s _ hf
  refine ⟨_, exec_tret_keeper h hk code, ?_, ?_, ?_, ?_, quiet_settle (quiet_tret s)⟩
  · rw [g_settle _ _ (by decide) (by decide), trapReturn_priv, counted _ (by decide)]
  · rw [g_settle _ _ (by decide) (by decide), trapReturn_intrap]
  · rw [g_settle _ _ (by decide) (by decide), trapReturn_inten, counted _ (by decide)]
  · rw [State.settle_core, trapReturn_core, counted _ (by decide)]
    rfl

/-! ## IDLE and IDLE_RESUME (R513) -/

/-- IDLE at Keeper privilege goes on where the T0 request line is asserted, and else waits. -/
theorem exec_idle_keeper {s : State} (h : CoreAt s) (hk : s.atApplet = false) :
    exec .idle s = .next
      (if s.requestLine false then s.coreNext else ({ s with core := { s.core with idle := true } } : State)).settle := by
  change Host.Outcome.next (s.coreRow (.s 3 0) CoreEnv.plain).settle = _
  rw [h.coreRow_eq]
  simp [State.runOp, State.runS, hk]

theorem gives_idle_waits {s : State} (h : CoreAt s) (hk : s.atApplet = false) (hl : s.requestLine false = false) :
    Gives .idle s (fun t => t.core = { s.core with idle := true } ∧ Still { s with core := t.core } t) := by
  have he := exec_idle_keeper h hk
  rw [hl, if_neg Bool.false_ne_true] at he
  exact ⟨_, he, State.settle_core _, quiet_settle (Still.refl _)⟩

theorem runs_idle {s : State} (h : CoreAt s) (hk : s.atApplet = false) (hl : s.requestLine false = true) :
    Runs .idle s s.core.x (s.core.pc + 4) := by
  have he := exec_idle_keeper h hk
  rw [if_pos hl] at he
  exact runs_of_coreTo he

/-- The wait in IDLE ends with IDLE completing. -/
theorem effIdleResume_eq {s : State} (hw : s.core.idle = true) (hl : s.requestLine false = true) (hc : s.canLive = true)
    (hp : s.power ≠ .halt) (hh : s.b F.KPX_STAT_HALTED = false) :
    effIdleResume s = ({ s with core := { s.core with idle := false } } : State).coreNext := by
  simp [effIdleResume, hw, hl, hc, hp, hh]

theorem gives_idleResume {s : State} (hw : s.core.idle = true) (hl : s.requestLine false = true) (hc : s.canLive = true)
    (hp : s.power ≠ .halt) (hh : s.b F.KPX_STAT_HALTED = false) :
    Gives .idleResume s (fun t => t.core = { s.core with idle := false, pc := s.core.pc + 4, passed := false, held := false } ∧
      Quiet (fun k => k = F.KPX_INSTRET_COUNT.key) { s with core := t.core } t) := by
  refine ⟨(effIdleResume s).settle, rfl, ?_, ?_⟩ <;> rw [effIdleResume_eq hw hl hc hp hh]
  · exact State.settle_core _
  · exact quiet_settle (quiet_coreTo _ _)

/-! ## DSTOP and ILLEGAL (R507, R513, R514) -/

theorem gives_dstop {s : State} (h : CoreAt s) (hn : s.b F.KPX_STATUS_INTRAP = false) (hk : s.atApplet = false) (code : BitVec 12) :
    Gives (.dstop code) s (Trapped s 9 s.core.pc 0 (LarvaOp.s 1 code).word) := by
  refine trapped_of_exception hn (by decide) ?_
  change Host.Outcome.next (s.coreRow (.s 1 code) CoreEnv.plain).settle = _
  rw [h.coreRow_eq]
  simp [State.runOp, State.runS, State.runDstop, hk]

theorem gives_illegal {s : State} {word : BitVec 32} (h : CoreAt s) (hn : s.b F.KPX_STATUS_INTRAP = false) (hk : s.atApplet = false)
    (hw : decodeLarva word = none) : Gives (.illegal word) s (Trapped s 1 s.core.pc 0 word) := by
  refine trapped_of_exception hn (by decide) ?_
  change Host.Outcome.next (effIllegal word s).settle = _
  rw [effIllegal, hw, h.1, h.coreCycle_eq, coreFault_keeper hk]
  rfl

/-! ## INTERRUPT (R516) -/

theorem interruptDue_iff (s : State) :
    s.interruptDue = true ↔
      s.requestLine false = true ∧ s.b F.KPX_STATUS_INTRAP = false ∧ (s.atApplet = true ∨ s.b F.KPX_STATUS_INTEN = true) := by
  simp [State.interruptDue, and_assoc]

theorem gives_interrupt {s : State} (hr : s.coreReady = true) (hl : s.requestLine false = true) (hn : s.b F.KPX_STATUS_INTRAP = false)
    (he : s.atApplet = true ∨ s.b F.KPX_STATUS_INTEN = true) : Gives .interrupt s (Trapped s 16 s.core.pc 0 0) := by
  have due : s.interruptDue = true := (interruptDue_iff s).mpr ⟨hl, hn, he⟩
  refine trapped_of_exception hn (by decide) ?_
  change Host.Outcome.next (effInterrupt s).settle = _
  rw [effInterrupt, hr, due]
  rfl

theorem gives_interrupt_notDue {s : State}
    (h : s.requestLine false = false ∨ s.b F.KPX_STATUS_INTRAP = true ∨ (s.atApplet = false ∧ s.b F.KPX_STATUS_INTEN = false)) :
    Gives .interrupt s (Still s) := by
  have notDue : s.interruptDue = false := by
    rw [← Bool.not_eq_true, interruptDue_iff]
    rintro ⟨hl, hn, he⟩
    rcases h with h | h | ⟨hk, hm⟩
    · exact absurd hl (by simp [h])
    · exact absurd hn (by simp [h])
    · exact absurd he (by simp [hk, hm])
  have same : effInterrupt s = s := by simp [effInterrupt, notDue]
  refine ⟨(effInterrupt s).settle, rfl, ?_⟩
  rw [same]
  exact still_settle s

/-! ## BREAKPOINT_MATCH (R673) -/

/-- Where HALT would be refused, a match stops nothing and is passed. -/
theorem effBreakpointMatch_refused {s : State} (hr : s.coreReady = true) (hb : s.bpHit = true) (hh : s.haltRefusal.isSome = true) :
    effBreakpointMatch s = { s with core := { s.core with passed := true } } := by
  simp [effBreakpointMatch, State.stopHere, hr, hb, hh]

theorem gives_breakpointMatch_refused {s : State} (hr : s.coreReady = true) (hb : s.bpHit = true) (hh : s.haltRefusal.isSome = true) :
    Gives .breakpointMatch s (fun t => t.core = { s.core with passed := true } ∧ Still { s with core := t.core } t) := by
  refine ⟨(effBreakpointMatch s).settle, rfl, ?_, ?_⟩ <;> rw [effBreakpointMatch_refused hr hb hh]
  · exact State.settle_core _
  · exact quiet_settle (Still.refl _)

/-- Settles O6: the clauses one by one, each by the lemma about its instruction or event. -/
theorem systemInstructions : Obligations.systemInstructions := by
  unfold Obligations.systemInstructions
  refine ⟨fun s code => ⟨?_, ?_, ?_, ?_, ?_⟩, fun s word => ⟨?_, ?_, ?_, ?_⟩⟩
  · exact fun h hk => gives_tret h hk code
  · exact gives_idle_waits
  · exact runs_idle
  · exact gives_idleResume
  · exact fun h hn hk => gives_dstop h hn hk code
  · exact gives_illegal
  · exact gives_interrupt
  · exact gives_interrupt_notDue
  · exact gives_breakpointMatch_refused

end Sys2Proof
end

section
/-!
PROOF. The debug port (O48): the instructions of the TAP (R654 to R656), reads and writes through DPACC (R659, R660, R665, R671), and the debug
port's window indexes (R667). An address of the page space goes to its page, one of 0xf0000000 and up to a debug-port register; where DPACC
operations have no effect, only the result that the next Capture-DR loads changes.
-/
namespace Sys2Proof
open Sys2Proof.Machine

/-- A command that puts `v` into one part of the state, a part that the settling of doorbells leaves alone. -/
theorem gives_put {α : Type} {i : Instr} {s : State} {v : α} (get : State → α) (put : State → α → State)
    (hsettle : ∀ x : State, get x.settle = get x) (hput : get (put s v) = v) (h : exec i s = .next (put s v).settle) :
    Gives i s (fun t => get t = v ∧ Still (put s (get t)) t) := by
  refine ⟨_, h, ?_, ?_⟩ <;> rw [hsettle, hput]
  exact still_settle _

/-- A command that changes the debug port's own state alone. -/
theorem gives_dbg {i : Instr} {s : State} {d : DebugState} (h : exec i s = .next ({ s with dbg := d } : State).settle) :
    Gives i s (fun t => t.dbg = d ∧ Still { s with dbg := t.dbg } t) :=
  gives_put State.dbg (fun x d => { x with dbg := d }) State.settle_dbg rfl h

/-! ## The TAP (R654 to R656) -/

/-- Out of power-on reset the instruction register takes the opcode, or BYPASS where the instruction is not available. -/
theorem tapSelect_eq {s : State} (h : s.wake.inReset = false) (op : Nat) (available : Bool) :
    s.tapSelect op available = s.tapIr (if available then op else 0x1f) := by
  simp [State.tapSelect, State.tapLive, h]

theorem gives_tapSelect {i : Instr} {s : State} {op : Nat} {available : Bool} (h : s.wake.inReset = false)
    (he : exec i s = .next (s.tapSelect op available).settle) :
    Gives i s (fun t => t.dbg = { s.dbg with ir := if available then op else 0x1f } ∧ Still { s with dbg := t.dbg } t) := by
  rw [tapSelect_eq h] at he
  exact gives_dbg he

theorem gives_tapReset {s : State} (h : s.wake.inReset = false) :
    Gives .tapReset s (fun t => t.dbg = { s.dbg with ir := 1 } ∧ Still { s with dbg := t.dbg } t) := by
  have he : effTapReset s = s.tapIr 1 := by simp [effTapReset, State.tapLive, h]
  exact gives_dbg (show exec .tapReset s = .next (s.tapIr 1).settle from he ▸ rfl)

theorem gives_idcode {s : State} (h : s.wake.inReset = false) :
    Gives .idcode s (fun t => t.dbg = { s.dbg with ir := 1 } ∧ t.readOut = idcodeWord ∧
      Still { s with dbg := t.dbg, readOut := t.readOut } t) := by
  have he : effIdcode s = { s.tapIr 1 with readOut := idcodeWord } := by simp [effIdcode, tapSelect_eq h, State.tapLive, h]
  refine ⟨(effIdcode s).settle, rfl, ?_, ?_, ?_⟩ <;> rw [he]
  · exact State.settle_dbg _
  · exact State.settle_readOut _
  · rw [State.settle_dbg, State.settle_readOut]
    exact still_settle _

/-! ## Where DPACC operations have no effect (R660) -/

theorem dpLive_eq_false {s : State} (h : s.wake.watch = true ∨ s.canLive = false ∨ s.g F.RST_BOOT_STEP < 3) : s.dpLive = false := by
  rcases h with hw | hc | hb
  · simp [State.dpLive, State.canLive, hw]
  · simp [State.dpLive, hc]
  · simp [State.dpLive, hb]

theorem effDpaccRead_inert {s : State} (hs : s.dpSelected = true) (hl : s.dpLive = false) (addr : BitVec 32) :
    effDpaccRead addr s = s.dpResult 0 := by
  simp [effDpaccRead, hs, hl]

theorem effDpaccWrite_inert {s : State} (hs : s.dpSelected = true) (hl : s.dpLive = false) (addr : BitVec 32) (data : Word) :
    effDpaccWrite addr data s = s.dpResult 0 := by
  simp [effDpaccWrite, hs, hl]

/-- A DP_CMD command changes nothing there. -/
theorem gives_dpCmdRow_inert {i : Instr} {s : State} {act : State → State} (hl : s.dpLive = false)
    (he : exec i s = .next (s.dpCmdRow act).settle) : Gives i s (Still s) := by
  rw [State.dpCmdRow, hl, Bool.and_false, if_neg Bool.false_ne_true] at he
  exact ⟨_, he, still_settle s⟩

/-- A DP_CMD command acts where DPACC operations have an effect. -/
theorem dpCmdRow_eq {s : State} (h : DpAt s) (act : State → State) : s.dpCmdRow act = act s := by
  simp [State.dpCmdRow, h.1, h.2]

/-! ## The addresses of DPACC (R659) -/

theorem dpPage_of_page {a page off : Nat} (ha : a = 0x10000000 + 0x1000 * page + off) (ho : off < 0x1000)
    (hp : page ≤ 0x2b ∨ page = 0x30 ∨ page = 0x36) : dpPage a = some (page, off) := by
  have hin : 0x10000000 ≤ a ∧ a < 0x10000000 + (0x36 + 1) * 0x1000 := by omega
  have hpage : (a - 0x10000000) / 0x1000 = page := by omega
  have hoff : a % 0x1000 = off := by omega
  have hreach : page ≤ 0x2b ∨ 0x30 ≤ page := by omega
  simp [dpPage, pageOf, hin, hpage, hoff, hreach]

theorem dpPage_of_port {a : Nat} (h : 0xf0000000 ≤ a) : dpPage a = none := by
  have hout : ¬ a < 0x10000000 + (0x36 + 1) * 0x1000 := by omega
  simp [dpPage, pageOf, hout]

theorem effDpaccRead_page {s : State} {addr : BitVec 32} {page off : Nat} (h : DpAt s) (ha : dpPage addr.toNat = some (page, off)) :
    effDpaccRead addr s = (s.dpPageRead page off).2.dpResult (s.dpPageRead page off).1 := by
  simp [effDpaccRead, h.1, h.2, ha]

theorem effDpaccRead_port {s : State} {addr : BitVec 32} {off : Nat} (h : DpAt s) (ha : addr.toNat = 0xf0000000 + off)
    (ho : off < 0x1000) : effDpaccRead addr s = s.dpResult (s.dpRead off) := by
  have hin : 0xf0000000 + off < 0xf0001000 := by omega
  simp [effDpaccRead, h.1, h.2, ha, dpPage_of_port, hin]

theorem effDpaccWrite_page {s : State} {addr : BitVec 32} {page off : Nat} (h : DpAt s) (ha : dpPage addr.toNat = some (page, off))
    (h8 : off % 8 = 0) (data : Word) : effDpaccWrite addr data s = (s.pageStore .debug page off data).dpResult 0 := by
  simp [effDpaccWrite, h.1, h.2, ha, h8]

theorem effDpaccWrite_port {s : State} {addr : BitVec 32} {off : Nat} (h : DpAt s) (ha : addr.toNat = 0xf0000000 + off)
    (ho : off < 0x1000) (data : Word) :
    effDpaccWrite addr data s = (s.dpStore off data).draw.2.dpResult (s.dpStore off data).draw.1 := by
  have hin : 0xf0000000 + off < 0xf0001000 := by omega
  simp [effDpaccWrite, h.1, h.2, ha, dpPage_of_port, hin]

/-! ## The debug-port registers (R665, R671, R677) -/

/-- DP_STATUS. -/
theorem dpRead_status (s : State) :
    s.dpRead 0x48 = BitVec.ofNat 64 (s.dbg.cstate + s.dbg.cause * 2 ^ 8 + s.g F.MOD_CUR_DEBUG * 2 ^ 16 +
      (if s.b F.KPX_STAT_HALTED then 2 ^ 19 else 0) + s.g F.DBG_STAT_PENDING * 2 ^ 20) := by
  have hhalted : b2n s.coreHalted * 2 ^ 19 = if s.b F.KPX_STAT_HALTED then 2 ^ 19 else 0 := by
    cases hb : s.b F.KPX_STAT_HALTED <;> simp [State.coreHalted, b2n, hb]
  rw [← hhalted]
  rfl

/-- DP_X0 to DP_X15 read the halted core's registers under Halt-permitted, and else zero. -/
theorem dpRead_coreReg (s : State) {k : Nat} (hk : k < 16) :
    s.dpRead (0x200 + 8 * k) = if s.debug = .haltPermitted ∧ s.b F.KPX_STAT_HALTED = true then s.xr k else 0 := by
  have hnonce : 0x200 + 8 * k ≠ 8 := by omega
  have h48 : 0x200 + 8 * k ≠ 0x48 := by omega
  have h8 : (0x200 + 8 * k) % 8 = 0 := by omega
  have hin : 0x200 + 8 * k < 0x280 := by omega
  simp [State.dpRead, State.scopeHalt, State.coreHalted, hnonce, h48, h8, hin]

theorem dpStore_token (s : State) (v : Word) {k : Nat} (hk : k < 20) :
    s.dpStore (0x100 + 8 * k) v = { s with dbg := { s.dbg with token := s.dbg.token.set k v } } := by
  have h40 : 0x100 + 8 * k ≠ 0x40 := by omega
  have h8 : (0x100 + 8 * k) % 8 = 0 := by omega
  have hin : 0x100 + 8 * k < 0x1a0 := by omega
  simp [State.dpStore, h40, h8, hin]

theorem dpStore_breakpoint {s : State} (hd : s.debug = .haltPermitted) (v : Word) {k : Nat} (hk : k < 4) :
    s.dpStore (0x300 + 8 * k) v = { s with dbg := { s.dbg with bps := s.dbg.bps.set k (v &&& 0x8000000000077ffc) } } := by
  have h40 : 0x300 + 8 * k ≠ 0x40 := by omega
  have h8 : (0x300 + 8 * k) % 8 = 0 := by omega
  have htoken : ¬ 0x300 + 8 * k < 0x1a0 := by omega
  have hcore : ¬ 0x300 + 8 * k < 0x280 := by omega
  have hpc : 0x300 + 8 * k ≠ 0x280 := by omega
  have hin : 0x300 + 8 * k < 0x320 := by omega
  simp [State.dpStore, State.scopeHalt, hd, h40, h8, htoken, hcore, hpc, hin]

/-- A read that shows `v` and leaves the rest. -/
theorem gives_dpaccRead {s : State} {addr : BitVec 32} {v : Word} (he : effDpaccRead addr s = s.dpResult v) :
    Gives (.dpaccRead addr) s (fun t => t.dbg = { s.dbg with result := v } ∧ Still { s with dbg := t.dbg } t) :=
  gives_dbg (show exec (.dpaccRead addr) s = .next (s.dpResult v).settle from he ▸ rfl)

theorem gives_dpaccRead_port {s : State} {addr : BitVec 32} {off : Nat} {v : Word} (h : DpAt s) (ha : addr.toNat = 0xf0000000 + off)
    (ho : off < 0x1000) (hv : s.dpRead off = v) :
    Gives (.dpaccRead addr) s (fun t => t.dbg = { s.dbg with result := v } ∧ Still { s with dbg := t.dbg } t) :=
  gives_dpaccRead (hv ▸ effDpaccRead_port h ha ho)

/-- A write of a debug-port register that stores into the port's own state; what a Capture-DR shows after it is free. -/
theorem gives_dpaccWrite_port {s : State} {addr : BitVec 32} {data : Word} {off : Nat} {d : DebugState} (h : DpAt s)
    (ha : addr.toNat = 0xf0000000 + off) (ho : off < 0x1000) (hd : s.dpStore off data = { s with dbg := d }) :
    Gives (.dpaccWrite addr data) s (fun t =>
      t.dbg = { d with result := t.dbg.result } ∧ Still { s with dbg := t.dbg, freeCount := s.freeCount + 1 } t) := by
  have hshown : effDpaccWrite addr data s =
      { s with dbg := { d with result := Config.freeValue s.freeCount }, freeCount := s.freeCount + 1 } := by
    rw [effDpaccWrite_port h ha ho, hd]
    rfl
  refine ⟨(effDpaccWrite addr data s).settle, rfl, ?_, ?_⟩ <;> rw [hshown, State.settle_dbg]
  exact still_settle _

/-! ## Pages (R121, R142, R143, R659, R666) -/

/-- Outside LOG, the ICU, the CAN controllers and HBX a read that the column grants changes nothing. -/
theorem readAs_unchanged {s : State} {acc : Accessor} {page off : Nat} (ha : pageAssigned page = true)
    (hp : page ∉ [4, 5, 0x20, 0x21, 0x28]) (hm : s.mayRead acc (readCol page (s.absOff acc page off)) page = true) :
    (s.readAs acc page off).2 = s := by
  simp only [List.mem_cons, List.not_mem_nil, or_false, not_or] at hp
  obtain ⟨h4, h5, h20, h21, h28⟩ := hp
  have hlog : logClassAt page (s.absOff acc page off) = none := by simp [logClassAt, h4]
  cases hw : writeOnly page (s.absOff acc page off) <;> simp [State.readAs, ha, hm, hw, hlog, h5, h20, h21, h28]

theorem dpPageRead_observed {s : State} {page off : Nat} (h8 : off % 8 = 0) (hp : page ≤ 0x2b) :
    s.dpPageRead page off = s.readAs .debug page off := by
  have h30 : page ≠ 0x30 := by omega
  have h36 : page ≠ 0x36 := by omega
  simp [State.dpPageRead, h8, h30, h36]

theorem dpPageRead_withheld {s : State} {page off : Nat} (h8 : off % 8 = 0) (hp : page = 0x30 ∨ page = 0x36)
    (hf : s.scopeFine = false) : s.dpPageRead page off = (0, s.violation page) := by
  simp [State.dpPageRead, h8, hp, hf]

/-- The map gives the debug port no write of any page (R123). -/
theorem pageStore_debug {page : Nat} (ha : pageAssigned page = true) (s : State) (off : Nat) (v : Word) :
    s.pageStore .debug page off v = s.violation page := by
  simp [State.pageStore, State.pageStoreWith, State.reaches, ha]

/-- An access through DPACC that is withheld: the result is zero, and the page counts it. -/
def DpWithheld (s : State) (page : Nat) (t : State) : Prop :=
  t.dbg = { s.dbg with result := 0 } ∧ t.g (hdrTrouble page 2) = satTo 16 (s.g (hdrTrouble page 2) + 1) ∧
  Quiet (fun k => k = regKey page 0x30) { s with dbg := t.dbg } t

theorem gives_withheld {i : Instr} {s : State} {page : Nat} (h4 : page ≠ 4) (h5 : page ≠ 5)
    (he : exec i s = .next ((s.violation page).dpResult 0).settle) : Gives i s (DpWithheld s page) := by
  have hkey (q : Nat) (hq : page ≠ q) : (hdrTrouble page 2).key / 0x100000 ≠ q := by simp [hdrTrouble, regKey]; omega
  have hdbg : ((s.violation page).dpResult 0).settle.dbg = { s.dbg with result := 0 } := by
    rw [State.settle_dbg, State.dpResult, State.violation_dbg]
  refine ⟨_, he, hdbg, ?_, ?_⟩
  · rw [g_settle _ _ (hkey 4 h4) (hkey 5 h5), State.dpResult, State.g_dbg, State.violation_g_same]
  · rw [hdbg]
    exact Quiet.trans (quiet_violation { s with dbg := { s.dbg with result := 0 } } page) (Still.quiet (still_settle _))

theorem gives_dpaccRead_page {s : State} {addr : BitVec 32} {page off : Nat} (h : DpAt s)
    (ha : addr.toNat = 0x10000000 + 0x1000 * page + off) (ho : off < 0x1000) (h8 : off % 8 = 0) (hassigned : pageAssigned page = true)
    (hp : page ≤ 0x2b) (hside : page ∉ [4, 5, 0x20, 0x21, 0x28])
    (hm : s.mayRead .debug (readCol page (s.absOff .debug page off)) page = true) :
    Gives (.dpaccRead addr) s (fun t => t.dbg = { s.dbg with result := (s.readAs .debug page off).1 } ∧ Still { s with dbg := t.dbg } t) := by
  refine gives_dpaccRead ?_
  rw [effDpaccRead_page h (dpPage_of_page ha ho (.inl hp)), dpPageRead_observed h8 hp, readAs_unchanged hassigned hside hm]

theorem gives_dpaccRead_withheld {s : State} {addr : BitVec 32} {page off : Nat} (h : DpAt s)
    (ha : addr.toNat = 0x10000000 + 0x1000 * page + off) (ho : off < 0x1000) (h8 : off % 8 = 0) (hp : page = 0x30 ∨ page = 0x36)
    (hf : s.scopeFine = false) : Gives (.dpaccRead addr) s (DpWithheld s page) := by
  have he : exec (.dpaccRead addr) s = .next (effDpaccRead addr s).settle := rfl
  rw [effDpaccRead_page h (dpPage_of_page ha ho (.inr hp)), dpPageRead_withheld h8 hp hf] at he
  exact gives_withheld (by omega) (by omega) he

/-- A register of settings lies at a multiple of 8 on an assigned page of the debug port's reach, neither LOG's nor the ICU's. -/
theorem setting_place {page off : Nat} (h : setting page off = true) :
    pageAssigned page = true ∧ page ≤ 0x2b ∧ page ≠ 4 ∧ page ≠ 5 ∧ off < 0x1000 ∧ off % 8 = 0 := by
  simp only [setting, Bool.and_eq_true, decide_eq_true_eq, List.contains_iff_mem] at h
  obtain ⟨⟨⟨⟨⟨hpage, -⟩, ho⟩, h8⟩, -⟩, -⟩ := h
  have hplace : ∀ p ∈ [0x00, 0x01, 0x02, 0x06, 0x10, 0x11, 0x12, 0x13, 0x14, 0x15, 0x1b, 0x1c, 0x29, 0x2a, 0x2b],
      pageAssigned p = true ∧ p ≤ 0x2b ∧ p ≠ 4 ∧ p ≠ 5 := by decide
  obtain ⟨hassigned, hp, h4, h5⟩ := hplace page hpage
  exact ⟨hassigned, hp, h4, h5, by omega, h8⟩

theorem gives_dpaccWrite_setting {s : State} {addr : BitVec 32} {data : Word} {page off : Nat} (h : DpAt s)
    (ha : addr.toNat = 0x10000000 + 0x1000 * page + off) (hset : setting page off = true) :
    Gives (.dpaccWrite addr data) s (DpWithheld s page) := by
  obtain ⟨hassigned, hp, h4, h5, ho, h8⟩ := setting_place hset
  have he : exec (.dpaccWrite addr data) s = .next (effDpaccWrite addr data s).settle := rfl
  rw [effDpaccWrite_page h (dpPage_of_page ha ho (.inl hp)) h8, pageStore_debug hassigned] at he
  exact gives_withheld h4 h5 he

/-! ## The debug port's window indexes (R135, R667) -/

/-- DP_WIN under Observe or a wider scope moves the debug port's window of the page by the low `w` bits of the index, `w` being the page's width. -/
theorem exec_dpWin {s : State} (h : DpAt s) (hd : s.debug ≠ .closed) (page : Byte) (k w : Nat)
    (hw : (if page.toNat = 0x1b then 10 else if page.toNat = 0x31 then 8 else 6) = w) :
    exec (.dpWin page (BitVec.ofNat 10 k)) s = .next (s.setWindow .debug page.toNat (k % 2 ^ w)).settle := by
  have hobserve : s.scopeObserve = true := by simp [State.scopeObserve, hd]
  have hle : w ≤ 10 := by split_ifs at hw <;> omega
  have hlow : fld (BitVec.ofNat 10 k).toNat 0 w = k % 2 ^ w := by
    rw [BitVec.toNat_ofNat]
    exact Nat.mod_mod_of_dvd k (pow_dvd_pow 2 hle)
  change Host.Outcome.next (s.dpCmdRow (fun x => x.dpWindow page.toNat (BitVec.ofNat 10 k).toNat)).settle = _
  rw [dpCmdRow_eq h, State.dpWindow, hobserve, if_pos rfl, hw, hlow]

/-- Settles O48: the clauses one by one, the reads and writes by the address that DPACC names, the TAP's by whether the instruction is available. -/
theorem dpaccAccesses : Obligations.dpaccAccesses := by
  unfold Obligations.dpaccAccesses
  refine ⟨fun s addr data page off k row ok => ⟨?_, ?_, ?_, ?_, ?_, ?_, ?_, ?_, ?_, ?_, ?_, ?_⟩, ?_⟩
  · intro hs hinert
    have hl := dpLive_eq_false hinert
    have hwrite : exec (.dpaccWrite addr data) s = .next (s.dpResult 0).settle := effDpaccWrite_inert hs hl addr data ▸ rfl
    exact ⟨gives_dpaccRead (effDpaccRead_inert hs hl addr), gives_dbg hwrite,
      gives_dpCmdRow_inert hl rfl, gives_dpCmdRow_inert hl rfl, gives_dpCmdRow_inert hl rfl, gives_dpCmdRow_inert hl rfl,
      gives_dpCmdRow_inert hl rfl, gives_dpCmdRow_inert hl rfl, gives_dpCmdRow_inert hl rfl, gives_dpCmdRow_inert hl rfl⟩
  · exact fun h ha => gives_dpaccRead_port (off := 0x48) h ha (by decide) (dpRead_status s)
  · exact fun h hk ha => gives_dpaccRead_port h (ha.trans (Nat.add_assoc 0xf0000000 0x200 _)) (by omega) (dpRead_coreReg s hk)
  · exact gives_dpaccRead_page
  · exact gives_dpaccRead_withheld
  · exact fun h hk ha =>
      gives_dpaccWrite_port h (ha.trans (Nat.add_assoc 0xf0000000 0x100 _)) (by omega) (dpStore_token s data hk)
  · exact fun h hk ha hd =>
      gives_dpaccWrite_port h (ha.trans (Nat.add_assoc 0xf0000000 0x300 _)) (by omega) (dpStore_breakpoint hd data hk)
  · exact fun h ha hset _ _ _ => gives_dpaccWrite_setting h ha hset
  · exact fun h hd => gives_put State.carWin (fun x w => { x with carWin := w }) State.settle_carWin rfl (exec_dpWin h hd 0x18 k 6 rfl)
  · exact fun h hd => gives_put State.callWin (fun x w => { x with callWin := w }) State.settle_callWin rfl (exec_dpWin h hd 0x1b k 10 rfl)
  · exact fun h hd => gives_put State.jobWin (fun x w => { x with jobWin := w }) State.settle_jobWin rfl (exec_dpWin h hd 0x21 k 6 rfl)
  · exact fun h hd => gives_put State.keyWin (fun x w => { x with keyWin := w }) State.settle_keyWin rfl (exec_dpWin h hd 0x31 k 8 rfl)
  · intro s h
    exact ⟨gives_tapReset h, gives_tapSelect h rfl, gives_tapSelect h rfl, gives_tapSelect h rfl, gives_tapSelect h rfl,
      gives_tapSelect h rfl, gives_tapSelect (op := 0x1f) (available := true) h rfl, gives_idcode h⟩

end Sys2Proof
end
